-- ==== Sys2Proof/Word.lean ====
section
/-! DEFINITION. The word types of the Cadril 7140, and the fixed tables (sixteen areas, twelve slots, ...) that hold its records. -/

namespace Sys2Proof

/-- One byte of a telegram, a request or the image. -/
abbrev Byte := BitVec 8

/-- A two-byte figure: a load figure, a signature, a count as carried on a line. -/
abbrev Word16 := BitVec 16

/-- A plant area, 0..15 (chapter 00, fixed numbers). -/
abbrev Area := Fin 16

/-- A set of areas: bit n of the 16-bit value stands for area n (chapter 12). -/
abbrev AreaSet := BitVec 16

/-- An alarm tag, 0..4095. -/
abbrev Tag := BitVec 12

/-- An occurrence number, 0..255, wrapping (R8). -/
abbrev Occurrence := BitVec 8

/-- A badge number; 0 means none. -/
abbrev Credential := BitVec 24

/-- A value of the 32-bit station seconds counter. -/
abbrev Seconds := BitVec 32

/-- A station number as the straps and the telegram header give it, 0..63; 1..62 name stations. -/
abbrev StationNo := BitVec 6

/-- A beacon period code: 0..3 for 1, 2, 4, 8 s. -/
abbrev PeriodCode := BitVec 2

/-- Every area, in area order. -/
def allAreas : List Area := List.finRange 16

/-- Area `a` is a member of the set. -/
def AreaSet.has (x : AreaSet) (a : Area) : Bool := x.getLsbD a.val

/-- The set holding area `a` alone. -/
def AreaSet.single (a : Area) : AreaSet := 1#16 <<< a.val

/-- A table of `n` like things, its entry `i` given by `f i`. -/
def tabulate {α : Type} {n : Nat} (f : Fin n → α) : Vector α n := ⟨⟨List.ofFn f⟩, by simp⟩

@[simp] theorem tabulate_get {α : Type} {n : Nat} (f : Fin n → α) (i : Fin n) :
    (tabulate f).get i = f i := by
  simp [tabulate, Vector.get]
  rfl

/-- The table with its entry `i` replaced by `x`. -/
def setAt {α : Type} {n : Nat} (v : Vector α n) (i : Fin n) (x : α) : Vector α n :=
  tabulate fun j => if j = i then x else v.get j

@[simp] theorem setAt_get_self {α : Type} {n : Nat} (v : Vector α n) (i : Fin n) (x : α) :
    (setAt v i x).get i = x := by simp [setAt]

@[simp] theorem setAt_get_other {α : Type} {n : Nat} (v : Vector α n) (i j : Fin n) (x : α)
    (h : j ≠ i) : (setAt v i x).get j = v.get j := by simp [setAt, h]

theorem setAt_get {α : Type} {n : Nat} (v : Vector α n) (i j : Fin n) (x : α) :
    (setAt v i x).get j = if j = i then x else v.get j := by simp [setAt]

end Sys2Proof
end

