-- ==== Sys2Proof/Syntax.lean ====
section
/-! DEFINITION. The commands of the part: one constructor for each row of spec/opcode_table.json. A command is an operation of one of the part's ports, an event on its line or pins, or a timer's end. -/

namespace Sys2Proof

/-- What follows the request code in a write transaction of the Console Port (R160, R161, section 12.2): the parameter
length, absent when SELn rose before it arrived, and the bytes that arrived after it before SELn rose. DESIGN CHOICE: the
parameter length takes one byte (log 51). -/
structure Frame where
  declared : Option Byte
  params : List Byte
deriving DecidableEq, Repr

/-- The frame of a request whose declared length is the number of its parameter bytes. -/
def Frame.of (params : List Byte) : Frame :=
  { declared := some (BitVec.ofNat 8 params.length), params := params }

/-- The commands. Those without operands act on what State holds: the oldest item of the receive ring for a TAKE or a
COMPLETION, the head of the transmit queue for the link's own events. -/
inductive Instr where
  /-- The supply rises; the operand is the level of the strap pins STN5..STN0 (R170). -/
  | powerOnReset (straps : StationNo)
  /-- RESETn is held low and rises again; the operand is the level of the strap pins (R170). -/
  | consoleReset (straps : StationNo)
  /-- The EEPROM read ends: whether every byte was acknowledged, and the bytes read (R171). -/
  | imageReadComplete (acknowledged : Bool) (bytes : List Byte)
  /-- The settle count reaches 0 (R174). -/
  | settleEnd
  /-- The isolation timer reaches 0 (R175). -/
  | isolationEnd
  /-- A Console Port transaction whose first byte names neither kind (R160). -/
  | voidTransaction (first : Byte)
  /-- A read transaction that clocks out this many bytes after its first byte (R160). -/
  | readTransaction (clocked : Nat)
  /-- The STATUS request (R164). -/
  | status (f : Frame)
  /-- The READ-ENTRY request (R165). -/
  | readEntry (f : Frame)
  /-- The READ-LIST request (R165). -/
  | readList (f : Frame)
  /-- The READ-AREA request (R166). -/
  | readArea (f : Frame)
  /-- The READ-RECEPTION request (R166). -/
  | readReception (f : Frame)
  /-- The READ-EVENTS request (R168). -/
  | readEvents (f : Frame)
  /-- The READ-STATS request (R169). -/
  | readStats (f : Frame)
  /-- The ACK request (R25). -/
  | ack (f : Frame)
  /-- The SHELVE request (R30). -/
  | shelve (f : Frame)
  /-- The UNSHELVE request (R32). -/
  | unshelve (f : Frame)
  /-- The SILENCE request (R50). -/
  | silence (f : Frame)
  /-- The OFFER request (R118). -/
  | offer (f : Frame)
  /-- The ACCEPT request (R125). -/
  | accept (f : Frame)
  /-- The DECLINE request (R126). -/
  | decline (f : Frame)
  /-- The RELIEF request (R139). -/
  | relief (f : Frame)
  /-- The LOGOUT request (R88). -/
  | logout (f : Frame)
  /-- The DECLARE-TRIP request (R110). -/
  | declareTrip (f : Frame)
  /-- The RESTORE request (R110). -/
  | restore (f : Frame)
  /-- The RESTART request (R169). -/
  | restart (f : Frame)
  /-- A press edge of the SILENCE key (R55). -/
  | keySilencePress
  /-- A press edge of the ACCEPT key (R55). -/
  | keyAcceptPress
  /-- A press edge of the DECLINE key (R55). -/
  | keyDeclinePress
  /-- A press edge of the RELIEF key (R139). -/
  | keyReliefPress
  /-- A debounced change of an ALARM contact input (R58). -/
  | alarmInputChange (input : Fin 8)
  /-- An activation edge of a TRIP contact input (R60). -/
  | tripInputActivation (input : Fin 8)
  /-- The bits of one burst of BCLK edges, in order of arrival: no gap of more than 20 ms within it, and one such gap
  before and after it (R82). -/
  | badgePresentation (bits : List Bool)
  /-- The bytes of a telegram that ended on the line: header, payload and check as far as they arrived (R150). -/
  | telegramReceived (bytes : List Byte)
  /-- ATU takes a CONDITION telegram (R9). -/
  | takeCondition
  /-- ATU takes an ACKNOWLEDGE telegram (R27). -/
  | takeAcknowledge
  /-- ATU takes a SHELVE telegram with seconds above 0 (R33). -/
  | takeShelve
  /-- ATU takes a SHELVE telegram with seconds 0 (R34). -/
  | takeUnshelve
  /-- The shelf of this tag's entry runs out on a tick (R37). -/
  | shelfExpiry (tag : Tag)
  /-- The 10 s metering tick (R66). -/
  | meteringTick
  /-- ARU takes a BEACON (R99). -/
  | takeBeacon
  /-- The age of this area's holder passes three of its periods on a tick (R101). -/
  | holderAged (area : Area)
  /-- The age of this station's record passes three of its periods on a tick (R93). -/
  | stationUnheard (station : StationNo)
  /-- The claim delay of this orphaned area reaches 0 on a tick (R102). -/
  | claimDelayRun (area : Area)
  /-- The beacon schedule count reaches 0 on a tick (R97). -/
  | beaconScheduleDue
  /-- ARU takes a SYNC-REQUEST (R106). -/
  | takeSyncRequest
  /-- ARU takes a TRIP telegram with action TRIP (R107). -/
  | takeTrip
  /-- ARU takes a TRIP telegram with action RESTORE (R108). -/
  | takeRestore
  /-- SSU takes a LOGIN telegram (R86). -/
  | takeLogin
  /-- HOU takes an OFFER telegram (R121). -/
  | takeOffer
  /-- HOU takes a DIGEST telegram with a handover number 1..255 (R122). -/
  | takeHandoverDigest
  /-- HOU takes a DIGEST telegram with handover number 0 (R135). -/
  | takeSyncDigest
  /-- HOU takes a REPLY (R128). -/
  | takeReply
  /-- HOU takes a RELEASE (R130). -/
  | takeRelease
  /-- HOU takes a WITHDRAW (R131). -/
  | takeWithdraw
  /-- The line is idle and LIF begins an attempt with the head of the queue (R155). -/
  | sendAttempt
  /-- The attempt loses the arbitration (R148). -/
  | arbitrationLost
  /-- The telegram in transmission is sent without error (R155). -/
  | lineCompletion
  /-- A bit after the arbitration field reads back wrong (R155). -/
  | transmitError
  /-- LIF has had a head for 20 ms without seeing the line idle (R157). -/
  | busyFault
  /-- The completion mark of an input's CONDITION is taken (R58). -/
  | conditionCompletion
  /-- The completion mark of the station's own ACKNOWLEDGE is taken (R29). -/
  | acknowledgeCompletion
  /-- The completion mark of the station's own SHELVE is taken (R29). -/
  | shelveCompletion
  /-- The completion mark of the station's own TRIP with action TRIP is taken (R107). -/
  | tripCompletion
  /-- The completion mark of the station's own TRIP with action RESTORE is taken (R108). -/
  | restoreCompletion
  /-- The completion mark of the station's own LOGIN is taken (R86). -/
  | loginCompletion
  /-- The completion mark of the beacon is taken (R97). -/
  | beaconCompletion
  /-- The completion mark of a SYNC-REQUEST is taken (R105). -/
  | syncRequestCompletion
  /-- The completion mark of an OFFER is taken (R120). -/
  | offerCompletion
  /-- The completion mark of a handover segment is taken (R120). -/
  | digestSegmentCompletion
  /-- The completion mark of a sync segment is taken (R134). -/
  | syncSegmentCompletion
  /-- The completion mark of a reception record's REPLY is taken (R127). -/
  | replyCompletion
  /-- The completion mark of a RELEASE is taken (R129). -/
  | releaseCompletion
  /-- The completion mark of an answer list item's telegram is taken (R117). -/
  | answerItemCompletion
  /-- The gap count of the answer list's item at this place (0 the oldest) runs out on a tick (R117). -/
  | answerGapExpiry (item : Fin 4)
  /-- The gap timer of this reception record runs out on a tick (R122, R135). -/
  | gapTimeout (record : Fin 4)
  /-- The review timer of this reception record runs out on a tick (R126). -/
  | reviewTimeout (record : Fin 4)
  /-- The release timer of this reception record runs out on a tick (R131). -/
  | releaseTimeout (record : Fin 4)
  /-- The reply timer of this offer record runs out on a tick (R131). -/
  | replyTimeout (record : Fin 4)
  /-- The unattended grace timer reaches 0 on a tick (R91). -/
  | graceExpiry
  /-- The relief window reaches 0 on a tick (R140). -/
  | reliefWindowExpiry
  /-- This key's debounced state changes from DOWN to UP (R54). -/
  | keyReleaseEdge (key : Fin 4)
  /-- This key's record settles from UNKNOWN, to DOWN when `down` holds, else to UP (R54). -/
  | keyFirstSettling (key : Fin 4) (down : Bool)
  /-- This input's debounced condition settles from UNKNOWN, to ACTIVE when `active` holds, else to CLEAR (R57). -/
  | inputFirstSettling (input : Fin 8) (active : Bool)
  /-- This TRIP input's debounced condition changes from ACTIVE to CLEAR (R60). -/
  | tripInputDeactivation (input : Fin 8)
  /-- The 5 ms sample tick: bit k of `keys` is yes while KEYk's button is closed, bit i of `contacts` while INi's
  contact is closed (R49, R52, R54, R57, R82). -/
  | sampleTick (keys : BitVec 4) (contacts : BitVec 8)
  /-- A write transaction with this request code, outside the nineteen (R163). -/
  | badRequest (code : Byte) (f : Frame)
deriving DecidableEq, Repr

end Sys2Proof
end

