-- ==== Sys2Proof/Config.lean ====
section
/-! DEFINITION. What is fixed for every Cadril 7140 (the fixed numbers of chapter 00), and the one free value: a number the manual does not state. -/

namespace Sys2Proof.Config

/-- The alarm table holds at most 512 entries (R6). -/
def tableCapacity : Nat := 512

/-- Every overflow indicator clears when a removal brings the count to this or below (R18). -/
def overflowClearAt : Nat := 448

/-- The digest store holds 512 summaries (R114). -/
def storeCapacity : Nat := 512

/-- The event queue holds 64 records (R167). -/
def eventCapacity : Nat := 64

/-- The receive ring is 1,024 bytes (R150). -/
def ringBytes : Nat := 1024

/-- The bytes of one completion mark in the ring, and of the room reserved for one (R152). -/
def markBytes : Nat := 4

/-- The transmit queue has 12 slots (R153). -/
def slotCount : Nat := 12

/-- A request telegram is admitted while fewer than 8 slots are occupied (R153). -/
def requestSlots : Nat := 8

/-- The answer list holds at most 4 items (R117). -/
def answerCapacity : Nat := 4

/-- Seconds of the gap timer and of an answer item's gap count (R117, R122). -/
def gapSeconds : Nat := 5

/-- Seconds of the release timer (R127). -/
def releaseSeconds : Nat := 10

/-- Seconds the releaser waits beyond the acceptance window (R120). -/
def replySlack : Nat := 15

/-- Seconds before a further SYNC-REQUEST may be issued (R105). -/
def resyncSeconds : Nat := 30

/-- Seconds of ISOLATED (R158). -/
def isolationSeconds : Nat := 30

/-- Consecutive transmit errors that take the station into ISOLATED (R157). -/
def errorLimit : Nat := 16

/-- Sample ticks of the badge hold-off (R82). -/
def holdOffTicks : Nat := 400

/-- The greatest shelf seconds (R35, R42). -/
def shelfMax : Nat := 28800

/-- The least shelf seconds a SHELVE telegram places (R35). -/
def shelfMin : Nat := 60

/-- Positions of the horn cadence counter (R49). -/
def cadencePositions : Nat := 800

/-- Positions of the lamp phase counter (R52). -/
def phasePositions : Nat := 400

/-- Bytes of the version 1 configuration image (section 12.3). -/
def imageBytes : Nat := 738

/-- FREE VALUE (log 13): what the unpublished changes field of a contact input (0..65,535, R58, R59) becomes when it
stands at 65,535 and rises once more. The manual states no result there; nothing constrains it. -/
opaque unpublishedPastEnd : Nat → Word16

end Sys2Proof.Config
end

