-- ==== Sys2Proof/Machine/State.lean ====
section
/-! DEFINITION. The state of one Cadril 7140: everything chapters 1 to 12 give the part, block by block, and the queue of commands that wait. Default field values are the after-reset values. -/

namespace Sys2Proof.Machine

/-! ## Names of chapters 1 to 12 -/

/-- The four station states (R173, R174, R175); the part has none while a reset reads the image (R170). -/
inductive StationState where
  | unconfigured | starting | running | isolated
deriving DecidableEq, Repr

/-- The reset cause (R170). -/
inductive ResetCause where
  | powerOn | console
deriving DecidableEq, Repr

/-- The fault that left the station UNCONFIGURED (R170, R171). -/
inductive ConfigFault where
  | straps | absent | marker | version | crc
deriving DecidableEq, Repr

/-- A station's relation to an area (R94). -/
inductive Role where
  | none | watch | cover | hold
deriving DecidableEq, Repr

/-- The priority of an entry, 1 (highest) to 4 (R6). -/
inductive Priority where
  | p1 | p2 | p3 | p4
deriving DecidableEq, Repr

/-- The level of a priority: urgent is 1 and 2, routine is 3 and 4 (R6). -/
inductive Level where
  | urgent | routine
deriving DecidableEq, Repr

/-- The derived state of an entry (R7). -/
inductive EntryState where
  | alerting | standing | returned | shelved
deriving DecidableEq, Repr

/-- The operator's role (R76, R79). -/
inductive OperatorRole where
  | operator | lead | supervisor
deriving DecidableEq, Repr

/-- The session's LOGIN mark (R81). -/
inductive LoginMark where
  | none | queued | owed
deriving DecidableEq, Repr

/-- The beacon mark of the beacon schedule (R97). -/
inductive BeaconMark where
  | idle | queued | sending
deriving DecidableEq, Repr

/-- An area's sync request mark (R92). -/
inductive SyncMark where
  | none | owed | queued
deriving DecidableEq, Repr

/-- The pending-telegram mark of an offer record and the reply mark of a reception record (R112, R113). -/
inductive TxMark where
  | none | owed | queued | sending
deriving DecidableEq, Repr

/-- HANDOVER or SYNC (R112, R113). -/
inductive TransferKind where
  | handover | sync
deriving DecidableEq, Repr

/-- The state of an offer record (R112). -/
inductive OfferState where
  | sending | offered | releasing
deriving DecidableEq, Repr

/-- The state of a reception record (R113). -/
inductive ReceptionState where
  | receiving | review | accepted
deriving DecidableEq, Repr

/-- The REPLY reasons, in the order of their codes 0..8 (section 12.1). -/
inductive ReplyReason where
  | none | operator | timeout | busy | holds | notRunning | noRoom | digestError | emergency
deriving DecidableEq, Repr

/-- The state of an answer list item (R117). -/
inductive AnswerState where
  | waitingEnd | ready | queued | sending
deriving DecidableEq, Repr

/-- The horn state (R49). -/
inductive HornState where
  | silent | routine | urgent
deriving DecidableEq, Repr

/-- A lamp pattern, in the order of its code (R51, section 12.2). -/
inductive LampPattern where
  | off | steady | slow | fast | flicker
deriving DecidableEq, Repr

/-- The debounced state of a key (R54). -/
inductive KeyState where
  | unknown | up | down
deriving DecidableEq, Repr

/-- The use of a contact input (R56). -/
inductive InputUse where
  | unused | alarm | trip
deriving DecidableEq, Repr

/-- The debounced condition of a contact input (R57). -/
inductive Contact where
  | unknown | active | clear
deriving DecidableEq, Repr

/-- The publication state of an ALARM input (R58). -/
inductive PubState where
  | unseeded | settled | waiting | inFlight
deriving DecidableEq, Repr

/-- The trip publication state of a TRIP input (R60). -/
inductive TripState where
  | idle | pending | inFlight
deriving DecidableEq, Repr

/-- The result codes, in the order of their codes 0..15 (R163). -/
inductive ResultCode where
  | done | queued | notRunning | noSession | noRight | notActing | noEntry | notShelvable
  | unackedUrgent | load | emergency | busy | noRoom | badTarget | noRecord | badRequest
deriving DecidableEq, Repr

/-- The event kinds, in the order of their codes 1..28 (R167). -/
inductive EventKind where
  | tableOverflow | shelfExpired | acceptRefused | declineRefused | floodOn | floodOff
  | sessionStarted | sessionEnded | badgeRefused | holdingReleased
  | holderLost | claimed | conflict | areaTripped | areaRestored
  | review | handoverComplete | offerDeclined | offerClosed | receptionClosed | handoverLost | protocolError
  | reliefArmed | reliefRefused | reliefDenied | sessionRelieved | reliefCancelled
  | stationState
deriving DecidableEq, Repr

/-- Every reason an event can carry. `result` and `reply` carry a result code and a REPLY reason (section 12.2). -/
inductive Reason where
  | evicted | notStored
  | logout | displaced
  | unknown | occupied | notRunning | busy
  | rights | grace | isolated
  | aged | omitted
  | telegram | beacon
  | matched | differs
  | released | gained
  | timeout | trip | conflict | session
  | digestError | operator | withdrawn
  | accept | decline
  | noRight | unackedUrgent
  | badge | expired | holdings
  | straps | absent | marker | version | crc | powerOn | console | isolationEnd
  | result (code : ResultCode)
  | reply (reason : ReplyReason)
deriving DecidableEq, Repr

/-- A telegram slot's state (R153). -/
inductive SlotState where
  | waiting | sending | complete
deriving DecidableEq, Repr

/-! ## Telegrams (chapters 9 and 12) -/

/-- One entry as carried in a digest (R115). -/
structure Summary where
  tag : Tag
  priority : Priority
  active : Bool
  acknowledged : Bool
  occurrence : Occurrence
  shelfSeconds : Word16
  age : Word16
deriving DecidableEq, Repr

/-- One held area of a beacon (R98). -/
structure BeaconItem where
  area : Area
  attended : Bool
  emergency : Bool
  flood : Bool
  count : Word16
  signature : Word16
  load : Word16
deriving DecidableEq, Repr

/-- The content of a BEACON (R98). -/
structure BeaconContent where
  complete : Bool := false
  state : StationState := .running
  period : PeriodCode := 0
  first : Area := 0
  credential : Credential := 0
  items : List BeaconItem := []
deriving DecidableEq, Repr

/-- The content of an OFFER (R119). -/
structure OfferContent where
  area : Area
  number : Byte
  entryCount : Word16
  segmentCount : Byte
  load : Word16
  signature : Word16
  credential : Credential
deriving DecidableEq, Repr

/-- The content of a DIGEST segment (R120, R134). -/
structure DigestContent where
  area : Area
  number : Byte
  entryCount : Word16
  index : Byte
  first : Bool
  last : Bool
  load : Word16
  summaries : List Summary
deriving DecidableEq, Repr

/-- The payloads of the twelve telegram kinds (R147, section 12.1). -/
inductive Payload where
  | condition (tag : Tag) (priority : Priority) (active : Bool) (occurrence : Occurrence)
  | acknowledge (tag : Tag) (occurrence : Occurrence) (credential : Credential)
  | shelve (tag : Tag) (seconds : Word16) (credential : Credential)
  | beacon (content : BeaconContent)
  | login (credential : Credential)
  | trip (restore : Bool) (area : Area) (credential : Credential)
  | offer (content : OfferContent)
  | digest (content : DigestContent)
  | reply (area : Area) (number : Byte) (decline : Bool) (reason : ReplyReason)
  | release (area : Area) (number : Byte)
  | withdraw (area : Area) (number : Byte)
  | syncRequest (area : Area)
deriving DecidableEq, Repr

/-- A telegram; its class and kind follow from its payload (R147, R148). Destination 0 is a broadcast. -/
structure Telegram where
  source : StationNo
  destination : StationNo
  payload : Payload
deriving DecidableEq, Repr

/-! ## The validated configuration (chapter 11) -/

/-- A tag window (R1). -/
structure Window where
  area : Byte := 0
  start : Word16 := 0
  size : Byte := 0
  enabled : Bool := false
deriving DecidableEq, Repr

/-- An operator record (R76). -/
structure Operator where
  credential : Credential := 0
  role : OperatorRole := .operator
  cls : Byte := 0
  ackAreas : AreaSet := 0
  shelveAreas : AreaSet := 0
  holdAreas : AreaSet := 0
  enabled : Bool := false
deriving DecidableEq, Repr

/-- The configured fields of a contact input (R56). -/
structure InputConfig where
  use : InputUse := .unused
  activeOpen : Bool := false
  debounce : BitVec 2 := 0
  tag : Tag := 0
  priority : Priority := .p1
  tripArea : Byte := 0
deriving DecidableEq, Repr

/-- The validated configuration (R172). With no accepted image no window and no operator record is enabled, every input
is UNUSED and the area sets are empty (R171); the figures stand at the manual's defaults (log 21). -/
structure Settings where
  periodCode : PeriodCode := 0
  window : Nat := 180
  reliefWindow : Nat := 120
  grace : Nat := 300
  maxShelve : Nat := 60
  w1 : Byte := 64
  w2 : Byte := 32
  w3 : Byte := 16
  w4 : Byte := 8
  decayShift : Nat := 6
  floodOn : Nat := 2048
  floodOff : Nat := 1024
  handoverCeiling : Nat := 4096
  stationCeiling : Nat := 12288
  keepShelves : Bool := false
  home : AreaSet := 0
  standby : AreaSet := 0
  watch : AreaSet := 0
  required : Vector Byte 16 := tabulate fun _ => 0
  windows : Vector Window 32 := tabulate fun _ => {}
  operators : Vector Operator 48 := tabulate fun _ => {}
  inputs : Vector InputConfig 8 := tabulate fun _ => {}
deriving DecidableEq, Repr

/-! ## STC and the Time Base (chapter 11) -/

/-- The Start-up Controller and the seconds counter. `station` is absent while a reset is in progress (R170). -/
structure Stc where
  strapPins : StationNo
  number : StationNo
  cause : ResetCause
  fault : Option ConfigFault := none
  station : Option StationState := none
  settings : Settings := {}
  settle : Nat := 0
  isolation : Nat := 0
  seconds : Seconds := 0
deriving DecidableEq, Repr

/-! ## LIF (chapter 9) -/

/-- Who placed a telegram in the queue (R153, R154). The numbers are the model's serial numbers of records, and the
session numbers of R86. -/
inductive Owner where
  | request
  | session (number : Nat)
  | input (index : Fin 8)
  | beacon
  | syncRequest (area : Area)
  | offer (record : Fin 4) (serial : Nat)
  | reply (record : Fin 4) (serial : Nat)
  | answer (serial : Nat)
deriving DecidableEq, Repr

/-- An occupied transmit queue slot (R153, R156). `order` is the entry order. A BEACON stands with blank content until
its attempt composes it (R155). -/
structure Slot where
  telegram : Telegram
  owner : Owner
  order : Nat
  state : SlotState
  final : Bool
deriving DecidableEq, Repr

/-- What the receive ring holds: a committed telegram, or the completion mark of a slot (R150, R152). -/
inductive RingItem where
  | telegram (t : Telegram)
  | mark (slot : Fin 12)
deriving DecidableEq, Repr

/-- The Link Interface. `ring` is the ring's content from the read position on; the three positions are byte positions
in the 1,024-byte circle. -/
structure Lif where
  slots : Vector (Option Slot) 12 := tabulate fun _ => none
  nextOrder : Nat := 0
  waiting : List Owner := []
  ring : List RingItem := []
  readPos : Nat := 0
  headerPos : Nat := 0
  writePos : Nat := 0
  errors : Nat := 0
deriving DecidableEq, Repr

/-! ## ATU (chapters 1 and 2) -/

/-- A shelf (R6). -/
structure Shelf where
  seconds : Nat
  credential : Credential
  station : StationNo
deriving DecidableEq, Repr

/-- An alarm entry (R6). -/
structure Entry where
  tag : Tag
  area : Area
  priority : Priority
  occurrence : Occurrence
  active : Bool
  acknowledged : Bool
  ackCredential : Option Credential
  quiet : Bool
  shelf : Option Shelf
  firstRaised : Seconds
  lastChange : Seconds
deriving DecidableEq, Repr

/-- The Alarm Table Unit: the entries, by strictly rising tag, and the overflow indicators. Counts and signatures are
functions of the entries (R20). -/
structure Atu where
  table : List Entry := []
  overflow : AreaSet := 0
deriving DecidableEq, Repr

/-! ## LDM (chapter 4) -/

/-- The Load Meter: the load figures, and the set of areas in FLOOD (R61). -/
structure Ldm where
  load : Vector Word16 16 := tabulate fun _ => 0
  flood : AreaSet := 0
deriving DecidableEq, Repr

/-! ## ANU (chapter 3) -/

/-- A key's record (R54). `sample` is the sample the run count counts while the state is UNKNOWN. -/
structure KeyRecord where
  state : KeyState := .unknown
  run : Nat := 0
  sample : Bool := false
deriving DecidableEq, Repr

/-- A contact input's dynamic fields (R57, R58, R60). `published` is the published condition, yes for ACTIVE. -/
structure InputRecord where
  condition : Contact := .unknown
  run : Nat := 0
  sample : Bool := false
  published : Bool := false
  publishedOccurrence : Occurrence := 0
  publication : PubState := .unseeded
  unpublished : Word16 := 0
  trip : TripState := .idle
deriving DecidableEq, Repr

/-- The Annunciation Unit. `freeCount` is the model's own: how many free values have been drawn (log 13). -/
structure Anu where
  urgent : Bool := false
  routine : Bool := false
  trip : Bool := false
  horn : HornState := .silent
  cadence : Nat := 0
  phase : Nat := 0
  keys : Vector KeyRecord 4 := tabulate fun _ => {}
  inputs : Vector InputRecord 8 := tabulate fun _ => {}
  freeCount : Nat := 0
deriving DecidableEq, Repr

/-! ## SSU (chapters 5 and 8) -/

/-- The ACTIVE session (R81). `number` is the number SSU gives each session (R86). -/
structure Session where
  credential : Credential
  record : Fin 48
  start : Seconds
  mark : LoginMark
  number : Nat
deriving DecidableEq, Repr

/-- The Session Unit: session, relief record, badge line. -/
structure Ssu where
  session : Option Session := none
  nextNumber : Nat := 0
  armed : Bool := false
  window : Nat := 0
  armedTime : Seconds := 0
  lastBadge : Option Credential := none
  holdOff : Nat := 0
deriving DecidableEq, Repr

/-! ## ARU (chapters 5 and 6) -/

/-- A per-area view (R92). The claim delay stands at three periods of the 1 s default until the image gives P (log 21). -/
structure View where
  role : Role := .none
  holder : StationNo := 0
  attended : Bool := false
  holderEmergency : Bool := false
  holderFlood : Bool := false
  holderCount : Word16 := 0
  holderSignature : Word16 := 0
  holderLoad : Word16 := 0
  holderPeriod : PeriodCode := 0
  age : Nat := 0
  mismatch : Nat := 0
  syncMark : SyncMark := .none
  resync : Nat := 0
  startup : Bool := false
  claimDelay : Nat := 3
  relinquished : Bool := false
  emergency : Bool := false
deriving DecidableEq, Repr

/-- A station list record that is heard (R93); a station with no record is unheard. -/
structure Heard where
  station : StationNo
  period : PeriodCode
  age : Nat
  credential : Credential
deriving DecidableEq, Repr

/-- The Area Responsibility Unit: views, station list, beacon schedule, unattended grace timer. -/
structure Aru where
  views : Vector View 16 := tabulate fun _ => {}
  stations : List Heard := []
  schedule : Nat := 0
  beaconMark : BeaconMark := .idle
  beaconOwed : Bool := false
  first : Area := 0
  graceRunning : Bool := false
  grace : Nat := 0
deriving DecidableEq, Repr

/-! ## HOU (chapter 7) -/

/-- An offer record in use (R112), with its summaries in the digest store (R114). `serial` is the model's own. -/
structure Offer where
  kind : TransferKind
  area : Area
  target : StationNo
  number : Byte
  entryCount : Nat
  segmentCount : Nat
  nextIndex : Nat
  state : OfferState
  load : Word16
  signature : Word16
  credential : Credential
  replyTimer : Nat
  mark : TxMark
  summaries : List Summary
  serial : Nat
deriving DecidableEq, Repr

/-- A reception record in use (R113), with its summaries in the digest store. `answer` is the reason of the REPLY that
the reply mark speaks of: NONE for ACCEPT, else a DECLINE. `serial` gives the creation order. -/
structure Reception where
  kind : TransferKind
  area : Area
  releaser : StationNo
  number : Byte
  entryCount : Nat
  segmentCount : Nat
  load : Word16
  signature : Word16
  credential : Credential
  received : Nat
  nextIndex : Nat
  state : ReceptionState
  gap : Nat
  timer : Nat
  mark : TxMark
  answer : ReplyReason
  summaries : List Summary
  serial : Nat
deriving DecidableEq, Repr

/-- An answer list item (R117): a refusal with its reason, or a WITHDRAW. `serial` is the model's own. -/
structure AnswerItem where
  refusal : Option ReplyReason
  area : Area
  addressee : StationNo
  number : Byte
  state : AnswerState
  gap : Nat
  serial : Nat
deriving DecidableEq, Repr

/-- The Handover Unit. -/
structure Hou where
  offers : Vector (Option Offer) 4 := tabulate fun _ => none
  receptions : Vector (Option Reception) 4 := tabulate fun _ => none
  counter : Byte := 0
  answers : List AnswerItem := []
  nextSerial : Nat := 0
deriving DecidableEq, Repr

/-! ## CNP (chapter 10) -/

/-- An event record (R167); `state` is the new state of a STATION-STATE event. -/
structure Event where
  kind : EventKind
  time : Seconds := 0
  area : Option Area := none
  tag : Option Tag := none
  station : Option StationNo := none
  reason : Option Reason := none
  state : Option StationState := none
  lost : Bool := false
deriving DecidableEq, Repr

/-- An answer in the response buffer: result code and body (R160). -/
structure Answer where
  result : ResultCode
  body : List Byte
deriving DecidableEq, Repr

/-- The sixteen statistics (R169), each wrapping at its width. -/
structure Stats where
  receivedGood : BitVec 32 := 0
  transmitted : BitVec 32 := 0
  checkErrors : Word16 := 0
  overflowDrops : Word16 := 0
  transmitErrors : Word16 := 0
  staleConditions : Word16 := 0
  staleAcknowledgements : Word16 := 0
  duplicateAcknowledgements : Word16 := 0
  unmappedConditions : Word16 := 0
  tableOverflows : Word16 := 0
  conflictsYielded : Word16 := 0
  completedReleaser : Word16 := 0
  completedReceiver : Word16 := 0
  handoversFailed : Word16 := 0
  resyncsApplied : Word16 := 0
  changesMerged : Word16 := 0
deriving DecidableEq, Repr

/-- The Console Port. `clockedOut` is what the last read transaction drove on SDO after its first byte. -/
structure Cnp where
  outstanding : Option Byte := none
  response : Option Answer := none
  collision : Bool := false
  incomplete : Bool := false
  overrun : Bool := false
  events : List Event := []
  stats : Stats := {}
  clockedOut : List Byte := []
deriving DecidableEq, Repr

/-! ## The part and its command queue -/

/-- The part: its blocks' state. -/
structure Part where
  stc : Stc
  lif : Lif := {}
  atu : Atu := {}
  ldm : Ldm := {}
  anu : Anu := {}
  ssu : Ssu := {}
  aru : Aru := {}
  hou : Hou := {}
  cnp : Cnp := {}
deriving DecidableEq, Repr

/-- The machine: the part, and the commands that wait, first in first out. -/
structure State where
  part : Part
  pending : List Instr
deriving DecidableEq, Repr

/-- The spec gives the part no way to stop: every command of every state has an effect, or none. No constructor. -/
inductive Fault where
deriving DecidableEq, Repr

/-- The one refusal: a command that Dispatch.lean still rejects by name. Raised by no arm. Safe: it stops. -/
inductive Refusal where
  /-- No meaning yet for the command of this mnemonic. -/
  | notModelled (mnemonic : String)
deriving DecidableEq, Repr

/-- The machine right after a power-on reset begins (R170): every block at its after-reset values, the statistics clear,
no station state while the image is read, no command waiting. The strap pins read 1 (DESIGN CHOICE, log 3). -/
def State.reset : State :=
  { part := { stc := { strapPins := 1, number := 1, cause := .powerOn } }, pending := [] }

end Sys2Proof.Machine
end

