-- ==== Sys2Proof/Machine/Bytes.lean ====
section
/-! DEFINITION. Bytes and bits: the byte order of chapter 12, the CRC-16 of R149, and the code of each named value. -/

namespace Sys2Proof.Machine

/-- A two-byte number, high byte first (chapter 12). -/
def be16 (w : Word16) : List Byte := [w.extractLsb' 8 8, w.extractLsb' 0 8]

/-- A credential in three bytes, high byte first. -/
def be24 (w : Credential) : List Byte := [w.extractLsb' 16 8, w.extractLsb' 8 8, w.extractLsb' 0 8]

/-- A four-byte number, high byte first. -/
def be32 (w : BitVec 32) : List Byte :=
  [w.extractLsb' 24 8, w.extractLsb' 16 8, w.extractLsb' 8 8, w.extractLsb' 0 8]

/-- A count in two bytes. -/
def nat16 (n : Nat) : List Byte := be16 (BitVec.ofNat 16 n)

/-- A count in one byte. -/
def nat8 (n : Nat) : Byte := BitVec.ofNat 8 n

/-- The two-byte number of a high and a low byte. -/
def word16 (hi lo : Byte) : Word16 := hi ++ lo

/-- The three-byte number of three bytes, the highest first. -/
def word24 (b2 b1 b0 : Byte) : Credential := b2 ++ b1 ++ b0

/-- A flag as a number. -/
def flag (b : Bool) : Nat := if b then 1 else 0

/-- One bit fed into the check, polynomial x^16+x^12+x^5+1 (R149). -/
def crcBit (c : Word16) (b : Bool) : Word16 :=
  if c.msb ^^ b then (c <<< 1) ^^^ 0x1021#16 else c <<< 1

/-- One byte fed into the check, most significant bit first (R149). -/
def crcByte (c : Word16) (b : Byte) : Word16 :=
  (List.ofFn fun i : Fin 8 => b.getMsbD i.val).foldl crcBit c

/-- The check over some bytes, started with all sixteen bits set (R149, R171). -/
def crc16 (bytes : List Byte) : Word16 := bytes.foldl crcByte 0xFFFF#16

/-! ## Codes -/

/-- A priority's number, 1..4. -/
def priorityNumber : Priority → Nat
  | .p1 => 1 | .p2 => 2 | .p3 => 3 | .p4 => 4

/-- A priority's 2-bit code, 0 for priority 1 (chapter 12). -/
def priorityCode : Priority → BitVec 2
  | .p1 => 0 | .p2 => 1 | .p3 => 2 | .p4 => 3

/-- The priority of a 2-bit code. -/
def priorityOfCode (c : BitVec 2) : Priority :=
  if c = 0 then .p1 else if c = 1 then .p2 else if c = 2 then .p3 else .p4

/-- 1 and 2 form the urgent level, 3 and 4 the routine level (R6). -/
def levelOf : Priority → Level
  | .p1 => .urgent | .p2 => .urgent | .p3 => .routine | .p4 => .routine

/-- The station state codes (section 12.1). -/
def stationStateCode : StationState → BitVec 2
  | .unconfigured => 0 | .starting => 1 | .running => 2 | .isolated => 3

/-- The station state of a 2-bit code. -/
def stationStateOfCode (c : BitVec 2) : StationState :=
  if c = 0 then .unconfigured else if c = 1 then .starting else if c = 2 then .running else .isolated

/-- The REPLY reason codes (section 12.1). -/
def replyReasonCode : ReplyReason → BitVec 4
  | .none => 0 | .operator => 1 | .timeout => 2 | .busy => 3 | .holds => 4 | .notRunning => 5
  | .noRoom => 6 | .digestError => 7 | .emergency => 8

/-- The REPLY reason of a code; a code above 8 is none of the nine (R177). -/
def replyReasonOfCode (c : BitVec 4) : Option ReplyReason :=
  match c.toNat with
  | 0 => some .none | 1 => some .operator | 2 => some .timeout | 3 => some .busy | 4 => some .holds
  | 5 => some .notRunning | 6 => some .noRoom | 7 => some .digestError | 8 => some .emergency
  | _ => none

/-- The result codes 0..15 (section 12.2). -/
def resultCode : ResultCode → Nat
  | .done => 0 | .queued => 1 | .notRunning => 2 | .noSession => 3 | .noRight => 4 | .notActing => 5
  | .noEntry => 6 | .notShelvable => 7 | .unackedUrgent => 8 | .load => 9 | .emergency => 10
  | .busy => 11 | .noRoom => 12 | .badTarget => 13 | .noRecord => 14 | .badRequest => 15

/-- The event kind codes 1..28 (section 12.2). -/
def eventKindCode : EventKind → Nat
  | .tableOverflow => 1 | .shelfExpired => 2 | .acceptRefused => 3 | .declineRefused => 4
  | .floodOn => 5 | .floodOff => 6 | .sessionStarted => 7 | .sessionEnded => 8 | .badgeRefused => 9
  | .holdingReleased => 10 | .holderLost => 11 | .claimed => 12 | .conflict => 13 | .areaTripped => 14
  | .areaRestored => 15 | .review => 16 | .handoverComplete => 17 | .offerDeclined => 18
  | .offerClosed => 19 | .receptionClosed => 20 | .handoverLost => 21 | .protocolError => 22
  | .reliefArmed => 23 | .reliefRefused => 24 | .reliefDenied => 25 | .sessionRelieved => 26
  | .reliefCancelled => 27 | .stationState => 28

/-- A reason's code: its position, from 1, in the reason list of its event kind where that kind is produced; a result code
or a REPLY reason code for the kinds that carry one (section 12.2). -/
def reasonCode (k : EventKind) (r : Reason) : Nat :=
  match r with
  | .result c => resultCode c
  | .reply x => (replyReasonCode x).toNat
  | _ =>
    match k, r with
    | .tableOverflow, .evicted => 1
    | .tableOverflow, .notStored => 2
    | .sessionEnded, .logout => 1
    | .sessionEnded, .displaced => 2
    | .badgeRefused, .unknown => 1
    | .badgeRefused, .occupied => 2
    | .badgeRefused, .notRunning => 3
    | .badgeRefused, .busy => 4
    | .holdingReleased, .rights => 1
    | .holdingReleased, .grace => 2
    | .holdingReleased, .isolated => 3
    | .holderLost, .aged => 1
    | .holderLost, .omitted => 2
    | .areaTripped, .telegram => 1
    | .areaTripped, .beacon => 2
    | .review, .matched => 1
    | .review, .differs => 2
    | .handoverComplete, .released => 1
    | .handoverComplete, .gained => 2
    | .offerClosed, .timeout => 1
    | .offerClosed, .trip => 2
    | .offerClosed, .conflict => 3
    | .offerClosed, .rights => 4
    | .offerClosed, .grace => 5
    | .offerClosed, .session => 6
    | .offerClosed, .isolated => 7
    | .receptionClosed, .digestError => 1
    | .receptionClosed, .operator => 2
    | .receptionClosed, .timeout => 3
    | .receptionClosed, .withdrawn => 4
    | .receptionClosed, .trip => 5
    | .receptionClosed, .isolated => 6
    | .handoverLost, .timeout => 1
    | .handoverLost, .rights => 2
    | .protocolError, .accept => 1
    | .protocolError, .decline => 2
    | .reliefDenied, .unknown => 1
    | .reliefDenied, .noRight => 2
    | .reliefDenied, .unackedUrgent => 3
    | .reliefDenied, .busy => 4
    | .reliefCancelled, .badge => 1
    | .reliefCancelled, .expired => 2
    | .reliefCancelled, .trip => 3
    | .reliefCancelled, .holdings => 4
    | .stationState, .straps => 1
    | .stationState, .absent => 2
    | .stationState, .marker => 3
    | .stationState, .version => 4
    | .stationState, .crc => 5
    | .stationState, .powerOn => 6
    | .stationState, .console => 7
    | .stationState, .isolationEnd => 8
    | _, _ => 0

/-- Role codes of the area record. -/
def roleCode : Role → Nat
  | .none => 0 | .watch => 1 | .cover => 2 | .hold => 3

/-- Derived state codes of the entry record. -/
def entryStateCode : EntryState → Nat
  | .alerting => 0 | .standing => 1 | .returned => 2 | .shelved => 3

/-- Lamp pattern codes of the area record. -/
def lampCode : LampPattern → Nat
  | .off => 0 | .steady => 1 | .slow => 2 | .fast => 3 | .flicker => 4

/-- Pending-telegram mark and reply mark codes. -/
def txMarkCode : TxMark → Nat
  | .none => 0 | .owed => 1 | .queued => 2 | .sending => 3

/-- Sync request mark codes. -/
def syncMarkCode : SyncMark → Nat
  | .none => 0 | .owed => 1 | .queued => 2

/-- Record kind codes. -/
def transferKindCode : TransferKind → Nat
  | .handover => 0 | .sync => 1

/-- Offer record state codes. -/
def offerStateCode : OfferState → Nat
  | .sending => 0 | .offered => 1 | .releasing => 2

/-- Reception record state codes. -/
def receptionStateCode : ReceptionState → Nat
  | .receiving => 0 | .review => 1 | .accepted => 2

/-- Horn state codes of STATUS. -/
def hornCode : HornState → Nat
  | .silent => 0 | .routine => 1 | .urgent => 2

/-- Key state codes of STATUS. -/
def keyCode : KeyState → Nat
  | .unknown => 0 | .up => 1 | .down => 2

/-- Input use codes. -/
def useCode : InputUse → Nat
  | .unused => 0 | .alarm => 1 | .trip => 2

/-- Debounced condition codes of STATUS. -/
def contactCode : Contact → Nat
  | .unknown => 0 | .active => 1 | .clear => 2

/-- LOGIN mark codes of STATUS. -/
def loginMarkCode : LoginMark → Nat
  | .none => 0 | .queued => 1 | .owed => 2

/-- Operator role codes of STATUS; 0 is for no session. -/
def operatorRoleCode : OperatorRole → Nat
  | .operator => 1 | .lead => 2 | .supervisor => 3

/-- Fault codes of STATUS; 0 is for none. -/
def faultCode : ConfigFault → Nat
  | .straps => 1 | .absent => 2 | .marker => 3 | .version => 4 | .crc => 5

/-- Reset cause codes of STATUS. -/
def causeCode : ResetCause → Nat
  | .powerOn => 0 | .console => 1

/-- The seconds of a beacon period code: 1, 2, 4, 8 (R97). -/
def periodSeconds (c : PeriodCode) : Nat := 2 ^ c.toNat

end Sys2Proof.Machine
end

