-- ==== Sys2Proof/Machine/Codec.lean ====
section
/-! DEFINITION. The telegram layouts of section 12.1: writing a telegram's header and payload, and reading them back with the checks of form of R149 (2 to 4) and R177. -/

namespace Sys2Proof.Machine

/-- A tag word: bits 11..0 tag, 13..12 priority code, 14 condition, 15 acknowledged (chapter 12). -/
def tagWord (tag : Tag) (code : BitVec 2) (active acknowledged : Bool) : Word16 :=
  BitVec.ofBool acknowledged ++ BitVec.ofBool active ++ code ++ tag

/-- The tag of a tag word. -/
def tagOfWord (w : Word16) : Tag := w.extractLsb' 0 12

/-- The priority of a tag word. -/
def priorityOfWord (w : Word16) : Priority := priorityOfCode (w.extractLsb' 12 2)

/-- An area in the low four bits of a byte. -/
def areaNibble (a : Area) : BitVec 4 := BitVec.ofNat 4 a.val

/-- The area of four bits. -/
def areaOfNibble (b : BitVec 4) : Area := ⟨b.toNat, b.isLt⟩

/-- An area in one byte. -/
def areaByte (a : Area) : Byte := BitVec.ofNat 8 a.val

/-- The area of a byte, 0..15 (R177). -/
def areaOfByte (b : Byte) : Option Area :=
  if h : b.toNat < 16 then some ⟨b.toNat, h⟩ else none

/-- The kind codes 1..12 (section 12.1). -/
def kindCode : Payload → BitVec 4
  | .condition .. => 1
  | .acknowledge .. => 2
  | .shelve .. => 3
  | .beacon .. => 4
  | .login .. => 5
  | .trip .. => 6
  | .offer .. => 7
  | .digest .. => 8
  | .reply .. => 9
  | .release .. => 10
  | .withdraw .. => 11
  | .syncRequest .. => 12

/-- The arbitration class of each kind (R148). -/
def payloadClass : Payload → BitVec 3
  | .trip .. => 0
  | .condition .. => 1
  | .acknowledge .. => 2
  | .shelve .. => 2
  | .login .. => 3
  | .offer .. => 4
  | .reply .. => 4
  | .release .. => 4
  | .withdraw .. => 4
  | .digest .. => 5
  | .syncRequest .. => 6
  | .beacon .. => 7

/-- The class of a kind code, for the third check of R149. -/
def classOfKind (k : BitVec 4) : Option (BitVec 3) :=
  match k.toNat with
  | 1 => some 1 | 2 => some 2 | 3 => some 2 | 4 => some 7 | 5 => some 3 | 6 => some 0
  | 7 => some 4 | 8 => some 5 | 9 => some 4 | 10 => some 4 | 11 => some 4 | 12 => some 6
  | _ => none

/-- A digest summary, 7 bytes. -/
def summaryBytes (d : Summary) : List Byte :=
  be16 (tagWord d.tag (priorityCode d.priority) d.active d.acknowledged) ++ [d.occurrence]
    ++ be16 d.shelfSeconds ++ be16 d.age

/-- A beacon held-area item, 7 bytes. -/
def itemBytes (x : BeaconItem) : List Byte :=
  [BitVec.ofBool x.attended ++ BitVec.ofBool x.emergency ++ BitVec.ofBool x.flood ++ 0#1 ++ areaNibble x.area]
    ++ be16 x.count ++ be16 x.signature ++ be16 x.load

/-- A BEACON's payload. -/
def beaconBytes (c : BeaconContent) : List Byte :=
  [BitVec.ofBool c.complete ++ 0#1 ++ stationStateCode c.state ++ 0#2 ++ c.period,
   BitVec.ofNat 4 c.items.length ++ areaNibble c.first]
    ++ be24 c.credential ++ c.items.flatMap itemBytes

/-- A DIGEST's payload. -/
def digestBytes (c : DigestContent) : List Byte :=
  [areaByte c.area, c.number] ++ be16 c.entryCount
    ++ [c.index, BitVec.ofBool c.first ++ BitVec.ofBool c.last ++ 0#2 ++ BitVec.ofNat 4 c.summaries.length]
    ++ be16 c.load ++ c.summaries.flatMap summaryBytes

/-- An OFFER's payload. -/
def offerBytes (c : OfferContent) : List Byte :=
  [areaByte c.area, c.number] ++ be16 c.entryCount ++ [c.segmentCount] ++ be16 c.load ++ be16 c.signature
    ++ be24 c.credential

/-- The payload bytes of a telegram (section 12.1). -/
def payloadBytes : Payload → List Byte
  | .condition tag prio active occ => be16 (tagWord tag (priorityCode prio) active false) ++ [occ]
  | .acknowledge tag occ cred => be16 (tagWord tag 0 false false) ++ [occ] ++ be24 cred
  | .shelve tag secs cred => be16 (tagWord tag 0 false false) ++ be16 secs ++ be24 cred
  | .beacon c => beaconBytes c
  | .login cred => be24 cred
  | .trip restore area cred => [BitVec.ofBool restore ++ 0#3 ++ areaNibble area] ++ be24 cred
  | .offer c => offerBytes c
  | .digest c => digestBytes c
  | .reply area number decline reason =>
    [areaByte area, number, BitVec.ofBool decline ++ 0#3 ++ replyReasonCode reason]
  | .release area number => [areaByte area, number]
  | .withdraw area number => [areaByte area, number]
  | .syncRequest area => [areaByte area]

/-- The four header bytes (section 12.1). -/
def headerBytes (t : Telegram) : List Byte :=
  [payloadClass t.payload ++ t.source.extractLsb' 1 5,
   t.source.extractLsb' 0 1 ++ 0#1 ++ t.destination,
   kindCode t.payload ++ 0#4,
   nat8 (payloadBytes t.payload).length]

/-- A telegram's header and payload as the part writes them; the check over them follows on the line (R149). -/
def encodeTelegram (t : Telegram) : List Byte := headerBytes t ++ payloadBytes t.payload

/-- A telegram with its check, as it stands on the line. -/
def lineBytes (t : Telegram) : List Byte := encodeTelegram t ++ be16 (crc16 (encodeTelegram t))

/-! ## Reading -/

/-- One summary. -/
def summaryOf (b0 b1 b2 b3 b4 b5 b6 : Byte) : Summary :=
  let w := word16 b0 b1
  { tag := tagOfWord w, priority := priorityOfWord w, active := w.getLsbD 14, acknowledged := w.getLsbD 15,
    occurrence := b2, shelfSeconds := word16 b3 b4, age := word16 b5 b6 }

/-- Exactly `n` summaries. -/
def readSummaries : Nat → List Byte → Option (List Summary)
  | 0, [] => some []
  | 0, _ :: _ => none
  | n + 1, b0 :: b1 :: b2 :: b3 :: b4 :: b5 :: b6 :: rest =>
    (readSummaries n rest).map (summaryOf b0 b1 b2 b3 b4 b5 b6 :: ·)
  | _ + 1, _ => none

/-- One held-area item. -/
def itemOf (b0 b1 b2 b3 b4 b5 b6 : Byte) : BeaconItem :=
  { area := areaOfNibble (b0.extractLsb' 0 4), attended := b0.getLsbD 7, emergency := b0.getLsbD 6,
    flood := b0.getLsbD 5, count := word16 b1 b2, signature := word16 b3 b4, load := word16 b5 b6 }

/-- Exactly `n` held-area items. -/
def readItems : Nat → List Byte → Option (List BeaconItem)
  | 0, [] => some []
  | 0, _ :: _ => none
  | n + 1, b0 :: b1 :: b2 :: b3 :: b4 :: b5 :: b6 :: rest =>
    (readItems n rest).map (itemOf b0 b1 b2 b3 b4 b5 b6 :: ·)
  | _ + 1, _ => none

/-- The items name areas in strictly rising order, each `low` or above, and their entry counts lie in 0..512 (R177). -/
def itemsFit (low : Nat) : List BeaconItem → Bool
  | [] => true
  | x :: xs => decide (low ≤ x.area.val) && decide (x.count.toNat ≤ 512) && itemsFit (x.area.val + 1) xs

/-- The payload of a kind, read with the checks of R177; absent when it does not fit. -/
def readPayload (kind : BitVec 4) (bytes : List Byte) : Option Payload :=
  match kind.toNat, bytes with
  | 1, [b0, b1, occ] =>
    let w := word16 b0 b1
    some (.condition (tagOfWord w) (priorityOfWord w) (w.getLsbD 14) occ)
  | 2, [b0, b1, occ, c2, c1, c0] => some (.acknowledge (tagOfWord (word16 b0 b1)) occ (word24 c2 c1 c0))
  | 3, [b0, b1, s1, s0, c2, c1, c0] =>
    some (.shelve (tagOfWord (word16 b0 b1)) (word16 s1 s0) (word24 c2 c1 c0))
  | 4, b0 :: b1 :: c2 :: c1 :: c0 :: rest =>
    let first := areaOfNibble (b1.extractLsb' 0 4)
    match readItems (b1.extractLsb' 4 4).toNat rest with
    | some items =>
      if items.length ≤ 10 ∧ itemsFit first.val items = true then
        some (.beacon
          { complete := b0.getLsbD 7, state := stationStateOfCode (b0.extractLsb' 4 2),
            period := b0.extractLsb' 0 2, first := first, credential := word24 c2 c1 c0, items := items })
      else none
    | none => none
  | 5, [c2, c1, c0] => some (.login (word24 c2 c1 c0))
  | 6, [b0, c2, c1, c0] =>
    some (.trip (b0.getLsbD 7) (areaOfNibble (b0.extractLsb' 0 4)) (word24 c2 c1 c0))
  | 7, [a, n, e1, e0, sc, l1, l0, g1, g0, c2, c1, c0] =>
    match areaOfByte a with
    | some area =>
      if n ≠ 0 ∧ (word16 e1 e0).toNat ≤ 512 ∧ sc.toNat ≤ 64 then
        some (.offer
          { area := area, number := n, entryCount := word16 e1 e0, segmentCount := sc,
            load := word16 l1 l0, signature := word16 g1 g0, credential := word24 c2 c1 c0 })
      else none
    | none => none
  | 8, a :: n :: e1 :: e0 :: ix :: m :: l1 :: l0 :: rest =>
    match areaOfByte a, readSummaries (m.extractLsb' 0 4).toNat rest with
    | some area, some ds =>
      if (word16 e1 e0).toNat ≤ 512 ∧ 1 ≤ ix.toNat ∧ ix.toNat ≤ 64 ∧ ds.length ≤ 8 then
        some (.digest
          { area := area, number := n, entryCount := word16 e1 e0, index := ix, first := m.getLsbD 7,
            last := m.getLsbD 6, load := word16 l1 l0, summaries := ds })
      else none
    | _, _ => none
  | 9, [a, n, b] =>
    match areaOfByte a, replyReasonOfCode (b.extractLsb' 0 4) with
    | some area, some reason => some (.reply area n (b.getLsbD 7) reason)
    | _, _ => none
  | 10, [a, n] => (areaOfByte a).map fun area => .release area n
  | 11, [a, n] => (areaOfByte a).map fun area => .withdraw area n
  | 12, [a] => (areaOfByte a).map fun area => .syncRequest area
  | _, _ => none

/-- Read a telegram from its header and payload: the length field is 0..80 and the payload ends where it says, the kind
is one of the twelve, the class is that of the kind, and the payload fits the kind's layout (R149, R177). -/
def decodeTelegram (bytes : List Byte) : Option Telegram :=
  match bytes with
  | b0 :: b1 :: b2 :: b3 :: payload =>
    let kind := b2.extractLsb' 4 4
    if b3.toNat ≤ 80 ∧ payload.length = b3.toNat ∧ classOfKind kind = some (b0.extractLsb' 5 3) then
      (readPayload kind payload).map fun x =>
        { source := b0.extractLsb' 0 5 ++ b1.extractLsb' 7 1, destination := b1.extractLsb' 0 6, payload := x }
    else none
  | _ => none

/-- A telegram the layouts can carry: what R177 and R149 ask of its fields. -/
def telegramFits (t : Telegram) : Bool :=
  match t.payload with
  | .beacon c => decide (c.items.length ≤ 10) && itemsFit c.first.val c.items
  | .offer c => decide (c.number ≠ 0) && decide (c.entryCount.toNat ≤ 512) && decide (c.segmentCount.toNat ≤ 64)
  | .digest c =>
    decide (c.entryCount.toNat ≤ 512) && decide (1 ≤ c.index.toNat) && decide (c.index.toNat ≤ 64)
      && decide (c.summaries.length ≤ 8)
  | _ => true

end Sys2Proof.Machine
end

