-- ==== Sys2Proof/Machine/Ops.lean ====
section
/-! DEFINITION. Shared operations: the updates of one block, of one view, of one record, the questions the blocks put to each other about state, session and area, events and statistics. -/

namespace Sys2Proof.Machine

/-- The machine with another part; its queue as it was. -/
def State.withPart (s : State) (p : Part) : State := { s with part := p }

/-! ## Updates of one block -/

/-- Change STC's state. -/
def modStc (f : Stc → Stc) (p : Part) : Part := { p with stc := f p.stc }
/-- Change LIF's state. -/
def modLif (f : Lif → Lif) (p : Part) : Part := { p with lif := f p.lif }
/-- Change ATU's state. -/
def modAtu (f : Atu → Atu) (p : Part) : Part := { p with atu := f p.atu }
/-- Change LDM's state. -/
def modLdm (f : Ldm → Ldm) (p : Part) : Part := { p with ldm := f p.ldm }
/-- Change ANU's state. -/
def modAnu (f : Anu → Anu) (p : Part) : Part := { p with anu := f p.anu }
/-- Change SSU's state. -/
def modSsu (f : Ssu → Ssu) (p : Part) : Part := { p with ssu := f p.ssu }
/-- Change ARU's state. -/
def modAru (f : Aru → Aru) (p : Part) : Part := { p with aru := f p.aru }
/-- Change HOU's state. -/
def modHou (f : Hou → Hou) (p : Part) : Part := { p with hou := f p.hou }
/-- Change CNP's state. -/
def modCnp (f : Cnp → Cnp) (p : Part) : Part := { p with cnp := f p.cnp }
/-- Change the statistics. -/
def modStats (f : Stats → Stats) (p : Part) : Part := modCnp (fun c => { c with stats := f c.stats }) p

/-- The view of area `a` (R92). -/
def view (p : Part) (a : Area) : View := p.aru.views.get a
/-- Change the view of area `a`. -/
def modView (a : Area) (f : View → View) (p : Part) : Part :=
  modAru (fun x => { x with views := setAt x.views a (f (x.views.get a)) }) p

/-- Change the view of every area alike. -/
def modViews (f : View → View) : Part → Part := modAru fun x => { x with views := tabulate fun a => f (x.views.get a) }

/-- Put offer record `r`. -/
def setOffer (r : Fin 4) (o : Option Offer) (p : Part) : Part :=
  modHou (fun h => { h with offers := setAt h.offers r o }) p
/-- Put reception record `r`. -/
def setReception (r : Fin 4) (o : Option Reception) (p : Part) : Part :=
  modHou (fun h => { h with receptions := setAt h.receptions r o }) p
/-- Put transmit queue slot `k`. -/
def setSlot (k : Fin 12) (x : Option Slot) (p : Part) : Part :=
  modLif (fun l => { l with slots := setAt l.slots k x }) p
/-- Change the session, when there is one. -/
def modSession (f : Session → Session) (p : Part) : Part :=
  modSsu (fun u => { u with session := u.session.map f }) p
/-- The record of contact input `i`. -/
def input (p : Part) (i : Fin 8) : InputRecord := p.anu.inputs.get i
/-- The configuration of contact input `i` (R56). -/
def inputConfig (p : Part) (i : Fin 8) : InputConfig := p.stc.settings.inputs.get i
/-- Change the record of contact input `i`. -/
def modInput (i : Fin 8) (f : InputRecord → InputRecord) (p : Part) : Part :=
  modAnu (fun n => { n with inputs := setAt n.inputs i (f (n.inputs.get i)) }) p

/-! ## Station state (chapter 11) -/

/-- The present station seconds. -/
def now (p : Part) : Seconds := p.stc.seconds
/-- The station is RUNNING. -/
def running (p : Part) : Bool := decide (p.stc.station = some .running)
/-- The station is STARTING. -/
def starting (p : Part) : Bool := decide (p.stc.station = some .starting)
/-- The station is ISOLATED. -/
def isolated (p : Part) : Bool := decide (p.stc.station = some .isolated)
/-- The station is UNCONFIGURED. -/
def unconfigured (p : Part) : Bool := decide (p.stc.station = some .unconfigured)
/-- The station is STARTING, RUNNING or ISOLATED: it takes telegrams (R149, R151). -/
def listening (p : Part) : Bool := starting p || running p || isolated p
/-- The station is STARTING or RUNNING: telegrams may enter the queue and be sent (R153, R155). -/
def sendingOpen (p : Part) : Bool := starting p || running p
/-- The station's own beacon period P in seconds (R97). -/
def ownPeriod (p : Part) : Nat := periodSeconds p.stc.settings.periodCode

/-! ## Session and rights (R80) -/

/-- Is a session ACTIVE? -/
def sessionActive (p : Part) : Bool := p.ssu.session.isSome
/-- The operator record of the session. -/
def sessionOperator (p : Part) : Option Operator :=
  p.ssu.session.map fun x => p.stc.settings.operators.get x.record
/-- Ack right on area `a`. -/
def ackRight (p : Part) (a : Area) : Bool :=
  match sessionOperator p with
  | some o => AreaSet.has o.ackAreas a
  | none => false
/-- Shelve right on area `a`. -/
def shelveRight (p : Part) (a : Area) : Bool :=
  match sessionOperator p with
  | some o => AreaSet.has o.shelveAreas a
  | none => false
/-- The operator may hold area `a` (R78). -/
def operatorMayHold (p : Part) (o : Operator) (a : Area) : Bool :=
  AreaSet.has o.holdAreas a && decide ((p.stc.settings.required.get a).toNat ≤ o.cls.toNat)
/-- May the session hold area `a`? -/
def mayHold (p : Part) (a : Area) : Bool :=
  match sessionOperator p with
  | some o => operatorMayHold p o a
  | none => false
/-- The session's operator is a SUPERVISOR. -/
def supervisor (p : Part) : Bool :=
  match sessionOperator p with
  | some o => decide (o.role = .supervisor)
  | none => false
/-- The session credential, 0 with no session. -/
def sessionCredential (p : Part) : Credential :=
  match p.ssu.session with
  | some x => x.credential
  | none => 0
/-- The number of the enabled operator record that carries `c` (R76); 0 is not known. -/
def knownOperator (p : Part) (c : Credential) : Option (Fin 48) :=
  if c = 0 then none
  else (List.finRange 48).find? fun i =>
    (p.stc.settings.operators.get i).enabled && decide ((p.stc.settings.operators.get i).credential = c)

/-! ## Areas (R4, R24, R44, R94) -/

/-- The station holds area `a`. -/
def holds (p : Part) (a : Area) : Bool := decide ((view p a).role = .hold)
/-- The station holds at least one area. -/
def holdsAny (p : Part) : Bool := allAreas.any (holds p)
/-- Area `a` is annunciated (R44). -/
def annunciated (p : Part) (a : Area) : Bool :=
  decide ((view p a).role = .hold) || decide ((view p a).role = .cover)
/-- Area `a` is a lamp area (R44). -/
def lampArea (p : Part) (a : Area) : Bool := decide ((view p a).role ≠ .none)
/-- Area `a` is acting (R24). -/
def acting (p : Part) (a : Area) : Bool := annunciated p a && sessionActive p
/-- Area `a` is in EMERGENCY at this station. -/
def emergency (p : Part) (a : Area) : Bool := (view p a).emergency
/-- Area `a` is ORPHANED in this station's view (R94). -/
def orphaned (p : Part) (a : Area) : Bool := decide ((view p a).holder = 0) && !holds p a
/-- Area `a` is in the home set. -/
def inHome (p : Part) (a : Area) : Bool := AreaSet.has p.stc.settings.home a
/-- Area `a` is in the standby set. -/
def inStandby (p : Part) (a : Area) : Bool := AreaSet.has p.stc.settings.standby a
/-- Area `a` is in the watch set. -/
def inWatch (p : Part) (a : Area) : Bool := AreaSet.has p.stc.settings.watch a
/-- The reception record for area `a`, of either kind. -/
def receptionFor (p : Part) (a : Area) : Option (Fin 4) :=
  (List.finRange 4).find? fun r =>
    match p.hou.receptions.get r with
    | some x => decide (x.area = a)
    | none => false
/-- The offer record for area `a`, of either kind. -/
def offerFor (p : Part) (a : Area) : Option (Fin 4) :=
  (List.finRange 4).find? fun r =>
    match p.hou.offers.get r with
    | some x => decide (x.area = a)
    | none => false
/-- Area `a` is in the follow set (R4). -/
def followed (p : Part) (a : Area) : Bool :=
  inHome p a || inStandby p a || inWatch p a || holds p a || (receptionFor p a).isSome
/-- The set of the areas that satisfy `f`. -/
def areaSetOf (f : Area → Bool) : AreaSet :=
  allAreas.foldl (fun x a => if f a then x ||| AreaSet.single a else x) 0

/-! ## Tags (R1, R3) -/

/-- The tags of a window of size code `c`: 2^(c+3) (R1). -/
def windowSize (c : Byte) : Nat := 2 ^ (c.toNat + 3)
/-- The window covers the tag. -/
def windowCovers (w : Window) (t : Nat) : Bool :=
  decide (w.start.toNat ≤ t) && decide (t < w.start.toNat + windowSize w.size)
/-- The enabled window that covers a tag (R3). -/
def windowOf (ws : Vector Window 32) (t : Tag) : Option Window :=
  ((List.finRange 32).map ws.get).find? fun w => w.enabled && windowCovers w t.toNat
/-- The area a tag is mapped to, absent when it is unmapped (R3). -/
def mapTag (ws : Vector Window 32) (t : Tag) : Option Area :=
  (windowOf ws t).map fun w => areaOfNibble (w.area.extractLsb' 0 4)
/-- The area of a tag at this station. -/
def tagArea (p : Part) (t : Tag) : Option Area := mapTag p.stc.settings.windows t

/-! ## Entries (R6, R7, R8, R19, R20) -/

/-- The entry for a tag. -/
def findEntry (p : Part) (t : Tag) : Option Entry := p.atu.table.find? fun e => decide (e.tag = t)

/-- The derived state of an entry (R7). An unshelved CLEAR and acknowledged entry has none. -/
def entryState (e : Entry) : Option EntryState :=
  match e.shelf with
  | some _ => some .shelved
  | none =>
    if e.active then (if e.acknowledged then some .standing else some .alerting)
    else if e.acknowledged then none else some .returned

/-- The entry is ALERTING: unshelved, ACTIVE, not acknowledged. -/
def alerting (e : Entry) : Bool := decide (entryState e = some .alerting)

/-- An incoming occurrence `n` against the entry's `m` (R8). -/
inductive OccurrenceOrder where
  | equal | newer | older
deriving DecidableEq, Repr

/-- The comparison of occurrence numbers: by (n − m) mod 256 (R8). -/
def compareOccurrence (n m : Occurrence) : OccurrenceOrder :=
  if n - m = 0 then .equal else if (n - m).toNat ≤ 127 then .newer else .older

/-- The table with entry `e` put at its tag's place; entries stand by rising tag. -/
def insertEntry (e : Entry) : List Entry → List Entry
  | [] => [e]
  | x :: xs =>
    if e.tag.toNat < x.tag.toNat then e :: x :: xs
    else if e.tag = x.tag then e :: xs
    else x :: insertEntry e xs

/-- Store or replace the entry for `e`'s tag. -/
def putEntry (e : Entry) (p : Part) : Part := modAtu (fun t => { t with table := insertEntry e t.table }) p

/-- Keep the entries that satisfy `keep`; a removal that brings the count to 448 or below clears every overflow
indicator (R18). -/
def keepEntries (keep : Entry → Bool) (p : Part) : Part :=
  modAtu (fun t =>
    let kept := t.table.filter keep
    { table := kept,
      overflow := if kept.length < t.table.length ∧ kept.length ≤ Config.overflowClearAt then 0 else t.overflow }) p

/-- Remove the entry for a tag. -/
def removeEntry (t : Tag) (p : Part) : Part := keepEntries (fun e => decide (e.tag ≠ t)) p

/-- What an entry adds to its area's signature (R20). -/
def contribution (e : Entry) : Word16 :=
  BitVec.ofNat 16
    (e.tag.toNat * 256 + e.occurrence.toNat + (if e.active then 16384 else 0) + (if e.acknowledged then 32768 else 0))

/-- The entries of area `a`. -/
def areaEntries (p : Part) (a : Area) : List Entry := p.atu.table.filter fun e => decide (e.area = a)
/-- The count of area `a` (R20). -/
def areaCount (p : Part) (a : Area) : Nat := (areaEntries p a).length
/-- The signature of area `a` (R20): the sum of the contributions, mod 65,536. -/
def areaSignature (p : Part) (a : Area) : Word16 := ((areaEntries p a).map contribution).foldl (· + ·) 0

/-- `x` stands before `y` in the presentation order: priority, first-raised time, tag (R19). DESIGN CHOICE: two times are
compared as unsigned numbers, also when the seconds counter has wrapped between them (log 43). -/
def presentedBefore (x y : Entry) : Bool :=
  if priorityNumber x.priority = priorityNumber y.priority then
    if x.firstRaised = y.firstRaised then decide (x.tag.toNat < y.tag.toNat)
    else decide (x.firstRaised.toNat < y.firstRaised.toNat)
  else decide (priorityNumber x.priority < priorityNumber y.priority)

/-- Put an entry at its place of the presentation order. -/
def presentInto (e : Entry) : List Entry → List Entry
  | [] => [e]
  | x :: xs => if presentedBefore e x then e :: x :: xs else x :: presentInto e xs

/-- Entries in presentation order (R19). -/
def presentation (es : List Entry) : List Entry := es.foldr presentInto []

/-- An entry of `a` is ALERTING at urgent priority. -/
def urgentAlerting (p : Part) (a : Area) : Bool :=
  p.atu.table.any fun e => decide (e.area = a) && alerting e && decide (levelOf e.priority = .urgent)

/-! ## Events and statistics (R167, R169) -/

/-- Produce an event at the present station seconds: stored behind the others, or dropped with the overrun flag set when
the queue holds 64 (R167). -/
def produce (e : Event) (p : Part) : Part :=
  modCnp (fun c =>
    if c.events.length < Config.eventCapacity then { c with events := c.events ++ [{ e with time := now p }] }
    else { c with overrun := true }) p

/-- Advance *stale conditions*. -/
def countStaleCondition : Part → Part := modStats fun s => { s with staleConditions := s.staleConditions + 1 }
/-- Advance *stale acknowledgements*. -/
def countStaleAck : Part → Part := modStats fun s => { s with staleAcknowledgements := s.staleAcknowledgements + 1 }
/-- Advance *duplicate acknowledgements*. -/
def countDuplicateAck : Part → Part :=
  modStats fun s => { s with duplicateAcknowledgements := s.duplicateAcknowledgements + 1 }
/-- Advance *unmapped conditions*. -/
def countUnmapped : Part → Part := modStats fun s => { s with unmappedConditions := s.unmappedConditions + 1 }
/-- Advance *table overflows*. -/
def countTableOverflow : Part → Part := modStats fun s => { s with tableOverflows := s.tableOverflows + 1 }
/-- Advance *handovers failed*. -/
def countFailed : Part → Part := modStats fun s => { s with handoversFailed := s.handoversFailed + 1 }
/-- Advance *input changes merged* by `n`. -/
def countMerged (n : Nat) : Part → Part :=
  modStats fun s => { s with changesMerged := s.changesMerged + BitVec.ofNat 16 n }

/-- Set the overflow indicator of area `a` (R18). -/
def setOverflow (a : Area) : Part → Part := modAtu fun t => { t with overflow := t.overflow ||| AreaSet.single a }

end Sys2Proof.Machine
end

