-- ==== Sys2Proof/Machine/Link.lean ====
section
/-! DEFINITION. LIF's side of the queue (chapter 9): slots, the waiting list, the telegrams owners place, withdrawal, and the call for a beacon (R97) that rests on them. -/

namespace Sys2Proof.Machine

/-! ## Slots (R153) -/

/-- The number of occupied slots. -/
def occupied (p : Part) : Nat := (List.finRange 12).countP fun k => (p.lif.slots.get k).isSome

/-- The slot a telegram enters: the free slot of lowest number (log 23). -/
def freeSlotOf (p : Part) : Option (Fin 12) :=
  (List.finRange 12).find? fun k => (p.lif.slots.get k).isNone

/-- LIF admits a request telegram: fewer than 8 slots are occupied, and telegrams may enter the queue (R153). -/
def admitsRequest (p : Part) : Bool := sendingOpen p && decide (occupied p < Config.requestSlots)

/-- Place a telegram WAITING in a free slot, behind those of its class; with no free slot nothing is placed. -/
def placeTelegram (owner : Owner) (t : Telegram) (p : Part) : Part :=
  match freeSlotOf p with
  | some k =>
    modLif (fun l =>
      { l with
        slots := setAt l.slots k
          (some { telegram := t, owner := owner, order := l.nextOrder, state := .waiting, final := false }),
        nextOrder := l.nextOrder + 1 }) p
  | none => p

/-- The place of slot `x` in the queue: class first, then entry order (R153). -/
def queueBefore (x y : Slot) : Bool :=
  let cx := (payloadClass x.telegram.payload).toNat
  let cy := (payloadClass y.telegram.payload).toNat
  if cx = cy then decide (x.order < y.order) else decide (cx < cy)

/-- The better of a candidate slot and slot `k`, when slot `k` satisfies `ok`. -/
def betterSlot (slots : Vector (Option Slot) 12) (ok : Slot → Bool) (best : Option (Fin 12)) (k : Fin 12) :
    Option (Fin 12) :=
  match slots.get k with
  | none => best
  | some x =>
    if ok x then
      match best with
      | none => some k
      | some b =>
        match slots.get b with
        | none => some k
        | some y => if queueBefore x y then some k else some b
    else best

/-- The first slot in queue order that satisfies `ok`. -/
def firstInQueue (ok : Slot → Bool) (p : Part) : Option (Fin 12) :=
  (List.finRange 12).foldl (betterSlot p.lif.slots ok) none

/-- The head: the first WAITING telegram (R153). -/
def queueHead (p : Part) : Option (Fin 12) := firstInQueue (fun x => decide (x.state = .waiting)) p

/-- The slot whose telegram is SENDING. -/
def sendingSlot (p : Part) : Option (Fin 12) :=
  (List.finRange 12).find? fun k =>
    match p.lif.slots.get k with
    | some x => decide (x.state = .sending)
    | none => false

/-- The slot that holds an owner's telegram, not yet transmitted. -/
def slotOfOwner (o : Owner) (p : Part) : Option (Fin 12) :=
  (List.finRange 12).find? fun k =>
    match p.lif.slots.get k with
    | some x => decide (x.owner = o) && decide (x.state ≠ .complete)
    | none => false

/-! ## The telegrams of the owners (R154) -/

/-- A telegram from this station. -/
def ownTelegram (p : Part) (destination : StationNo) (x : Payload) : Telegram :=
  { source := p.stc.number, destination := destination, payload := x }

/-- The debounced condition equals the published condition (R58). -/
def inputMatches (x : InputRecord) : Bool :=
  match x.condition with
  | .active => x.published
  | .clear => !x.published
  | .unknown => true

/-- What contact input `i` has to send: for an ALARM input that is WAITING its condition, by the publication rule (R58);
for a TRIP input that is PENDING its trip, with credential 0 (R60). -/
def inputPayload (p : Part) (i : Fin 8) : Option Payload :=
  let c := inputConfig p i
  let x := input p i
  match c.use with
  | .unused => none
  | .alarm =>
    if x.publication = .waiting ∧ inputMatches x = false then
      if x.published then some (.condition c.tag c.priority false x.publishedOccurrence)
      else some (.condition c.tag c.priority true (x.publishedOccurrence + 1))
    else none
  | .trip =>
    if x.trip = .pending then some (.trip false (areaOfNibble (c.tripArea.extractLsb' 0 4)) 0) else none

/-- Segment `i` of an offer record's digest: summaries (i − 1) × 8 + 1 up to i × 8 of the latched order (R120, R134). -/
def segmentContent (o : Offer) (i : Nat) : DigestContent :=
  { area := o.area, number := o.number, entryCount := BitVec.ofNat 16 o.entryCount, index := BitVec.ofNat 8 i,
    first := decide (i = 1), last := decide (i = o.segmentCount),
    load := (match o.kind with | .handover => 0 | .sync => o.load),
    summaries := (o.summaries.drop ((i - 1) * 8)).take 8 }

/-- The telegram an offer record has to send: its next segment while SENDING, its RELEASE while RELEASING. -/
def offerTelegram (p : Part) (o : Offer) : Option Telegram :=
  match o.state with
  | .sending =>
    some (ownTelegram p (match o.kind with | .handover => o.target | .sync => 0)
      (.digest (segmentContent o o.nextIndex)))
  | .releasing => some (ownTelegram p o.target (.release o.area o.number))
  | .offered => none

/-- The REPLY of a reception record. -/
def replyTelegram (p : Part) (x : Reception) : Telegram :=
  ownTelegram p x.releaser (.reply x.area x.number (decide (x.answer ≠ .none)) x.answer)

/-- The telegram of an answer list item (R117). -/
def answerTelegram (p : Part) (x : AnswerItem) : Telegram :=
  match x.refusal with
  | some reason => ownTelegram p x.addressee (.reply x.area x.number true reason)
  | none => ownTelegram p x.addressee (.withdraw x.area x.number)

/-- The answer list item of a serial number. -/
def answerOf (p : Part) (serial : Nat) : Option AnswerItem :=
  p.hou.answers.find? fun x => decide (x.serial = serial)

/-- The record-owned telegram an owner has to send now, composed from the owner's state at this moment (R154). -/
def ownerTelegram (p : Part) : Owner → Option Telegram
  | .request => none
  | .session _ => none
  | .input i => (inputPayload p i).map (ownTelegram p 0)
  | .beacon => some (ownTelegram p 0 (.beacon {}))
  | .syncRequest a =>
    if (view p a).holder = 0 then none else some (ownTelegram p (view p a).holder (.syncRequest a))
  | .offer r n =>
    match p.hou.offers.get r with
    | some o => if o.serial = n then offerTelegram p o else none
    | none => none
  | .reply r n =>
    match p.hou.receptions.get r with
    | some x => if x.serial = n then some (replyTelegram p x) else none
    | none => none
  | .answer n =>
    match answerOf p n with
    | some x => if x.state = .ready then some (answerTelegram p x) else none
    | none => none

/-- An owner may queue in the present station state: SYNC-REQUEST in STARTING and RUNNING, the rest in RUNNING (R153). -/
def ownerMayQueue (p : Part) : Owner → Bool
  | .syncRequest _ => sendingOpen p
  | _ => running p

/-! ## Owners' marks -/

/-- Change the answer list item of a serial number. -/
def modAnswer (n : Nat) (f : AnswerItem → AnswerItem) (p : Part) : Part :=
  modHou (fun h => { h with answers := h.answers.map fun x => if x.serial = n then f x else x }) p

/-- Change offer record `r` when its serial number is `n`. -/
def modOffer (r : Fin 4) (n : Nat) (f : Offer → Offer) (p : Part) : Part :=
  match p.hou.offers.get r with
  | some o => if o.serial = n then setOffer r (some (f o)) p else p
  | none => p

/-- Change reception record `r` when its serial number is `n`. -/
def modReception (r : Fin 4) (n : Nat) (f : Reception → Reception) (p : Part) : Part :=
  match p.hou.receptions.get r with
  | some x => if x.serial = n then setReception r (some (f x)) p else p
  | none => p

/-- What an owner records when its telegram enters the queue. An ALARM input becomes IN-FLIGHT and advances *input
changes merged* by its unpublished changes less one (R59, log 14). -/
def markEntered (o : Owner) (p : Part) : Part :=
  match o with
  | .request => p
  | .session _ => p
  | .input i =>
    match (inputConfig p i).use with
    | .trip => modInput i (fun x => { x with trip := .inFlight }) p
    | _ =>
      let u := (input p i).unpublished.toNat
      countMerged (u - 1) (modInput i (fun x => { x with publication := .inFlight, unpublished := 0 }) p)
  | .beacon => modAru (fun x => { x with beaconMark := .queued, beaconOwed := false }) p
  | .syncRequest a => modView a (fun v => { v with syncMark := .queued }) p
  | .offer r n => modOffer r n (fun x => { x with mark := .queued }) p
  | .reply r n => modReception r n (fun x => { x with mark := .queued }) p
  | .answer n => modAnswer n (fun x => { x with state := .queued }) p

/-- What an owner records when its telegram finds no free slot or may not enter the queue yet. -/
def markOwed (o : Owner) (p : Part) : Part :=
  match o with
  | .beacon => modAru (fun x => { x with beaconOwed := true }) p
  | .syncRequest a => modView a (fun v => { v with syncMark := .owed }) p
  | .offer r n => modOffer r n (fun x => { x with mark := .owed }) p
  | .reply r n => modReception r n (fun x => { x with mark := .owed }) p
  | _ => p

/-- What an owner records when an attempt with its telegram begins (R97, R112, R113, R117). -/
def markAttempt (o : Owner) (p : Part) : Part :=
  match o with
  | .beacon => modAru (fun x => { x with beaconMark := .sending }) p
  | .offer r n => modOffer r n (fun x => { x with mark := .sending }) p
  | .reply r n => modReception r n (fun x => { x with mark := .sending }) p
  | .answer n => modAnswer n (fun x => { x with state := .sending }) p
  | _ => p

/-- What an owner records when its telegram returns to WAITING: a beacon is composed afresh at the next attempt, so what
it owed is cleared (R97, log 16). -/
def markReturned (o : Owner) (p : Part) : Part :=
  match o with
  | .beacon => modAru (fun x => { x with beaconMark := .queued, beaconOwed := false }) p
  | .offer r n => modOffer r n (fun x => { x with mark := .queued }) p
  | .reply r n => modReception r n (fun x => { x with mark := .queued }) p
  | .answer n => modAnswer n (fun x => { x with state := .queued }) p
  | _ => p

/-! ## The waiting list (R154) -/

/-- Join the waiting list; each owner appears once at most. -/
def joinWaiting (o : Owner) (p : Part) : Part :=
  modLif (fun l => { l with waiting := if o ∈ l.waiting then l.waiting else l.waiting ++ [o] }) p

/-- Leave the waiting list. -/
def leaveWaiting (o : Owner) (p : Part) : Part :=
  modLif (fun l => { l with waiting := l.waiting.filter fun x => decide (x ≠ o) }) p

/-- The class of an owner's pending telegram; none when it has nothing it may send. -/
def pendingClass (p : Part) (o : Owner) : Option Nat :=
  if ownerMayQueue p o then (ownerTelegram p o).map fun t => (payloadClass t.payload).toNat else none

/-- The owner to serve: lowest class, and among equal classes the one that joined first (R154). -/
def pickOwner (p : Part) : List Owner → Option (Owner × Nat)
  | [] => none
  | o :: os =>
    match pendingClass p o, pickOwner p os with
    | none, r => r
    | some c, none => some (o, c)
    | some c, some (o', c') => if c' < c then some (o', c') else some (o, c)

/-- A slot has been freed: serve one owner of the waiting list (R154). -/
def serveWaiting (p : Part) : Part :=
  match pickOwner p p.lif.waiting with
  | none => p
  | some (o, _) =>
    match ownerTelegram p o with
    | none => p
    | some t => markEntered o (placeTelegram o t (leaveWaiting o p))

/-- Place the session's LOGIN telegram (R84, R87, R142). -/
def placeLogin (x : Session) (p : Part) : Part :=
  placeTelegram (.session x.number) (ownTelegram p 0 (.login x.credential)) p

/-- A session whose LOGIN is OWED has it placed, with the mark QUEUED, when fewer than 8 slots are occupied in STARTING
or RUNNING (R87). -/
def placeOwedLogin (p : Part) : Part :=
  match p.ssu.session with
  | none => p
  | some x =>
    if x.mark = .owed ∧ admitsRequest p = true then modSession (fun y => { y with mark := .queued }) (placeLogin x p)
    else p

/-- Free slot `k`, then serve the waiting list and an owed LOGIN. -/
def freeSlot (k : Fin 12) (p : Part) : Part := placeOwedLogin (serveWaiting (setSlot k none p))

/-- Place an owner's record-owned telegram into any free slot, or leave it owed: on the waiting list when only a slot is
wanting, else until the station state allows it (R153, R154). -/
def pushTelegram (o : Owner) (p : Part) : Part :=
  match ownerTelegram p o with
  | none => p
  | some t =>
    if ownerMayQueue p o then
      if occupied p < Config.slotCount then markEntered o (placeTelegram o t (leaveWaiting o p)) else markOwed o (joinWaiting o p)
    else markOwed o p

/-- Withdraw an owner's telegram: from the waiting list, from the queue when WAITING, marked final when SENDING, left
alone when COMPLETE (R156). -/
def withdrawTelegram (o : Owner) (p : Part) : Part :=
  let p := leaveWaiting o p
  match slotOfOwner o p with
  | none => p
  | some k =>
    match p.lif.slots.get k with
    | none => p
    | some x =>
      if x.state = .waiting then freeSlot k p else setSlot k (some { x with final := true }) p

/-- Queue a request telegram of the console computer, its admission already judged (R153). -/
def queueRequest (destination : StationNo) (x : Payload) (p : Part) : Part :=
  placeTelegram .request (ownTelegram p destination x) p

/-! ## The call for a beacon (R97) -/

/-- A call for a beacon; made in RUNNING alone. -/
def callBeacon (p : Part) : Part :=
  if running p then
    match p.aru.beaconMark with
    | .idle => pushTelegram .beacon p
    | .queued => p
    | .sending => modAru (fun x => { x with beaconOwed := true }) p
  else p

end Sys2Proof.Machine
end

