-- ==== Sys2Proof/Machine/Annunciation.lean ====
section
/-! DEFINITION. ANU's horn demands, horn and lamps (chapter 3). Lamp patterns are not stored: they are derived from the other blocks' state. -/

namespace Sys2Proof.Machine

/-- The entry counts for the demand of level `l`: annunciated, ALERTING, not quiet (R48). -/
def holdsDemand (p : Part) (l : Level) (e : Entry) : Bool :=
  annunciated p e.area && alerting e && !e.quiet && decide (levelOf e.priority = l)

/-- Some annunciated area holds an ALERTING, unshelved, non-quiet entry of the level (R48). -/
def demandHeld (p : Part) (l : Level) : Bool := p.atu.table.any (holdsDemand p l)

/-- The horn state of three demands (R49). -/
def hornOf (u rt t : Bool) : HornState :=
  if u || t then .urgent else if rt then .routine else .silent

/-- Put the demands, and derive the horn state; the cadence counter is set to position 0 each time the state becomes
ROUTINE (R49). -/
def setDemands (u rt t : Bool) (n : Anu) : Anu :=
  { n with
    urgent := u, routine := rt, trip := t, horn := hornOf u rt t,
    cadence := if hornOf u rt t = .routine ∧ n.horn ≠ .routine then 0 else n.cadence }

/-- A derivation of the horn demands: U and Rt are cleared when no entry holds them; T is not (R48, R49). -/
def deriveHorn (p : Part) : Part :=
  modAnu (fun n =>
    setDemands (n.urgent && demandHeld p .urgent) (n.routine && demandHeld p .routine) n.trip n) p

/-- Set the demand of a level; the horn follows at the derivation that ends the notice. -/
def raiseDemand (l : Level) : Part → Part :=
  modAnu fun n =>
    match l with
    | .urgent => { n with urgent := true }
    | .routine => { n with routine := true }

/-- ANU takes a new-occurrence notice for entry `e` (R45). -/
def noticeOccurrence (e : Entry) (p : Part) : Part :=
  deriveHorn (if holdsDemand p (levelOf e.priority) e then raiseDemand (levelOf e.priority) p else p)

/-- ANU takes a shelf-release notice for entry `e` (R39, R45). -/
def noticeShelfRelease (e : Entry) (p : Part) : Part :=
  deriveHorn (if annunciated p e.area then raiseDemand (levelOf e.priority) p else p)

/-- ANU takes the notice that area `a` has entered EMERGENCY: T is set when the area is annunciated (R46). -/
def noticeEmergency (a : Area) (p : Part) : Part :=
  deriveHorn (if annunciated p a then modAnu (fun n => { n with trip := true }) p else p)

/-- The area has become annunciated: set the demands for what it already holds (R47). -/
def raiseStanding (a : Area) (p : Part) : Part :=
  let has (l : Level) := p.atu.table.any fun e =>
    decide (e.area = a) && alerting e && !e.quiet && decide (levelOf e.priority = l)
  modAnu (fun n =>
    { n with
      urgent := n.urgent || has .urgent, routine := n.routine || has .routine,
      trip := n.trip || emergency p a }) p

/-- SILENCE: U, Rt and T are cleared together and the horn becomes SILENT (R50). -/
def silenceHorn : Part → Part := modAnu (setDemands false false false)

/-- The HORN output (R49). -/
def hornOutput (p : Part) : Bool :=
  match p.anu.horn with
  | .urgent => true
  | .routine => decide (p.anu.cadence < 200)
  | .silent => false

/-- An entry of area `a` satisfies `f`. -/
def areaHas (p : Part) (a : Area) (f : Entry → Bool) : Bool :=
  p.atu.table.any fun e => decide (e.area = a) && f e

/-- The pattern of area `a`'s lamp (R51). -/
def areaLamp (p : Part) (a : Area) : LampPattern :=
  if !lampArea p a then .off
  else if AreaSet.has p.atu.overflow a || (orphaned p a && decide ((view p a).role ≠ .cover)) then .flicker
  else if emergency p a
      || areaHas p a (fun e => alerting e && !e.quiet && decide (levelOf e.priority = .urgent)) then .fast
  else if areaHas p a (fun e =>
      (alerting e && !e.quiet && decide (levelOf e.priority = .routine)) || decide (entryState e = some .returned))
    then .slow
  else if areaHas p a (fun e => decide (entryState e = some .standing) || (alerting e && e.quiet)) then .steady
  else .off

/-- A lamp of the pattern is on at this position of the phase counter (R52). -/
def lampOn (x : LampPattern) (position : Nat) : Bool :=
  match x with
  | .flicker => decide (position / 10 % 2 = 0)
  | .fast => decide (position / 50 % 2 = 0)
  | .slow => decide (position < 200)
  | .steady => true
  | .off => false

/-- The SESSION lamp (R53). -/
def sessionLamp (p : Part) : LampPattern := if sessionActive p then .steady else .off

/-- A handover reception record is in REVIEW. -/
def inReview (p : Part) : Bool :=
  (List.finRange 4).any fun r =>
    match p.hou.receptions.get r with
    | some x => decide (x.kind = .handover) && decide (x.state = .review)
    | none => false

/-- HOU holds any offer or reception record, of either kind. -/
def anyRecord (p : Part) : Bool :=
  (List.finRange 4).any fun r => (p.hou.offers.get r).isSome || (p.hou.receptions.get r).isSome

/-- The HANDOVER lamp (R53). -/
def handoverLamp (p : Part) : LampPattern :=
  if inReview p then .fast else if anyRecord p || p.ssu.armed then .slow else .off

/-- The STATION lamp (R53); OFF while the part has no station state (log 22). -/
def stationLamp (p : Part) : LampPattern :=
  match p.stc.station with
  | some .unconfigured => .steady
  | some .isolated => .steady
  | some .starting => .slow
  | some .running => .off
  | none => .off

/-- Whether a lamp of this pattern, area lamp or station lamp, is on: as the pattern has it at the present position of the one
lamp phase counter, so that lamps of one pattern are on and off together (R52). -/
def lampLevel (p : Part) (x : LampPattern) : Bool := lampOn x p.anu.phase

/-- The outputs LAMP0 to LAMP15 (R51, R52). -/
def areaLampOutput (p : Part) (a : Area) : Bool := lampLevel p (areaLamp p a)

/-- The output LSES (R52, R53). -/
def sessionLampOutput (p : Part) : Bool := lampLevel p (sessionLamp p)

/-- The output LHOV (R52, R53). -/
def handoverLampOutput (p : Part) : Bool := lampLevel p (handoverLamp p)

/-- The output LSTN (R52, R53). -/
def stationLampOutput (p : Part) : Bool := lampLevel p (stationLamp p)

end Sys2Proof.Machine
end

