-- ==== Sys2Proof/Machine/Load.lean ====
section
/-! DEFINITION. LDM: accrual, flood judgement, decay, the maximum, the station load sum and the ceilings (chapter 4). -/

namespace Sys2Proof.Machine

/-- The load figure of area `a` (R61). -/
def loadOf (p : Part) (a : Area) : Word16 := p.ldm.load.get a
/-- Area `a` is in FLOOD. -/
def inFlood (p : Part) (a : Area) : Bool := AreaSet.has p.ldm.flood a

/-- The weight of a priority (R62). -/
def weightOf (p : Part) : Priority → Nat
  | .p1 => p.stc.settings.w1.toNat
  | .p2 => p.stc.settings.w2.toNat
  | .p3 => p.stc.settings.w3.toNat
  | .p4 => p.stc.settings.w4.toNat

/-- Judge the flood state of area `a` (R64). -/
def judgeFlood (a : Area) (p : Part) : Part :=
  if inFlood p a then
    if (loadOf p a).toNat ≤ p.stc.settings.floodOff then
      produce { kind := .floodOff, area := some a }
        (modLdm (fun l => { l with flood := l.flood &&& ~~~(AreaSet.single a) }) p)
    else p
  else if p.stc.settings.floodOn ≤ (loadOf p a).toNat then
    produce { kind := .floodOn, area := some a }
      (modLdm (fun l => { l with flood := l.flood ||| AreaSet.single a }) p)
  else p

/-- Give area `a` the figure `n`, at most 65,535; a change is followed by the flood judgement (R63, R64). -/
def setLoad (a : Area) (n : Nat) (p : Part) : Part :=
  let x : Word16 := BitVec.ofNat 16 (min 65535 n)
  if x = loadOf p a then p else judgeFlood a (modLdm (fun l => { l with load := setAt l.load a x }) p)

/-- LDM accrues an occurrence of this priority in area `a` (R63). -/
def accrue (a : Area) (x : Priority) (p : Part) : Part := setLoad a ((loadOf p a).toNat + weightOf p x) p

/-- LDM takes the maximum of its figure and a figure from a digest (R69, R70). -/
def takeMaximum (a : Area) (x : Word16) (p : Part) : Part := setLoad a (max (loadOf p a).toNat x.toNat) p

/-- What the metering tick takes off a figure: the figure divided by 2^k, at least 1 (R66). -/
def decayStep (k n : Nat) : Nat := if n / 2 ^ k = 0 then 1 else n / 2 ^ k

/-- The metering tick for area `a` (R66). -/
def decayArea (p : Part) (a : Area) : Part :=
  let n := (loadOf p a).toNat
  if n = 0 then p else setLoad a (n - decayStep p.stc.settings.decayShift n) p

/-- The station load sum (R71). -/
def stationLoad (p : Part) : Nat :=
  min 65535 ((allAreas.map fun a => if holds p a then (loadOf p a).toNat else 0).sum)

/-- The handover ceiling test (R72). -/
def handoverCeilingPasses (p : Part) (a : Area) : Bool :=
  decide ((loadOf p a).toNat < p.stc.settings.handoverCeiling) || supervisor p

/-- The station ceiling test for an offered figure (R73). -/
def stationCeilingPasses (p : Part) (offered : Word16) : Bool :=
  decide (min 65535 (stationLoad p + offered.toNat) ≤ p.stc.settings.stationCeiling) || supervisor p

end Sys2Proof.Machine
end

