-- ==== Sys2Proof/Machine/Table.lean ====
section
/-! DEFINITION. ATU: CONDITION, ACKNOWLEDGE and SHELVE telegrams, the full table, shelf removal, the emergency flush, the departure of an area from the follow set (chapters 1 and 2). -/

namespace Sys2Proof.Machine

/-! ## Storing (R6, R16, R17) -/

/-- Candidate `x` is evicted rather than `y`: largest priority number, then oldest first-raised time, then lowest tag
(R16). DESIGN CHOICE: the times are compared as unsigned numbers, also across a wrap of the seconds counter (log 43). -/
def evictBefore (x y : Entry) : Bool :=
  if priorityNumber x.priority = priorityNumber y.priority then
    if x.firstRaised = y.firstRaised then decide (x.tag.toNat < y.tag.toNat)
    else decide (x.firstRaised.toNat < y.firstRaised.toNat)
  else decide (priorityNumber y.priority < priorityNumber x.priority)

/-- The eviction candidate: among the STANDING entries (R16). -/
def evictionCandidate : List Entry → Option Entry
  | [] => none
  | e :: es =>
    if entryState e = some .standing then
      match evictionCandidate es with
      | none => some e
      | some x => if evictBefore e x then some e else some x
    else evictionCandidate es

/-- Set area `a`'s overflow indicator, advance *table overflows* and produce TABLE-OVERFLOW (R16, R17). -/
def reportOverflow (a : Area) (t : Tag) (reason : Reason) (p : Part) : Part :=
  produce { kind := .tableOverflow, area := some a, tag := some t, reason := some reason }
    (countTableOverflow (setOverflow a p))

/-- Store a new entry, by R16 and R17 when the table holds 512: the answer says whether it was stored. An eviction's
notices and event come before the new entry (R21). -/
def storeNew (e : Entry) (p : Part) : Bool × Part :=
  if p.atu.table.length < Config.tableCapacity then (true, putEntry e p)
  else if levelOf e.priority = .urgent then
    match evictionCandidate p.atu.table with
    | some x =>
      (true, putEntry e (reportOverflow x.area x.tag .evicted (deriveHorn (removeEntry x.tag p))))
    | none => (false, reportOverflow e.area e.tag .notStored p)
  else (false, reportOverflow e.area e.tag .notStored p)

/-- The removal rule: an entry left CLEAR, acknowledged and without a shelf goes (R15). The notice is the caller's. -/
def applyRemoval (t : Tag) (p : Part) : Part :=
  match findEntry p t with
  | some e => if e.shelf.isNone && !e.active && e.acknowledged then removeEntry t p else p
  | none => p

/-! ## New occurrences (R13, R14) -/

/-- The three steps of a stored new occurrence: LDM's accrual when it carries no shelf, the quiet decision, ANU's notice
(R13). -/
def newOccurrence (e : Entry) (p : Part) : Part :=
  let p := if e.shelf.isNone then accrue e.area e.priority p else p
  let quiet := decide (levelOf e.priority = .routine) && inFlood p e.area && !emergency p e.area
  let e' := { e with quiet := quiet }
  noticeOccurrence e' (putEntry e' p)

/-- Store an entry for a tag that has none, and handle the occurrence when it was stored (R10, R11, R13). -/
def storeOccurrence (e : Entry) (p : Part) : Part :=
  let r := storeNew e p
  if r.1 then newOccurrence e r.2 else r.2

/-- An entry as a CONDITION telegram creates it (R6). -/
def freshEntry (p : Part) (t : Tag) (a : Area) (x : Priority) (active : Bool) (n : Occurrence) : Entry :=
  { tag := t, area := a, priority := x, occurrence := n, active := active, acknowledged := false,
    ackCredential := none, quiet := false, shelf := none, firstRaised := now p, lastChange := now p }

/-! ## Shelf removal (R39) -/

/-- The shelf is removed from entry `e`: the entry goes if it is CLEAR and acknowledged; an ALERTING entry that is not
quiet gives a shelf-release notice, every other case an entry-change notice (R39). -/
def removeShelf (e : Entry) (p : Part) : Part :=
  let e' := { e with shelf := none, lastChange := now p }
  let p := applyRemoval e.tag (putEntry e' p)
  if alerting e' && !e'.quiet then noticeShelfRelease e' p else deriveHorn p

/-! ## CONDITION (R9 to R12) -/

/-- A newer occurrence on entry `e`: ACTIVE (R10) or a missed activation (R11). Any shelf stays, but for priority 1
(R12). -/
def renewEntry (p : Part) (e : Entry) (x : Priority) (active : Bool) (n : Occurrence) : Entry :=
  { e with
    occurrence := n, active := active, acknowledged := false, ackCredential := none, priority := x,
    shelf := if x = .p1 then none else e.shelf, lastChange := now p }

/-- A repeat: an ACTIVE telegram of equal occurrence gives entry `e` the priority `x` (R10). Priority 1 removes a shelf
(R12); an urgent priority clears quiet (R14). -/
def repeatActive (e : Entry) (x : Priority) (p : Part) : Part :=
  let e' := { e with
    priority := x, quiet := if levelOf x = .urgent then false else e.quiet,
    lastChange := if x = e.priority then e.lastChange else now p }
  if x = .p1 ∧ e.shelf.isSome = true then removeShelf e' p
  else if e' = e then p
  else deriveHorn (putEntry e' p)

/-- A CLEAR of equal occurrence on entry `e` (R11). -/
def clearEqual (e : Entry) (p : Part) : Part :=
  if e.active then
    deriveHorn (applyRemoval e.tag (putEntry { e with active := false, lastChange := now p } p))
  else p

/-- ATU applies a CONDITION telegram (R9, R10, R11). -/
def applyCondition (t : Tag) (x : Priority) (active : Bool) (n : Occurrence) (p : Part) : Part :=
  match tagArea p t with
  | none => countUnmapped p
  | some a =>
    if followed p a then
      match findEntry p t with
      | none => storeOccurrence (freshEntry p t a x active n) p
      | some e =>
        match compareOccurrence n e.occurrence with
        | .newer => newOccurrence (renewEntry p e x active n) p
        | .older => countStaleCondition p
        | .equal => if active then repeatActive e x p else clearEqual e p
    else p

/-! ## ACKNOWLEDGE (R27, R28) -/

/-- ATU applies an ACKNOWLEDGE telegram (R27). -/
def applyAcknowledge (t : Tag) (n : Occurrence) (c : Credential) (p : Part) : Part :=
  match tagArea p t with
  | none => p
  | some a =>
    if followed p a then
      match findEntry p t with
      | none => countStaleAck p
      | some e =>
        if compareOccurrence n e.occurrence = .equal then
          if e.acknowledged then countDuplicateAck p
          else
            deriveHorn (applyRemoval t (putEntry
              { e with
                acknowledged := true, ackCredential := if c = 0 then none else some c, quiet := false,
                lastChange := now p } p))
        else countStaleAck p
    else p

/-! ## SHELVE (R33, R34, R35) -/

/-- The shelf seconds ATU takes from a SHELVE telegram: 1..59 as 60, above 28,800 as 28,800 (R35). -/
def clampShelf (s : Word16) : Nat := min Config.shelfMax (max Config.shelfMin s.toNat)

/-- ATU applies a SHELVE telegram with seconds above 0 from station `x` (R33). -/
def applyShelve (t : Tag) (s : Word16) (c : Credential) (x : StationNo) (p : Part) : Part :=
  match tagArea p t with
  | none => p
  | some a =>
    if followed p a then
      match findEntry p t with
      | none => countStaleAck p
      | some e =>
        if e.priority = .p1 ∨ emergency p e.area = true then countStaleAck p
        else
          deriveHorn (putEntry
            { e with
              shelf := some { seconds := clampShelf s, credential := c, station := x }, lastChange := now p } p)
    else p

/-- ATU applies a SHELVE telegram with seconds 0: an unshelve (R34). -/
def applyUnshelve (t : Tag) (p : Part) : Part :=
  match tagArea p t with
  | none => p
  | some a =>
    if followed p a then
      match findEntry p t with
      | none => countStaleAck p
      | some e => if e.shelf.isSome then removeShelf e p else p
    else p

/-! ## Emergency (R40) -/

/-- Clear the quiet flag of every entry of area `a`, each change an entry-change notice (R14, R40). -/
def clearQuiet (a : Area) (p : Part) : Part :=
  deriveHorn (modAtu (fun t =>
    { t with table := t.table.map fun e => if e.area = a then { e with quiet := false } else e }) p)

/-- Remove the shelf of a tag's entry, if it carries one. -/
def removeShelfOf (p : Part) (t : Tag) : Part :=
  match findEntry p t with
  | some e => if e.shelf.isSome then removeShelf e p else p
  | none => p

/-- ATU's action on the entry of area `a` into EMERGENCY (R40): quiet flags first, then every shelf, unless
keep-shelves-on-trip is configured. -/
def flushArea (a : Area) (p : Part) : Part :=
  let p := clearQuiet a p
  if p.stc.settings.keepShelves then p
  else ((areaEntries p a).map Entry.tag).foldl removeShelfOf p

/-! ## Digest summaries (R42, R124, R136) -/

/-- The shelf a summary gives an entry of priority `x` in area `a`, from station `s` (R42). -/
def summaryShelf (p : Part) (a : Area) (x : Priority) (s : StationNo) (d : Summary) : Option Shelf :=
  if d.shelfSeconds = 0 ∨ x = .p1 ∨ (emergency p a = true ∧ p.stc.settings.keepShelves = false) then none
  else some { seconds := min Config.shelfMax d.shelfSeconds.toNat, credential := 0, station := s }

/-- The first-raised time of a summary: the present station seconds less its age, or 0 when the age is the larger
(R124). -/
def summaryRaised (p : Part) (d : Summary) : Seconds :=
  if (now p).toNat < d.age.toNat then 0 else now p - BitVec.ofNat 32 d.age.toNat

/-- An entry created from summary `d` (R124). -/
def summaryEntry (p : Part) (a : Area) (s : StationNo) (d : Summary) : Entry :=
  { tag := d.tag, area := a, priority := d.priority, occurrence := d.occurrence, active := d.active,
    acknowledged := d.acknowledged, ackCredential := none, quiet := false,
    shelf := summaryShelf p a d.priority s d, firstRaised := summaryRaised p d, lastChange := now p }

/-- The entry of a merge at equal occurrence: acknowledged yes is taken, and the summary's shelf when the entry carries
none (R124). -/
def mergeEqual (p : Part) (s : StationNo) (d : Summary) (e : Entry) : Entry :=
  let shelf := if e.shelf.isSome then e.shelf else summaryShelf p e.area e.priority s d
  let acks := d.acknowledged && !e.acknowledged
  { e with
    acknowledged := e.acknowledged || d.acknowledged, quiet := if acks then false else e.quiet, shelf := shelf,
    lastChange := if acks = true ∨ shelf ≠ e.shelf then now p else e.lastChange }

/-- Store an entry created from a digest, then the removal rule and the entry-change notice (R15, R17, R124). -/
def storeSummary (a : Area) (s : StationNo) (d : Summary) (p : Part) : Part :=
  let r := storeNew (summaryEntry p a s d) p
  if r.1 then deriveHorn (applyRemoval d.tag r.2) else r.2

/-- Merge one summary of a handover digest of area `a` from station `s` (R124). -/
def mergeSummary (a : Area) (s : StationNo) (p : Part) (d : Summary) : Part :=
  if tagArea p d.tag = some a then
    match findEntry p d.tag with
    | none => storeSummary a s d p
    | some e =>
      match compareOccurrence d.occurrence e.occurrence with
      | .older => p
      | .equal =>
        if mergeEqual p s d e = e then p
        else deriveHorn (applyRemoval d.tag (putEntry (mergeEqual p s d e) p))
      | .newer =>
        deriveHorn (applyRemoval d.tag (putEntry { summaryEntry p e.area s d with tag := e.tag } p))
  else p

/-- The entry of a replace at equal occurrence: priority, condition, acknowledged field and shelf are the summary's; the
first-raised time is kept, and quiet and the acknowledging credential while acknowledged stays yes (R136). -/
def replaceEqual (p : Part) (s : StationNo) (d : Summary) (e : Entry) : Entry :=
  let shelf := summaryShelf p e.area d.priority s d
  let keeps := e.acknowledged && d.acknowledged
  { e with
    priority := d.priority, active := d.active, acknowledged := d.acknowledged, shelf := shelf,
    quiet := keeps && e.quiet, ackCredential := if keeps then e.ackCredential else none,
    lastChange :=
      if d.priority ≠ e.priority ∨ d.active ≠ e.active ∨ d.acknowledged ≠ e.acknowledged ∨ e.shelf.isSome = true
          ∨ shelf.isSome = true then now p
      else e.lastChange }

/-- Apply one summary of a sync digest of area `a` from station `s` (R136). -/
def replaceSummary (a : Area) (s : StationNo) (p : Part) (d : Summary) : Part :=
  if tagArea p d.tag = some a then
    match findEntry p d.tag with
    | none =>
      let r := storeNew (summaryEntry p a s d) p
      if r.1 then applyRemoval d.tag r.2 else r.2
    | some e =>
      if compareOccurrence d.occurrence e.occurrence = .equal then
        applyRemoval d.tag (putEntry (replaceEqual p s d e) p)
      else applyRemoval d.tag (putEntry { summaryEntry p e.area s d with tag := e.tag } p)
  else p

/-- Replace the entries of area `a` by a sync digest's summaries: first every entry of `a` that the digest lacks goes,
then each summary is applied; ANU receives an entry-change notice for the area (R136). -/
def replaceArea (a : Area) (s : StationNo) (ds : List Summary) (p : Part) : Part :=
  deriveHorn (ds.foldl (replaceSummary a s)
    (keepEntries (fun e => !decide (e.area = a) || ds.any fun d => decide (d.tag = e.tag)) p))

/-- HOU's latch: area `a`'s entries as summaries, in presentation order (R115). -/
def summaryOfEntry (p : Part) (e : Entry) : Summary :=
  { tag := e.tag, priority := e.priority, active := e.active, acknowledged := e.acknowledged,
    occurrence := e.occurrence,
    shelfSeconds := (match e.shelf with | some x => BitVec.ofNat 16 x.seconds | none => 0),
    age := BitVec.ofNat 16 (min 65535 (now p - e.firstRaised).toNat) }

/-- The summaries of area `a` as they stand. -/
def latchSummaries (p : Part) (a : Area) : List Summary :=
  (presentation (areaEntries p a)).map (summaryOfEntry p)

/-! ## The follow set's departures (R5, R67) -/

/-- Every area outside the follow set: its entries go, its overflow indicator is clear, its load figure 0 and CALM; one
notice to ANU. ATU judges this once a block's whole change is complete (R4, R5). -/
def purgeUnfollowed (p : Part) : Part :=
  let q := keepEntries (fun e => followed p e.area) p
  deriveHorn
    (modLdm (fun l =>
      { load := tabulate fun a => if followed p a then l.load.get a else 0,
        flood := l.flood &&& areaSetOf (followed p) })
    (modAtu (fun t => { t with overflow := t.overflow &&& areaSetOf (followed p) }) q))

/-! ## Shelf countdown (R37, R38) -/

/-- A shelf runs out: SHELF-EXPIRED, then the removal (R37, R38, R39). -/
def expireShelf (e : Entry) (p : Part) : Part :=
  removeShelf e (produce { kind := .shelfExpired, area := some e.area, tag := some e.tag } p)

end Sys2Proof.Machine
end

