-- ==== Sys2Proof/Machine/Records.lean ====
section
/-! DEFINITION. HOU's records, digest store and answer list: creating, freeing and closing them (R112 to R117, R131 to R133). -/

namespace Sys2Proof.Machine

/-- The summaries an offer record reserves in the digest store (R114). -/
def offerRoom (o : Option Offer) : Nat :=
  match o with
  | some x => x.entryCount
  | none => 0

/-- The summaries a reception record reserves in the digest store (R114). -/
def receptionRoom (o : Option Reception) : Nat :=
  match o with
  | some x => x.entryCount
  | none => 0

/-- The room reserved in the digest store by every record in use (R114). -/
def storeReserved (p : Part) : Nat :=
  ((List.finRange 4).map fun r => offerRoom (p.hou.offers.get r) + receptionRoom (p.hou.receptions.get r)).sum

/-- The store has room for a record of `n` summaries; a record of 0 always finds room (R114). -/
def storeHasRoom (p : Part) (n : Nat) : Bool :=
  decide (n = 0) || decide (n + storeReserved p ≤ Config.storeCapacity)

/-- The free offer record of lowest number (log 23). -/
def freeOfferRecord (p : Part) : Option (Fin 4) :=
  (List.finRange 4).find? fun r => (p.hou.offers.get r).isNone

/-- The free reception record of lowest number (log 23). -/
def freeReceptionRecord (p : Part) : Option (Fin 4) :=
  (List.finRange 4).find? fun r => (p.hou.receptions.get r).isNone

/-- The segments of a digest of `n` summaries: `n` divided by 8, rounded up (R119). -/
def segmentsFor (n : Nat) : Nat := (n + 7) / 8

/-- The segments of a sync digest: at least 1 (R134). -/
def syncSegmentsFor (n : Nat) : Nat := max 1 (segmentsFor n)

/-- Create an answer list item, unless the list holds 4 (R117). One that need not wait for a digest's end is READY, and
its telegram is placed while the station is RUNNING and a slot is free. -/
def addAnswer (refusal : Option ReplyReason) (a : Area) (dest : StationNo) (h : Byte) (waits : Bool) (p : Part) : Part :=
  if p.hou.answers.length < Config.answerCapacity then
    let n := p.hou.nextSerial
    let item : AnswerItem :=
      { refusal := refusal, area := a, addressee := dest, number := h,
        state := if waits then .waitingEnd else .ready, gap := if waits then Config.gapSeconds else 0, serial := n }
    let p := modHou (fun x => { x with answers := x.answers ++ [item], nextSerial := n + 1 }) p
    if waits then p else pushTelegram (.answer n) p
  else p

/-- Free offer record `r`, its room returned and its telegram withdrawn or dropped; ANU derives afresh (R113, R114, R156). -/
def dropOffer (r : Fin 4) (p : Part) : Part :=
  match p.hou.offers.get r with
  | none => p
  | some o => deriveHorn (setOffer r none (withdrawTelegram (.offer r o.serial) p))

/-- Free reception record `r`, its room returned and its REPLY withdrawn or dropped; ANU derives afresh. -/
def dropReception (r : Fin 4) (p : Part) : Part :=
  match p.hou.receptions.get r with
  | none => p
  | some x => deriveHorn (setReception r none (withdrawTelegram (.reply r x.serial) p))

/-- HOU frees offer record `r` without completing it: a HANDOVER record gives a WITHDRAW to its target when `notify`
holds, OFFER-CLOSED and *handovers failed*; a SYNC record goes silently (R131, R132, R133). -/
def closeOffer (r : Fin 4) (reason : Reason) (notify : Bool) (p : Part) : Part :=
  match p.hou.offers.get r with
  | none => p
  | some o =>
    match o.kind with
    | .sync => dropOffer r p
    | .handover =>
      let p := dropOffer r p
      let p := if notify then addAnswer none o.area o.target o.number false p else p
      countFailed
        (produce { kind := .offerClosed, area := some o.area, station := some o.target, reason := some reason } p)

/-- HOU frees reception record `r` without completing it: a handover record gives RECEPTION-CLOSED and *handovers
failed*; a sync record goes silently (R122, R127, R131, R132, R133, R135). -/
def closeReception (r : Fin 4) (reason : Reason) (p : Part) : Part :=
  match p.hou.receptions.get r with
  | none => p
  | some x =>
    match x.kind with
    | .sync => dropReception r p
    | .handover =>
      countFailed
        (produce { kind := .receptionClosed, area := some x.area, station := some x.releaser, reason := some reason }
          (dropReception r p))

/-- HOU's notice of the loss of held area `a`: its offer record, if any, is freed (R133). -/
def closeOfferFor (a : Area) (reason : Reason) (notify : Bool) (p : Part) : Part :=
  match offerFor p a with
  | some r => closeOffer r reason notify p
  | none => p

/-- An offer record for area `a` that has entered EMERGENCY is freed, without telegrams (R132). -/
def tripOffer (a : Area) (p : Part) (r : Fin 4) : Part :=
  match p.hou.offers.get r with
  | some o => if o.area = a then closeOffer r .trip false p else p
  | none => p

/-- A reception record for area `a` that has entered EMERGENCY is freed, without telegrams (R132). -/
def tripReception (a : Area) (p : Part) (r : Fin 4) : Part :=
  match p.hou.receptions.get r with
  | some x => if x.area = a then closeReception r .trip p else p
  | none => p

/-- HOU's notice that area `a` has entered EMERGENCY: every record for `a` is freed, without telegrams (R132). -/
def tripRecords (a : Area) (p : Part) : Part :=
  (List.finRange 4).foldl (tripReception a) ((List.finRange 4).foldl (tripOffer a) p)

/-- HOU frees silently the sync record of area `a` whose source is not the holder `x` now recorded (R135). -/
def dropForeignSync (a : Area) (x : StationNo) (p : Part) : Part :=
  match receptionFor p a with
  | none => p
  | some r =>
    match p.hou.receptions.get r with
    | none => p
    | some y => if y.kind = .sync ∧ y.releaser ≠ x then dropReception r p else p

end Sys2Proof.Machine
end

