-- ==== Sys2Proof/Machine/Responsibility.lean ====
section
/-! DEFINITION. ARU: roles, gains and losses of areas, claims, sync requests, emergency state, and the taking of its telegrams (chapter 6); the unattended grace timer (R90). -/

namespace Sys2Proof.Machine

/-! ## Roles (R94, R47) -/

/-- The role of an area that the station does not hold (R94). -/
def unheldRole (p : Part) (a : Area) : Role :=
  let q := modView a (fun v => { v with role := .none }) p
  let v := view p a
  if !listening p then .none
  else if (inHome p a || inStandby p a) && !v.relinquished && (decide (v.holder = 0) || !v.attended) then .cover
  else if followed q a then .watch
  else .none

/-- Give area `a` a role; ANU takes the role change notice, and sets demands when the area becomes annunciated (R44,
R47). -/
def changeRole (a : Area) (x : Role) (p : Part) : Part :=
  if (view p a).role = x then p
  else
    let before := annunciated p a
    let p := modView a (fun v => { v with role := x }) p
    deriveHorn (if !before && annunciated p a then raiseStanding a p else p)

/-- Derive the role of area `a` afresh; a held area stays HOLD (R94). -/
def refreshRole (p : Part) (a : Area) : Part :=
  if holds p a then p else changeRole a (unheldRole p a) p

/-- Derive every area's role afresh. -/
def refreshRoles (p : Part) : Part := allAreas.foldl refreshRole p

/-- ARU and ATU complete a change: roles derived, then the follow set judged (R4, R94). -/
def settleAreas (p : Part) : Part := purgeUnfollowed (refreshRoles p)

/-- The claim delay starts when the area is now ORPHANED (R102). -/
def startClaimDelay (a : Area) (p : Part) : Part :=
  if orphaned p a then modView a (fun v => { v with claimDelay := 3 * ownPeriod p }) p else p

/-! ## Holdings (R90, R95, R96, R145) -/

/-- The grace timer stops; its count becomes 0 (R90). -/
def stopGrace : Part → Part := modAru fun x => { x with graceRunning := false, grace := 0 }

/-- The grace timer starts at the configured grace, unless it runs (R90). -/
def startGrace (p : Part) : Part :=
  modAru (fun x =>
    if x.graceRunning then x else { x with graceRunning := true, grace := p.stc.settings.grace }) p

/-- The relief record returns to IDLE, its window 0; ANU takes the notice (R138). -/
def disarmRelief (p : Part) : Part := deriveHorn (modSsu (fun u => { u with armed := false, window := 0 }) p)

/-- An ARMED relief is cancelled with a reason and, for a trip, the area (R144). -/
def cancelRelief (reason : Reason) (a : Option Area) (p : Part) : Part :=
  if p.ssu.armed then produce { kind := .reliefCancelled, area := a, reason := some reason } (disarmRelief p) else p

/-- After a loss that leaves the station holding no area: the grace timer stops and an ARMED relief is cancelled (R90,
R145). -/
def afterLoss (p : Part) : Part :=
  if holdsAny p then p else cancelRelief .holdings none (stopGrace p)

/-- A view with no holder: its flags no, its figures 0, period 1 s, age 0 (R92). -/
def noHolder (v : View) : View :=
  { v with
    holder := 0, attended := false, holderEmergency := false, holderFlood := false, holderCount := 0,
    holderSignature := 0, holderLoad := 0, holderPeriod := 0, age := 0 }

/-- The mismatch count becomes 0, an OWED SYNC-REQUEST is dropped with its mark NONE, and resync pending becomes 0 whatever
the mark (R95, R99, R101; log 17). -/
def dropOwedSync (a : Area) (p : Part) : Part :=
  leaveWaiting (.syncRequest a)
    (modView a (fun v =>
      { v with
        mismatch := 0, resync := 0,
        syncMark := match v.syncMark with | .owed => .none | m => m }) p)

/-- The holder of area `a` is cleared to 0 (R99, R101). -/
def clearHolder (a : Area) (p : Part) : Part := dropOwedSync a (modView a noHolder p)

/-- The station loses held area `a`: the view as the cause records it, the event, the role derived afresh, HOU's notice,
the claim delay (R96). The caller completes the step: `afterLoss`, the follow set, the beacon. -/
def loseArea (a : Area) (record : View → View) (event : Event) (reason : Reason) (notify : Bool) (p : Part) : Part :=
  let p := produce event (modView a record p)
  let p := changeRole a (unheldRole p a) p
  startClaimDelay a (closeOfferFor a reason notify p)

/-- The station gains area `a` (R95). -/
def gainArea (a : Area) (p : Part) : Part :=
  let p := dropOwedSync a (modView a (fun v => { noHolder v with relinquished := false, startup := false }) p)
  let p := callBeacon (changeRole a .hold p)
  if sessionActive p then p else startGrace p

/-- Every condition of a claim of area `a` holds (R103). -/
def canClaim (p : Part) (a : Area) : Bool :=
  orphaned p a && !(view p a).relinquished && running p && mayHold p a
    && (inHome p a || (inStandby p a && decide ((view p a).claimDelay = 0))) && (receptionFor p a).isNone

/-- Judge the claim of one area: it is gained, held and attended, with the event CLAIMED (R103). -/
def claimArea (p : Part) (a : Area) : Part :=
  if canClaim p a then produce { kind := .claimed, area := some a } (gainArea a p) else p

/-- Judge claims, in area order (R103). -/
def judgeClaims (p : Part) : Part := allAreas.foldl claimArea p

/-- HOU has freed a reception record: roles and follow set are judged, then claims (R4, R94, R103). -/
def afterReceptionFreed (p : Part) : Part := judgeClaims (settleAreas p)

/-! ## Sync requests (R104, R105) -/

/-- Issue a SYNC-REQUEST for area `a` to its holder; resync pending becomes 30 (R105). -/
def issueSync (a : Area) (p : Part) : Part :=
  modView a (fun v => { v with resync := Config.resyncSeconds }) (pushTelegram (.syncRequest a) p)

/-- Judge the start-up request of one area in STARTING (R105). -/
def judgeStartupArea (p : Part) (a : Area) : Part :=
  let v := view p a
  if v.startup ∧ v.holder ≠ 0 ∧ v.resync = 0 ∧ v.syncMark = .none then
    modView a (fun v => { v with startup := false }) (issueSync a p)
  else p

/-- Judge the start-up requests, in STARTING (R105). DESIGN CHOICE: by rising area number, which is the SYNC-REQUESTs' order
in the queue and decides which of them wait when it fills (log 53). -/
def judgeStartup (p : Part) : Part := if starting p then allAreas.foldl judgeStartupArea p else p

/-! ## Beacons (R93, R98, R99, R100, R104, R109) -/

/-- The first area of the beacon's list and its items (R98): the held areas numbered F or above. -/
def heldFrom (p : Part) : List Area := allAreas.filter fun a => holds p a && decide (p.aru.first.val ≤ a.val)

/-- The item of one held area (R68, R98). -/
def beaconItem (p : Part) (a : Area) : BeaconItem :=
  { area := a, attended := sessionActive p, emergency := emergency p a, flood := inFlood p a,
    count := BitVec.ofNat 16 (areaCount p a), signature := areaSignature p a, load := loadOf p a }

/-- A beacon's content, composed from the state at this moment (R98). -/
def composeBeacon (p : Part) : BeaconContent :=
  { complete := decide ((heldFrom p).length ≤ 10), state := .running, period := p.stc.settings.periodCode,
    first := p.aru.first, credential := sessionCredential p,
    items := ((heldFrom p).take 10).map (beaconItem p) }

/-- F after the completion of a beacon: 0 after a complete one, else the area after its last item (R98). -/
def nextFirst (c : BeaconContent) : Area :=
  if c.complete then 0
  else
    match c.items.getLast? with
    | some x => Fin.ofNat 16 (x.area.val + 1)
    | none => 0

/-- The station list record of a station that is heard (R93). -/
def heardRecord (p : Part) (x : StationNo) : Option Heard :=
  p.aru.stations.find? fun h => decide (h.station = x)

/-- Put a station's record in the list, by rising station number. -/
def insertHeard (x : Heard) : List Heard → List Heard
  | [] => [x]
  | y :: ys =>
    if x.station.toNat < y.station.toNat then x :: y :: ys
    else if x.station = y.station then x :: ys
    else y :: insertHeard x ys

/-- The period code of a station: the one it announced, 1 s while unheard (R93). -/
def stationPeriod (p : Part) (x : StationNo) : PeriodCode :=
  match heardRecord p x with
  | some h => h.period
  | none => 0

/-- A view whose holder is station `x`, its fields copied from a beacon item (R99). A recorded holder clears the
relinquished mark (R96). -/
def holderFrom (x : StationNo) (period : PeriodCode) (i : BeaconItem) (v : View) : View :=
  { v with
    holder := x, attended := i.attended, holderEmergency := i.emergency, holderFlood := i.flood,
    holderCount := i.count, holderSignature := i.signature, holderLoad := i.load, holderPeriod := period, age := 0,
    relinquished := false }

/-- The conflict rule: a held area is listed by station `x` (R100). CONFLICT stands before the offer record's OFFER-CLOSED
(log 20). DESIGN CHOICE: the beacon is called for as each area is yielded, and a call while one is queued does nothing
(log 56). -/
def conflict (x : StationNo) (period : PeriodCode) (i : BeaconItem) (p : Part) : Part :=
  if x.toNat < p.stc.number.toNat then
    let p := loseArea i.area (holderFrom x period i)
      { kind := .conflict, area := some i.area, station := some x } .conflict true p
    callBeacon (afterLoss (modStats (fun s => { s with conflictsYielded := s.conflictsYielded + 1 }) p))
  else callBeacon p

/-- Step 1 of a beacon's taking, for one item (R99). -/
def takeItem (x : StationNo) (period : PeriodCode) (p : Part) (i : BeaconItem) : Part :=
  let h := (view p i.area).holder
  if holds p i.area then conflict x period i p
  else if h = 0 ∨ h = x ∨ x.toNat < h.toNat then
    let p := if h = x then p else dropOwedSync i.area p
    dropForeignSync i.area x (modView i.area (holderFrom x period i) p)
  else p

/-- Area `a` lies in the beacon's covered range (R98). DESIGN CHOICE: a beacon that is not complete and lists no item, which
has no last listed area, covers none (log 59). -/
def covered (c : BeaconContent) (a : Area) : Bool :=
  decide (c.first.val ≤ a.val) &&
    (c.complete ||
      match c.items.getLast? with
      | some x => decide (a.val ≤ x.area.val)
      | none => false)

/-- Step 2: an area of the covered range whose holder is `x` and which the beacon does not list (R99). -/
def omitArea (x : StationNo) (c : BeaconContent) (p : Part) (a : Area) : Part :=
  if covered c a = true ∧ (view p a).holder = x ∧ (c.items.any fun i => decide (i.area = a)) = false then
    let p' := startClaimDelay a (clearHolder a p)
    if followed p a then
      produce { kind := .holderLost, area := some a, station := some x, reason := some .omitted } p'
    else p'
  else p

/-- Step 3: the signature comparison for one item from the area's holder `x` (R104). -/
def compareItem (x : StationNo) (p : Part) (i : BeaconItem) : Part :=
  if (view p i.area).holder = x ∧ followed p i.area = true ∧ holds p i.area = false then
    if i.count.toNat = areaCount p i.area ∧ i.signature = areaSignature p i.area then
      modView i.area (fun v => { v with mismatch := 0 }) p
    else
      let p := modView i.area (fun v => { v with mismatch := min 2 (v.mismatch + 1) }) p
      let v := view p i.area
      if v.mismatch = 2 ∧ v.resync = 0 ∧ v.syncMark = .none then issueSync i.area p else p
  else p

/-- Area `a`, NORMAL here, enters EMERGENCY: the event, then the notices to ATU, HOU, SSU and ANU, each whole before the
next, and a beacon when the area is held (R107). No role changes on the way: ANU judges by the role that the area has at
its notice (R46). The caller completes the step: the follow set and claims (`tripArea`, `applyBeacon`). -/
def enterEmergency (a : Area) (source : StationNo) (reason : Reason) (p : Part) : Part :=
  if emergency p a then p
  else
    let p := produce { kind := .areaTripped, area := some a, station := some source, reason := some reason }
      (modView a (fun v => { v with emergency := true }) p)
    let p := tripRecords a (flushArea a p)
    let p := if holds p a then cancelRelief .trip (some a) p else p
    let p := noticeEmergency a p
    if holds p a then callBeacon p else p

/-- A TRIP of area `a` is applied: the four notices of an entry to EMERGENCY, then roles and follow set, since a reception
record may have gone, then claims (R5, R94, R103, R107; log 25). A TRIP for an area in EMERGENCY changes nothing. -/
def tripArea (a : Area) (source : StationNo) (p : Part) : Part :=
  if emergency p a then p else judgeClaims (settleAreas (enterEmergency a source .telegram p))

/-- Area `a`, in EMERGENCY here, returns to NORMAL (R108). -/
def leaveEmergency (a : Area) (source : StationNo) (p : Part) : Part :=
  if emergency p a then
    let p := deriveHorn (produce { kind := .areaRestored, area := some a, station := some source }
      (modView a (fun v => { v with emergency := false }) p))
    if holds p a then callBeacon p else p
  else p

/-- Step 4: an item carrying emergency yes (R109). -/
def tripFromItem (x : StationNo) (p : Part) (i : BeaconItem) : Part :=
  if i.emergency then enterEmergency i.area x .beacon p else p

/-- ARU takes a BEACON from station `x`: one whose state is not RUNNING, or whose source is not 1..62, is dropped; else the
steps 1 to 5, each over the whole beacon. Roles are derived in step 5 alone, but for an area that step 1 yields (R96,
R99). DESIGN CHOICE: step 2 takes the omitted areas by rising number, which orders their events (log 52). -/
def applyBeacon (x : StationNo) (c : BeaconContent) (p : Part) : Part :=
  if c.state = .running ∧ 1 ≤ x.toNat ∧ x.toNat ≤ 62 then
    let p := modAru (fun r =>
      { r with stations := insertHeard { station := x, period := c.period, age := 0, credential := c.credential } r.stations }) p
    let p := c.items.foldl (takeItem x c.period) p
    let p := allAreas.foldl (omitArea x c) p
    let p := c.items.foldl (compareItem x) p
    let p := c.items.foldl (tripFromItem x) p
    judgeStartup (judgeClaims (settleAreas p))
  else p

/-! ## Aging (R93, R101) -/

/-- The holder of area `a` is forgotten: HOLDER-LOST when the area is followed, the claim delay, roles and claims (R101). -/
def forgetHolder (a : Area) (p : Part) : Part :=
  let x := (view p a).holder
  let p' := startClaimDelay a (clearHolder a p)
  let p' := if followed p a then
      produce { kind := .holderLost, area := some a, station := some x, reason := some .aged } p'
    else p'
  judgeClaims (settleAreas p')

/-! ## Station state changes (R111) -/

/-- The view of area `a` as ARU enters STARTING: an owed sync request dropped, a start-up request set when the area is
followed (R105, R111). -/
def startView (p : Part) (a : Area) : Part :=
  let request := followed p a
  modView a (fun v =>
    match v.syncMark with
    | .owed => { v with resync := 0, syncMark := .none, startup := request }
    | _ => { v with startup := request }) p

/-- ARU enters STARTING: owed sync requests dropped, start-up requests set for every followed area, roles derived,
requests judged (R105, R111). -/
def aruStarting (p : Part) : Part := judgeStartup (settleAreas (allAreas.foldl startView p))

/-- ARU enters RUNNING: start-up requests cleared, a beacon called, the schedule at P, claims judged (R111). -/
def aruRunning (p : Part) : Part :=
  let p := callBeacon (settleAreas (modViews (fun v => { v with startup := false }) p))
  judgeClaims (modAru (fun x => { x with schedule := ownPeriod p }) p)

/-- A held area is lost as the station enters ISOLATED (R96). -/
def loseForIsolation (p : Part) (a : Area) : Part :=
  if holds p a then
    afterLoss (loseArea a noHolder
      { kind := .holdingReleased, area := some a, reason := some .isolated } .isolated false p)
  else p

/-- ARU enters ISOLATED: every held area is lost, in area order; beacon mark IDLE, owed flag clear; sync request marks
NONE and resync pending 0 (R96, R111). -/
def aruIsolated (p : Part) : Part :=
  let p := allAreas.foldl loseForIsolation p
  let p := modAru (fun x => { x with beaconMark := .idle, beaconOwed := false }) p
  modViews (fun v => { v with syncMark := .none, resync := 0 }) p

end Sys2Proof.Machine
end

