-- ==== Sys2Proof/Machine/Session.lean ====
section
/-! DEFINITION. SSU: login, session end, badge presentations, relief (chapters 5 and 8), and the expiry of the unattended grace timer (R91). -/

namespace Sys2Proof.Machine

/-- The first check of an ordered list that fails gives the result; none when every check passes. -/
def firstFailing : List (Bool × ResultCode) → Option ResultCode
  | [] => none
  | (ok, code) :: rest => if ok then firstFailing rest else some code

/-! ## Session start (R84, R85) -/

/-- The session that SSU starts now for credential `c` and operator record `r` (R81, R86). -/
def newSession (p : Part) (c : Credential) (r : Fin 48) : Session :=
  { credential := c, record := r, start := now p, mark := .queued, number := p.ssu.nextNumber }

/-- Place the LOGIN telegram and make the session ACTIVE with mark QUEUED (R84 steps 1 and 2, R142 step 2). -/
def installSession (c : Credential) (r : Fin 48) (p : Part) : Part :=
  let x := newSession p c r
  modSsu (fun u => { u with session := some x, nextNumber := u.nextNumber + 1 }) (placeLogin x p)

/-- The relinquished mark of every area is cleared (R96, R142). -/
def clearRelinquished (p : Part) : Part :=
  modViews (fun v => { v with relinquished := false }) p

/-- A held area that the session may not hold is released (R85). -/
def releaseForRights (p : Part) (a : Area) : Part :=
  if holds p a && !mayHold p a then
    afterLoss (loseArea a (fun v => { noHolder v with relinquished := true })
      { kind := .holdingReleased, area := some a, reason := some .rights } .rights true p)
  else p

/-- A login by credential `c` of operator record `r` (R84, R85). -/
def login (c : Credential) (r : Fin 48) (p : Part) : Part :=
  let p := produce { kind := .sessionStarted } (installSession c r p)
  let held := holdsAny p
  let p := allAreas.foldl releaseForRights (clearRelinquished (stopGrace p))
  let p := settleAreas p
  deriveHorn (judgeClaims (if held then callBeacon p else p))

/-! ## Session end (R89) -/

/-- HOU frees offer record `r` at a session end, when it is in SENDING or OFFERED (R133). -/
def closeForSession (p : Part) (r : Fin 4) : Part :=
  match p.hou.offers.get r with
  | some o => if o.state = .releasing then p else closeOffer r .session true p
  | none => p

/-- The session ends, by logout or by displacement from station `source` (R89). DESIGN CHOICE: HOU frees its offer records
by rising record number, which orders their events and their places in the answer list (log 45). -/
def endSession (reason : Reason) (source : Option StationNo) (p : Part) : Part :=
  match p.ssu.session with
  | none => p
  | some x =>
    let p := modSsu (fun u => { u with session := none }) p
    let p := if x.mark = .queued then withdrawTelegram (.session x.number) p else p
    let p := if p.ssu.armed then disarmRelief p else p
    let p := produce { kind := .sessionEnded, station := source, reason := some reason } p
    let p := if holdsAny p then callBeacon (startGrace p) else p
    deriveHorn ((List.finRange 4).foldl closeForSession p)

/-- SSU takes a LOGIN telegram from station `x` (R86). -/
def applyLogin (x : StationNo) (c : Credential) (p : Part) : Part :=
  match p.ssu.session with
  | none => p
  | some y => if c ≠ 0 ∧ y.credential = c then endSession .displaced (some x) p else p

/-! ## Relief (R139 to R145) -/

/-- An entry of a held area is ALERTING at urgent priority (R139, R141). -/
def heldUrgent (p : Part) : Bool := allAreas.any fun a => holds p a && urgentAlerting p a

/-- The checks of a RELIEF request (R139). -/
def reliefRefusal (p : Part) : Option ResultCode :=
  firstFailing
    [(running p, .notRunning), (sessionActive p, .noSession), (!p.ssu.armed, .done), (holdsAny p, .notActing),
     (!heldUrgent p, .unackedUrgent), (!anyRecord p, .busy)]

/-- The relief record becomes ARMED (R139). -/
def armRelief (p : Part) : Part :=
  produce { kind := .reliefArmed }
    (deriveHorn (modSsu (fun u =>
      { u with armed := true, window := p.stc.settings.reliefWindow, armedTime := now p }) p))

/-- The refusal of a relief attempt by credential `c`: reason and area (R141). -/
def reliefDenial (p : Part) (c : Credential) : Option (Reason × Option Area) :=
  match knownOperator p c with
  | none => some (.unknown, none)
  | some r =>
    let o := p.stc.settings.operators.get r
    match allAreas.find? (fun a => holds p a && !operatorMayHold p o a) with
    | some a => some (.noRight, some a)
    | none =>
      match allAreas.find? (fun a => holds p a && urgentAlerting p a) with
      | some a => some (.unackedUrgent, some a)
      | none => if admitsRequest p then none else some (.busy, none)

/-- The session is replaced by the incoming operator (R142). DEDUCED: an area whose relinquished mark is cleared here takes
the role of R94 afresh, and a change from WATCH to COVER sets demands by R47 (log 40). -/
def relieve (c : Credential) (r : Fin 48) (p : Part) : Part :=
  let p :=
    match p.ssu.session with
    | some x => if x.mark = .queued then withdrawTelegram (.session x.number) p else p
    | none => p
  let p := disarmRelief (installSession c r p)
  let p := clearRelinquished (produce { kind := .sessionRelieved } p)
  deriveHorn (judgeClaims (callBeacon (settleAreas p)))

/-- A relief attempt by credential `c` (R141). -/
def attemptRelief (c : Credential) (p : Part) : Part :=
  match reliefDenial p c with
  | some (reason, a) => produce { kind := .reliefDenied, area := a, reason := some reason } p
  | none =>
    match knownOperator p c with
    | some r => relieve c r p
    | none => p

/-! ## Badges (R82, R83) -/

/-- The credential of a frame's bits, most significant bit first (R82). -/
def credentialOfBits (bits : List Bool) : Credential :=
  bits.foldl (fun (c : Credential) b => (c <<< 1) ||| (if b then 1#24 else 0#24)) 0

/-- BADGE-REFUSED with a reason. -/
def refuseBadge (reason : Reason) : Part → Part := produce { kind := .badgeRefused, reason := some reason }

/-- SSU takes a badge presentation (R83), the station not being UNCONFIGURED. -/
def presentBadge (c : Credential) (p : Part) : Part :=
  match p.ssu.session with
  | some x =>
    if c = x.credential then
      if p.ssu.armed then cancelRelief .badge none p else endSession .logout none p
    else if p.ssu.armed then attemptRelief c p
    else if (knownOperator p c).isNone then refuseBadge .unknown p
    else refuseBadge .occupied p
  | none =>
    match knownOperator p c with
    | none => refuseBadge .unknown p
    | some r =>
      if isolated p then refuseBadge .notRunning p
      else if admitsRequest p then login c r p
      else refuseBadge .busy p

/-- A burst of BCLK edges: a complete frame of 24 bits is judged against the hold-off and taken; any other burst is
discarded (R82). -/
def badgeBurst (bits : List Bool) (p : Part) : Part :=
  let c := credentialOfBits bits
  if listening p = true ∧ bits.length = 24 ∧ ¬(0 < p.ssu.holdOff ∧ p.ssu.lastBadge = some c) then
    presentBadge c (modSsu (fun u => { u with lastBadge := some c, holdOff := Config.holdOffTicks }) p)
  else p

/-- The relief window reaches 0 while the relief is ARMED (R140). -/
def reliefWindowRun (p : Part) : Part :=
  if p.ssu.armed = true ∧ p.ssu.window ≤ 1 then cancelRelief .expired none p else p

/-! ## The unattended grace timer (R91) -/

/-- A held area is released at grace expiry (R91). -/
def releaseForGrace (p : Part) (a : Area) : Part :=
  if holds p a then
    afterLoss (loseArea a (fun v => { noHolder v with relinquished := true })
      { kind := .holdingReleased, area := some a, reason := some .grace } .grace true p)
  else p

/-- The unattended grace timer expires: every held area is released, one beacon is called, the timer stops (R91). -/
def expireGrace (p : Part) : Part :=
  stopGrace (callBeacon (settleAreas (allAreas.foldl releaseForGrace p)))

/-- The unattended grace timer reaches 0 while it runs (R90, R91). -/
def graceRun (p : Part) : Part :=
  if p.aru.graceRunning = true ∧ p.aru.grace ≤ 1 then expireGrace p else p

/-! ## The commands -/

/-- BADGE_PRESENTATION. -/
def execBadgePresentation (bits : List Bool) (s : State) : Host.Outcome State Fault Refusal :=
  .next (s.withPart (badgeBurst bits s.part))

/-- RELIEF_WINDOW_EXPIRY. -/
def execReliefWindowExpiry (s : State) : Host.Outcome State Fault Refusal :=
  .next (s.withPart (reliefWindowRun s.part))

/-- GRACE_EXPIRY. -/
def execGraceExpiry (s : State) : Host.Outcome State Fault Refusal :=
  .next (s.withPart (graceRun s.part))

end Sys2Proof.Machine
end

