-- ==== Sys2Proof/Machine/Transfer.lean ====
section
/-! DEFINITION. HOU's protocol: OFFER, DIGEST, REPLY, RELEASE, WITHDRAW and sync digests, at the releaser and at the target (chapter 7). -/

namespace Sys2Proof.Machine

/-! ## The OFFER request (R118, R119) -/

/-- The checks of an OFFER request for area `a` and target byte `s` (R118). -/
def offerRefusal (p : Part) (a : Area) (s : Byte) : Option ResultCode :=
  firstFailing
    [(running p, .notRunning), (sessionActive p, .noSession), (holds p a, .notActing),
     (decide (1 ≤ s.toNat) && decide (s.toNat ≤ 62) && decide (s.toNat ≠ p.stc.number.toNat)
        && (heardRecord p (s.setWidth 6)).isSome, .badTarget),
     ((offerFor p a).isNone && (freeOfferRecord p).isSome, .busy), (!emergency p a, .emergency),
     (!urgentAlerting p a, .unackedUrgent), (handoverCeilingPasses p a, .load),
     (storeHasRoom p (areaCount p a), .noRoom), (admitsRequest p, .busy)]

/-- The handover number counter advances by one, from 255 to 1 (R116). -/
def nextNumber (n : Byte) : Byte := if n = 255 then 1 else n + 1

/-- An offer record latched now for area `a`: its summaries, load figure and signature (R115, R119,
R134); its reply timer has not started and reads 0 (log 57). -/
def latchOffer (p : Part) (kind : TransferKind) (a : Area) (target : StationNo) (h : Byte) (segments : Nat → Nat) : Offer :=
  let ds := latchSummaries p a
  { kind := kind, area := a, target := target, number := h, entryCount := ds.length,
    segmentCount := segments ds.length, nextIndex := 1, state := .sending, load := loadOf p a,
    signature := areaSignature p a,
    credential := (match kind with | .handover => sessionCredential p | .sync => 0),
    replyTimer := 0, mark := .none, summaries := ds, serial := p.hou.nextSerial }

/-- Put a latched record in record `r`; ANU takes the notice of its creation (R113). -/
def createOffer (r : Fin 4) (o : Offer) (p : Part) : Part :=
  deriveHorn (modHou (fun h => { h with nextSerial := h.nextSerial + 1 }) (setOffer r (some o) p))

/-- The OFFER telegram's content (R119). -/
def offerContent (o : Offer) : OfferContent :=
  { area := o.area, number := o.number, entryCount := BitVec.ofNat 16 o.entryCount,
    segmentCount := BitVec.ofNat 8 o.segmentCount, load := o.load, signature := o.signature,
    credential := o.credential }

/-- An OFFER request that passes every check takes effect (R119). -/
def startOffer (a : Area) (s : Byte) (p : Part) : Part :=
  match freeOfferRecord p with
  | none => p
  | some r =>
    let h := nextNumber p.hou.counter
    let o := latchOffer p .handover a (s.setWidth 6) h segmentsFor
    let p := createOffer r { o with mark := .queued } (modHou (fun x => { x with counter := h }) p)
    placeTelegram (.offer r o.serial) (ownTelegram p o.target (.offer (offerContent o))) p

/-! ## The releaser's digest (R120, R134) -/

/-- The record enters OFFERED, its reply timer at W + 15 s (R120). -/
def enterOffered (r : Fin 4) (n : Nat) (p : Part) : Part :=
  modOffer r n (fun o =>
    { o with state := .offered, replyTimer := p.stc.settings.window + Config.replySlack, mark := .none }) p

/-- The OFFER of record `r` has completed (R120). -/
def offerCompleted (r : Fin 4) (n : Nat) (p : Part) : Part :=
  match p.hou.offers.get r with
  | none => p
  | some o =>
    if o.serial = n then
      if o.segmentCount = 0 then enterOffered r n p
      else pushTelegram (.offer r n) (modOffer r n (fun o => { o with mark := .none }) p)
    else p

/-- A segment of record `r` has completed: the next one is queued, or the digest has ended (R120, R134). -/
def segmentCompleted (r : Fin 4) (n : Nat) (p : Part) : Part :=
  match p.hou.offers.get r with
  | none => p
  | some o =>
    if o.serial = n then
      let p := modOffer r n (fun o => { o with nextIndex := o.nextIndex + 1, mark := .none }) p
      if o.segmentCount ≤ o.nextIndex then
        match o.kind with
        | .handover => enterOffered r n p
        | .sync => dropOffer r p
      else pushTelegram (.offer r n) p
    else p

/-- HOU takes ARU's notice to start an outbound sync of area `a` (R106, R134). -/
def startSync (a : Area) (p : Part) : Part :=
  match freeOfferRecord p with
  | none => p
  | some r =>
    if holds p a = true ∧ (offerFor p a).isNone = true ∧ storeHasRoom p (areaCount p a) = true then
      let o := latchOffer p .sync a 0 0 syncSegmentsFor
      pushTelegram (.offer r o.serial) (createOffer r o p)
    else p

/-! ## The target: receiving an offer (R121) -/

/-- The first line of R121's table that refuses an OFFER. -/
def receiveRefusal (p : Part) (c : OfferContent) : Option ReplyReason :=
  if !running p then some .notRunning
  else if holds p c.area then some .holds
  else if (receptionFor p c.area).isSome || (freeReceptionRecord p).isNone then some .busy
  else if emergency p c.area then some .emergency
  else if c.segmentCount.toNat ≠ segmentsFor c.entryCount.toNat then some .digestError
  else if !storeHasRoom p c.entryCount.toNat then some .noRoom
  else none

/-- The reception record an OFFER of station `x` creates (R121). DESIGN CHOICE: a timer that has not started reads 0, the gap
timer with no segment announced and the review or release timer before REVIEW (log 57). -/
def offeredReception (p : Part) (x : StationNo) (c : OfferContent) : Reception :=
  { kind := .handover, area := c.area, releaser := x, number := c.number, entryCount := c.entryCount.toNat,
    segmentCount := c.segmentCount.toNat, load := c.load, signature := c.signature, credential := c.credential,
    received := 0, nextIndex := 1, state := .receiving,
    gap := if c.segmentCount = 0 then 0 else Config.gapSeconds, timer := 0, mark := .none, answer := .none,
    summaries := [], serial := p.hou.nextSerial }

/-- Put a new reception record, last in creation order (R121, R135). -/
def createReception (r : Fin 4) (x : Reception) (p : Part) : Part :=
  modHou (fun h => { h with nextSerial := h.nextSerial + 1 }) (setReception r (some x) p)

/-- The record enters REVIEW: merge, maximum, review timer, event, notice (R123). -/
def enterReview (r : Fin 4) (p : Part) : Part :=
  match p.hou.receptions.get r with
  | none => p
  | some x =>
    let p := takeMaximum x.area x.load (x.summaries.foldl (mergeSummary x.area x.releaser) p)
    let p := setReception r (some { x with state := .review, timer := p.stc.settings.window }) p
    let same := decide (areaCount p x.area = x.entryCount) && decide (areaSignature p x.area = x.signature)
    deriveHorn (produce
      { kind := .review, area := some x.area, station := some x.releaser,
        reason := some (if same then .matched else .differs) } p)

/-- The handover reception record of area `a` from releaser `x`. -/
def handoverFrom (p : Part) (x : StationNo) (a : Area) : Option (Fin 4) :=
  (List.finRange 4).find? fun r =>
    match p.hou.receptions.get r with
    | some y => decide (y.kind = .handover) && decide (y.releaser = x) && decide (y.area = a)
    | none => false

/-- The handover reception record of area `a` from `x` with handover number `h`. -/
def handoverMatching (p : Part) (x : StationNo) (a : Area) (h : Byte) : Option (Fin 4) :=
  (List.finRange 4).find? fun r =>
    match p.hou.receptions.get r with
    | some y =>
      decide (y.kind = .handover) && decide (y.releaser = x) && decide (y.area = a) && decide (y.number = h)
    | none => false

/-- The record of an earlier offer of the same area by the same releaser (R121). -/
def staleReception (p : Part) (x : StationNo) (c : OfferContent) : Option (Fin 4) :=
  match handoverFrom p x c.area with
  | none => none
  | some r =>
    match p.hou.receptions.get r with
    | some y => if y.number = c.number then none else some r
    | none => none

/-- HOU takes an OFFER addressed to this station from `x` (R121). -/
def applyOffer (x : StationNo) (c : OfferContent) (p : Part) : Part :=
  let stale := staleReception p x c
  let p :=
    match stale with
    | some r => closeReception r .withdrawn p
    | none => p
  match receiveRefusal p c, freeReceptionRecord p with
  | some reason, _ =>
    let p := addAnswer (some reason) c.area x c.number (decide (c.segmentCount ≠ 0)) p
    if stale.isSome then afterReceptionFreed p else p
  | none, none => p
  | none, some r =>
    let p := settleAreas (createReception r (offeredReception p x c) p)
    if c.segmentCount = 0 then enterReview r p else p

/-! ## The target: segments (R117, R122, R135, R136) -/

/-- The seven checks of a segment against reception record `x` (R122). -/
def segmentPasses (x : Reception) (d : DigestContent) : Bool :=
  let n := x.received + d.summaries.length
  decide (d.number = x.number) && decide (d.entryCount.toNat = x.entryCount) && decide (d.index.toNat = x.nextIndex)
    && decide (d.first = decide (d.index.toNat = 1)) && decide (d.last = decide (d.index.toNat = x.segmentCount))
    && decide (n ≤ x.entryCount) && (!d.last || decide (n = x.entryCount))

/-- A segment that passes is stored (R122). -/
def storeSegment (x : Reception) (d : DigestContent) : Reception :=
  { x with
    summaries := x.summaries ++ d.summaries, received := x.received + d.summaries.length,
    nextIndex := x.nextIndex + 1, gap := Config.gapSeconds }

/-- A handover record in RECEIVING is discarded: RECEPTION-CLOSED DIGEST-ERROR, and a refusal that is READY at once when
`ready` holds (R122). DESIGN CHOICE: the refusal carries the record's handover number, also where the failing segment
carried another (log 60). -/
def discardReception (r : Fin 4) (ready : Bool) (p : Part) : Part :=
  match p.hou.receptions.get r with
  | none => p
  | some x =>
    afterReceptionFreed
      (addAnswer (some .digestError) x.area x.releaser x.number (!ready) (closeReception r .digestError p))

/-- A refusal item that waits for the end of the digest of area `a`, number `h`, from `x` (R117). DESIGN CHOICE: of several
that wait for one digest the oldest takes the segment, alone (log 54). -/
def waitingItem (p : Part) (x : StationNo) (a : Area) (h : Byte) : Option AnswerItem :=
  p.hou.answers.find? fun i =>
    i.refusal.isSome && decide (i.state = .waitingEnd) && decide (i.addressee = x) && decide (i.area = a)
      && decide (i.number = h)

/-- An item that waited for a digest's end becomes READY, and is placed when it may be (R117). -/
def itemReady (n : Nat) (p : Part) : Part :=
  pushTelegram (.answer n) (modAnswer n (fun i => { i with state := .ready, gap := 0 }) p)

/-- HOU takes a handover DIGEST addressed to this station from `x` (R117, R122). DEDUCED: the record is matched by source and
area, as R122 says, so that a segment of another handover number fails check 1 and discards it (log 47). -/
def applyHandoverDigest (x : StationNo) (d : DigestContent) (p : Part) : Part :=
  match waitingItem p x d.area d.number with
  | some i =>
    if d.last then itemReady i.serial p
    else modAnswer i.serial (fun y => { y with gap := Config.gapSeconds }) p
  | none =>
    match handoverFrom p x d.area with
    | none => p
    | some r =>
      match p.hou.receptions.get r with
      | none => p
      | some y =>
        if y.state = .receiving then
          if segmentPasses y d then
            let p := setReception r (some (storeSegment y d)) p
            if d.last then enterReview r p else p
          else discardReception r d.last p
        else p

/-- The sync reception record of area `a` from `x`. -/
def syncFrom (p : Part) (x : StationNo) (a : Area) : Option (Fin 4) :=
  (List.finRange 4).find? fun r =>
    match p.hou.receptions.get r with
    | some y => decide (y.kind = .sync) && decide (y.releaser = x) && decide (y.area = a)
    | none => false

/-- The sync reception record a first segment creates (R135); its review or release timer never starts and reads 0
(log 57). -/
def syncReception (p : Part) (x : StationNo) (d : DigestContent) : Reception :=
  { kind := .sync, area := d.area, releaser := x, number := 0, entryCount := d.entryCount.toNat,
    segmentCount := syncSegmentsFor d.entryCount.toNat, load := d.load, signature := 0, credential := 0,
    received := 0, nextIndex := 1, state := .receiving, gap := Config.gapSeconds, timer := 0, mark := .none,
    answer := .none, summaries := [], serial := p.hou.nextSerial }

/-- A sync segment from `x` that has no record may create one (R135). -/
def maySync (p : Part) (x : StationNo) (d : DigestContent) : Bool :=
  decide (d.index = 1) && d.first && followed p d.area && !holds p d.area
    && decide ((view p d.area).holder = x) && !emergency p d.area && (receptionFor p d.area).isNone
    && storeHasRoom p d.entryCount.toNat

/-- The sync digest of record `r` is complete: replace, maximum, the record freed, ARU told, *resyncs applied* (R136,
R105). -/
def applySync (r : Fin 4) (x : Reception) (p : Part) : Part :=
  let a := x.area
  let p := takeMaximum a x.load (replaceArea a x.releaser x.summaries p)
  let p := modView a (fun v => { v with mismatch := 0, resync := 0, startup := false }) (dropReception r p)
  afterReceptionFreed (modStats (fun s => { s with resyncsApplied := s.resyncsApplied + 1 }) p)

/-- Check and store a sync segment in record `r` (R135). -/
def feedSync (r : Fin 4) (d : DigestContent) (p : Part) : Part :=
  match p.hou.receptions.get r with
  | none => p
  | some y =>
    if segmentPasses y d = true ∧ d.load = y.load then
      let y' := storeSegment y d
      let p := setReception r (some y') p
      if d.last then applySync r y' p else p
    else afterReceptionFreed (dropReception r p)

/-- HOU takes a broadcast sync DIGEST from `x` (R135). -/
def applySyncDigest (x : StationNo) (d : DigestContent) (p : Part) : Part :=
  match syncFrom p x d.area with
  | some r => feedSync r d p
  | none =>
    match freeReceptionRecord p with
    | none => p
    | some r =>
      if maySync p x d then
        feedSync r d (settleAreas (deriveHorn (createReception r (syncReception p x d) p)))
      else p

/-! ## Accept and decline (R125, R126) -/

/-- The handover reception record of area `a` in REVIEW. -/
def reviewFor (p : Part) (a : Area) : Option (Fin 4) :=
  (List.finRange 4).find? fun r =>
    match p.hou.receptions.get r with
    | some x => decide (x.kind = .handover) && decide (x.state = .review) && decide (x.area = a)
    | none => false

/-- Record `r` is older than the best so far among handover records in REVIEW. -/
def olderReview (p : Part) (best : Option (Fin 4 × Nat)) (r : Fin 4) : Option (Fin 4 × Nat) :=
  match p.hou.receptions.get r with
  | none => best
  | some x =>
    if x.kind = .handover ∧ x.state = .review then
      match best with
      | none => some (r, x.serial)
      | some (b, n) => if x.serial < n then some (r, x.serial) else some (b, n)
    else best

/-- The oldest handover reception record in REVIEW, in order of creation (R55). -/
def oldestReview (p : Part) : Option (Fin 4) :=
  ((List.finRange 4).foldl (olderReview p) none).map Prod.fst

/-- The checks of an ACCEPT of the record found, after the first (R125). -/
def acceptRefusal (p : Part) (x : Reception) : Option ResultCode :=
  firstFailing
    [(decide (x.mark = .none), .busy), (sessionActive p, .noSession), (mayHold p x.area, .noRight),
     (!emergency p x.area, .emergency), (!urgentAlerting p x.area, .unackedUrgent),
     (stationCeilingPasses p x.load, .load)]

/-- Queue the REPLY of record `r`, NONE for ACCEPT, else a DECLINE with the reason; the review timer stops (R125, R126). -/
def queueReply (r : Fin 4) (reason : ReplyReason) (p : Part) : Part :=
  match p.hou.receptions.get r with
  | none => p
  | some x => pushTelegram (.reply r x.serial) (setReception r (some { x with answer := reason }) p)

/-- An ACCEPT of the record found, or none: the result code and the state after (R125). -/
def tryAccept (found : Option (Fin 4)) (p : Part) : ResultCode × Part :=
  match found with
  | none => (.noRecord, p)
  | some r =>
    match p.hou.receptions.get r with
    | none => (.noRecord, p)
    | some x =>
      match acceptRefusal p x with
      | some code => (code, p)
      | none => (.queued, queueReply r .none p)

/-- A DECLINE of the record found, or none (R126). -/
def tryDecline (found : Option (Fin 4)) (p : Part) : ResultCode × Part :=
  match found with
  | none => (.noRecord, p)
  | some r =>
    match p.hou.receptions.get r with
    | none => (.noRecord, p)
    | some x => if x.mark = .none then (.queued, queueReply r .operator p) else (.busy, p)

/-- In STARTING a transfer request is refused NOT-RUNNING, before any other check (R174). -/
def refusedStarting (p : Part) (r : ResultCode × Part) : ResultCode × Part := if starting p then (.notRunning, p) else r

/-! ## Completions and answers (R127 to R131) -/

/-- The REPLY of record `r` has completed (R127). -/
def replyCompleted (r : Fin 4) (n : Nat) (p : Part) : Part :=
  match p.hou.receptions.get r with
  | none => p
  | some x =>
    if x.serial = n then
      if x.answer = .none then
        deriveHorn (setReception r
          (some { x with state := .accepted, mark := .none, timer := Config.releaseSeconds }) p)
      else
        afterReceptionFreed (closeReception r (if x.answer = .timeout then .timeout else .operator) p)
    else p

/-- The HANDOVER offer record whose target is `x`, of area `a` and number `h` (R128). -/
def offerMatching (p : Part) (x : StationNo) (a : Area) (h : Byte) : Option (Fin 4) :=
  (List.finRange 4).find? fun r =>
    match p.hou.offers.get r with
    | some o =>
      decide (o.kind = .handover) && decide (o.target = x) && decide (o.area = a) && decide (o.number = h)
    | none => false

/-- A REPLY that finds no record in OFFERED (R128). -/
def protocolError (x : StationNo) (a : Area) (decline : Bool) : Part → Part :=
  produce { kind := .protocolError, area := some a, station := some x,
            reason := some (if decline then .decline else .accept) }

/-- HOU takes a REPLY addressed to this station from `x` (R128). -/
def applyReply (x : StationNo) (a : Area) (h : Byte) (decline : Bool) (reason : ReplyReason) (p : Part) : Part :=
  match offerMatching p x a h with
  | none => protocolError x a decline p
  | some r =>
    match p.hou.offers.get r with
    | none => protocolError x a decline p
    | some o =>
      if o.state = .offered then
        if decline then
          countFailed (produce
            { kind := .offerDeclined, area := some a, station := some x, reason := some (.reply reason) }
            (dropOffer r p))
        else
          pushTelegram (.offer r o.serial) (setOffer r (some { o with state := .releasing }) p)
      else protocolError x a decline p

/-- The view the releaser records at a completed RELEASE: the target as holder, with the area's own figures (R96). -/
def releasedView (p : Part) (a : Area) (target : StationNo) (v : View) : View :=
  { v with
    holder := target, attended := true, holderEmergency := false, holderFlood := inFlood p a,
    holderCount := BitVec.ofNat 16 (areaCount p a), holderSignature := areaSignature p a, holderLoad := loadOf p a,
    holderPeriod := stationPeriod p target, age := 0, relinquished := false }

/-- The RELEASE of record `r` has completed: the releaser loses the area to the target (R96, R129). -/
def releaseCompleted (r : Fin 4) (n : Nat) (p : Part) : Part :=
  match p.hou.offers.get r with
  | none => p
  | some o =>
    if o.serial = n then
      let a := o.area
      let p := modView a (releasedView p a o.target) p
      let p := dropOffer r (changeRole a (unheldRole p a) p)
      let p := produce { kind := .handoverComplete, area := some a, station := some o.target,
                         reason := some .released } p
      let p := modStats (fun s => { s with completedReleaser := s.completedReleaser + 1 }) p
      callBeacon (settleAreas (afterLoss p))
    else p

/-- HOU takes a RELEASE addressed to this station from `x` (R130). -/
def applyRelease (x : StationNo) (a : Area) (h : Byte) (p : Part) : Part :=
  match handoverMatching p x a h with
  | none => p
  | some r =>
    match p.hou.receptions.get r with
    | none => p
    | some y =>
      if y.state = .accepted then
        let p := dropReception r p
        if sessionActive p && !mayHold p a then
          afterReceptionFreed (countFailed (produce
            { kind := .handoverLost, area := some a, station := some x, reason := some .rights } p))
        else
          let p := produce { kind := .handoverComplete, area := some a, station := some x, reason := some .gained }
            (gainArea a p)
          afterReceptionFreed (modStats (fun s => { s with completedReceiver := s.completedReceiver + 1 }) p)
      else p

/-- HOU takes a WITHDRAW addressed to this station from `x` (R131). -/
def applyWithdraw (x : StationNo) (a : Area) (h : Byte) (p : Part) : Part :=
  match handoverMatching p x a h with
  | none => p
  | some r => afterReceptionFreed (closeReception r .withdrawn p)

/-- An answer list item's telegram has completed: the item leaves the list (R117). -/
def answerCompleted (n : Nat) (p : Part) : Part :=
  modHou (fun h => { h with answers := h.answers.filter fun i => decide (i.serial ≠ n) }) p

/-! ## Timers (R117, R122, R126, R131) -/

/-- The gap count of the answer list's item at this place runs out in WAITING-END (R117). -/
def answerGapRun (item : Fin 4) (p : Part) : Part :=
  match p.hou.answers[item.val]? with
  | some i => if i.state = .waitingEnd ∧ i.gap ≤ 1 then itemReady i.serial p else p
  | none => p

/-- The gap timer of reception record `r` runs out in RECEIVING (R122, R135). -/
def gapRun (r : Fin 4) (p : Part) : Part :=
  match p.hou.receptions.get r with
  | some x =>
    if x.state = .receiving ∧ x.gap ≤ 1 then
      match x.kind with
      | .handover => discardReception r true p
      | .sync => afterReceptionFreed (dropReception r p)
    else p
  | none => p

/-- The review timer of reception record `r` runs out: a REPLY DECLINE with reason TIMEOUT (R126). -/
def reviewRun (r : Fin 4) (p : Part) : Part :=
  match p.hou.receptions.get r with
  | some x =>
    if x.kind = .handover ∧ x.state = .review ∧ x.mark = .none ∧ x.timer ≤ 1 then
      queueReply r .timeout (setReception r (some { x with timer := 0 }) p)
    else p
  | none => p

/-- The release timer of reception record `r` runs out in ACCEPTED: HANDOVER-LOST TIMEOUT (R131). -/
def releaseRun (r : Fin 4) (p : Part) : Part :=
  match p.hou.receptions.get r with
  | some x =>
    if x.state = .accepted ∧ x.timer ≤ 1 then
      afterReceptionFreed (countFailed (produce
        { kind := .handoverLost, area := some x.area, station := some x.releaser, reason := some .timeout }
        (dropReception r p)))
    else p
  | none => p

/-- The reply timer of offer record `r` runs out in OFFERED (R131). -/
def replyRun (r : Fin 4) (p : Part) : Part :=
  match p.hou.offers.get r with
  | some o => if o.state = .offered ∧ o.replyTimer ≤ 1 then closeOffer r .timeout true p else p
  | none => p

/-! ## The commands -/

/-- ANSWER_GAP_EXPIRY. -/
def execAnswerGapExpiry (item : Fin 4) (s : State) : Host.Outcome State Fault Refusal :=
  .next (s.withPart (answerGapRun item s.part))

/-- GAP_TIMEOUT. -/
def execGapTimeout (r : Fin 4) (s : State) : Host.Outcome State Fault Refusal :=
  .next (s.withPart (gapRun r s.part))

/-- REVIEW_TIMEOUT. -/
def execReviewTimeout (r : Fin 4) (s : State) : Host.Outcome State Fault Refusal :=
  .next (s.withPart (reviewRun r s.part))

/-- RELEASE_TIMEOUT. -/
def execReleaseTimeout (r : Fin 4) (s : State) : Host.Outcome State Fault Refusal :=
  .next (s.withPart (releaseRun r s.part))

/-- REPLY_TIMEOUT. -/
def execReplyTimeout (r : Fin 4) (s : State) : Host.Outcome State Fault Refusal :=
  .next (s.withPart (replyRun r s.part))

end Sys2Proof.Machine
end

