-- ==== Sys2Proof/Machine/Panel.lean ====
section
/-! DEFINITION. ANU's keys and contact inputs: debounce, press edges, publication of ALARM inputs, TRIP inputs, and the 5 ms sample tick (chapter 3). -/

namespace Sys2Proof.Machine

/-! ## Publication of ALARM inputs (R58, R59) -/

/-- The unpublished changes of input `i` rise by one; past 65,535 the manual states no result, and the field takes a free
value (log 13). -/
def bumpUnpublished (i : Fin 8) (p : Part) : Part :=
  if (input p i).unpublished = 65535 then
    modAnu (fun n => { n with freeCount := n.freeCount + 1 })
      (modInput i (fun x => { x with unpublished := Config.unpublishedPastEnd p.anu.freeCount }) p)
  else modInput i (fun x => { x with unpublished := x.unpublished + 1 }) p

/-- Input `i` becomes SETTLED by a debounced change or at a completion: *input changes merged* advances by the unpublished
changes, which become 0 (R59). -/
def settleInput (i : Fin 8) (p : Part) : Part :=
  countMerged (input p i).unpublished.toNat
    (modInput i (fun x => { x with publication := .settled, unpublished := 0 }) (leaveWaiting (.input i) p))

/-- Input `i` becomes WAITING, and queues its CONDITION when it may (R58). -/
def awaitInput (i : Fin 8) (p : Part) : Part :=
  pushTelegram (.input i) (modInput i (fun x => { x with publication := .waiting }) p)

/-- Input `i` is judged as at a completion (R58, R59). -/
def judgeInput (i : Fin 8) (p : Part) : Part :=
  if inputMatches (input p i) then settleInput i p else awaitInput i p

/-- The published pair of input `i` taken from the table: the entry's condition and occurrence, else as they stood (R58). -/
def seedPair (i : Fin 8) (p : Part) : Part :=
  match findEntry p (inputConfig p i).tag with
  | some e => modInput i (fun x => { x with published := e.active, publishedOccurrence := e.occurrence }) p
  | none => p

/-- Input `i` leaves UNSEEDED the first time that the station is RUNNING and its condition has settled (R58). -/
def seedInput (p : Part) (i : Fin 8) : Part :=
  if running p = true ∧ (inputConfig p i).use = .alarm ∧ (input p i).publication = .unseeded
      ∧ (input p i).condition ≠ .unknown then
    let p := seedPair i p
    if inputMatches (input p i) then modInput i (fun x => { x with publication := .settled }) p else awaitInput i p
  else p

/-- The other debounced condition. -/
def otherContact : Contact → Contact
  | .active => .clear
  | .clear => .active
  | .unknown => .unknown

/-- A debounced change of ALARM input `i` (R58, R59). -/
def inputChanged (i : Fin 8) (p : Part) : Part :=
  let p := bumpUnpublished i (modInput i (fun x => { x with condition := otherContact x.condition, run := 0 }) p)
  match (input p i).publication with
  | .unseeded => p
  | .settled => awaitInput i p
  | .waiting => if inputMatches (input p i) then settleInput i p else p
  | .inFlight => p

/-- The CONDITION telegram of input `i` has completed: the published pair takes its values, ATU applies it, and the record
is judged (R58). -/
def conditionCompleted (i : Fin 8) (t : Tag) (x : Priority) (active : Bool) (n : Occurrence) (p : Part) : Part :=
  judgeInput i (applyCondition t x active n
    (modInput i (fun y => { y with published := active, publishedOccurrence := n }) p))

/-! ## TRIP inputs (R60) -/

/-- An activation edge of TRIP input `i`: IDLE becomes PENDING, and the TRIP is queued when it may be; any other state
absorbs it (R60). -/
def tripActivated (i : Fin 8) (p : Part) : Part :=
  let p := modInput i (fun x => { x with condition := .active, run := 0 }) p
  if (input p i).trip = .idle then pushTelegram (.input i) (modInput i (fun x => { x with trip := .pending }) p) else p

/-- TRIP input `i` changes from ACTIVE to CLEAR (R60). -/
def tripCleared (i : Fin 8) : Part → Part := modInput i fun x => { x with condition := .clear, run := 0 }

/-- The condition of input `i` settles from UNKNOWN, which is no change; an ALARM input may be seeded now (R57, R58). -/
def inputSettled (i : Fin 8) (active : Bool) (p : Part) : Part :=
  seedInput (modInput i (fun x => { x with condition := if active then .active else .clear, run := 0 }) p) i

/-! ## Keys (R54, R55) -/

/-- The record of key `k`. -/
def key (p : Part) (k : Fin 4) : KeyRecord := p.anu.keys.get k
/-- Change the record of key `k`. -/
def modKey (k : Fin 4) (f : KeyRecord → KeyRecord) (p : Part) : Part :=
  modAnu (fun n => { n with keys := setAt n.keys k (f (n.keys.get k)) }) p

/-- The area of a reception record found. -/
def recordArea (p : Part) (found : Option (Fin 4)) : Option Area :=
  match found with
  | some r => (p.hou.receptions.get r).map Reception.area
  | none => none

/-- The event of a refused key press, with the record's area when there is one, and the refusal code (R55). -/
def keyRefused (kind : EventKind) (a : Option Area) (code : ResultCode) : Part → Part :=
  produce { kind := kind, area := a, reason := some (.result code) }

/-- The ACCEPT key: with no record in REVIEW NO-RECORD in every state, else a request for the record's area (R55, R125). -/
def acceptKey (p : Part) : Part :=
  let found := oldestReview p
  let r := if found.isSome then refusedStarting p (tryAccept found p) else tryAccept found p
  if r.1 = .queued then r.2 else keyRefused .acceptRefused (recordArea p found) r.1 r.2

/-- The DECLINE key: with no record in REVIEW NO-RECORD in every state, else a request for the record's area (R55, R126). -/
def declineKey (p : Part) : Part :=
  let found := oldestReview p
  let r := if found.isSome then refusedStarting p (tryDecline found p) else tryDecline found p
  if r.1 = .queued then r.2 else keyRefused .declineRefused (recordArea p found) r.1 r.2

/-- The RELIEF key (R55, R139). -/
def reliefKey (p : Part) : Part :=
  match reliefRefusal p with
  | none => armRelief p
  | some code => if code = .done then p else keyRefused .reliefRefused none code p

/-- What a press edge of key `k` does: SILENCE, ACCEPT, DECLINE, RELIEF on KEY0..KEY3; nothing in UNCONFIGURED (R55). -/
def keyAction (k : Fin 4) (p : Part) : Part :=
  if unconfigured p then p
  else
    match k with
    | 0 => silenceHorn p
    | 1 => acceptKey p
    | 2 => declineKey p
    | 3 => reliefKey p

/-- A press edge of key `k`: UP becomes DOWN, and the key acts (R54, R55). -/
def pressEdge (k : Fin 4) (p : Part) : Part :=
  keyAction k (modKey k (fun x => { x with state := .down, run := 0 }) p)

/-- Key `k` changes from DOWN to UP, which does nothing more (R54). -/
def releaseEdge (k : Fin 4) : Part → Part := modKey k fun x => { x with state := .up, run := 0 }

/-- Key `k` settles from UNKNOWN, which is no press (R54). -/
def keySettled (k : Fin 4) (down : Bool) : Part → Part :=
  modKey k fun x => { x with state := if down then .down else .up, run := 0 }

/-- The part samples its keys: a reset is not in progress (R170). -/
def sampling (p : Part) : Bool := p.stc.station.isSome

/-- A press edge comes about: the key's debounced state is UP. -/
def pressKey (k : Fin 4) (p : Part) : Part :=
  if sampling p = true ∧ (key p k).state = .up then pressEdge k p else p

/-- A release edge comes about: the key's debounced state is DOWN. -/
def releaseKey (k : Fin 4) (p : Part) : Part :=
  if sampling p = true ∧ (key p k).state = .down then releaseEdge k p else p

/-- A first settling comes about: the key's debounced state is UNKNOWN. -/
def settleKey (k : Fin 4) (down : Bool) (p : Part) : Part :=
  if sampling p = true ∧ (key p k).state = .unknown then keySettled k down p else p

/-- A debounced change of ALARM input `i` comes about: it is an ALARM input whose condition has settled. -/
def changeInput (i : Fin 8) (p : Part) : Part :=
  if listening p = true ∧ (inputConfig p i).use = .alarm ∧ (input p i).condition ≠ .unknown then inputChanged i p else p

/-- An activation edge of TRIP input `i` comes about: its condition is CLEAR. -/
def activateTrip (i : Fin 8) (p : Part) : Part :=
  if listening p = true ∧ (inputConfig p i).use = .trip ∧ (input p i).condition = .clear then tripActivated i p else p

/-- TRIP input `i` comes to rest: its condition is ACTIVE. -/
def clearTrip (i : Fin 8) (p : Part) : Part :=
  if listening p = true ∧ (inputConfig p i).use = .trip ∧ (input p i).condition = .active then tripCleared i p else p

/-- Input `i` settles: it is used, and its condition is UNKNOWN. -/
def settleContact (i : Fin 8) (active : Bool) (p : Part) : Part :=
  if listening p = true ∧ (inputConfig p i).use ≠ .unused ∧ (input p i).condition = .unknown then inputSettled i active p
  else p

/-! ## The sample tick (R49, R52, R54, R57, R82) -/

/-- Samples of a debounce code: 4, 10, 20 or 100 (R56). -/
def debounceSamples (code : BitVec 2) : Nat :=
  if code = 0 then 4 else if code = 1 then 10 else if code = 2 then 20 else 100

/-- The run count after one more sample while the state is UNKNOWN: a sample that differs from the one before restarts it
at 1 (R54). -/
def settleCount (run : Nat) (before sample : Bool) : Nat :=
  if run = 0 then 1 else if before = sample then run + 1 else 1

/-- The sample of key `k`, yes while its button is closed (R54). -/
def sampleKey (closed : Fin 4 → Bool) (p : Part) (k : Fin 4) : Part :=
  let x := key p k
  let c := closed k
  match x.state with
  | .unknown =>
    let n := settleCount x.run x.sample c
    if 4 ≤ n then settleKey k c p else modKey k (fun y => { y with run := n, sample := c }) p
  | .up =>
    if c then if 4 ≤ x.run + 1 then pressKey k p else modKey k (fun y => { y with run := y.run + 1 }) p
    else modKey k (fun y => { y with run := 0 }) p
  | .down =>
    if c then modKey k (fun y => { y with run := 0 }) p
    else if 4 ≤ x.run + 1 then releaseKey k p else modKey k (fun y => { y with run := y.run + 1 }) p

/-- The condition of a sample by the polarity: yes for ACTIVE (R57). -/
def sampleActive (c : InputConfig) (closed : Bool) : Bool := closed != c.activeOpen

/-- The debounced condition of input `i` changes (R57). -/
def contactEdge (i : Fin 8) (p : Part) : Part :=
  match (inputConfig p i).use with
  | .unused => p
  | .alarm => changeInput i p
  | .trip => if (input p i).condition = .clear then activateTrip i p else clearTrip i p

/-- The sample of contact input `i`, yes while its contact is closed; an UNUSED input is not sampled (R56, R57). -/
def sampleInput (closed : Fin 8 → Bool) (p : Part) (i : Fin 8) : Part :=
  let c := inputConfig p i
  let x := input p i
  let active := sampleActive c (closed i)
  let limit := debounceSamples c.debounce
  if listening p = true ∧ c.use ≠ .unused then
    match x.condition with
    | .unknown =>
      let n := settleCount x.run x.sample active
      if limit ≤ n then settleContact i active p else modInput i (fun y => { y with run := n, sample := active }) p
    | .active =>
      if active then modInput i (fun y => { y with run := 0 }) p
      else if limit ≤ x.run + 1 then contactEdge i p else modInput i (fun y => { y with run := y.run + 1 }) p
    | .clear =>
      if active then if limit ≤ x.run + 1 then contactEdge i p else modInput i (fun y => { y with run := y.run + 1 }) p
      else modInput i (fun y => { y with run := 0 }) p
  else p

/-- The counters of the sample tick: horn cadence, lamp phase, badge hold-off (R49, R52, R82). -/
def advanceCounters (p : Part) : Part :=
  modSsu (fun u => { u with holdOff := u.holdOff - 1 })
    (modAnu (fun n =>
      { n with
        cadence := (n.cadence + 1) % Config.cadencePositions, phase := (n.phase + 1) % Config.phasePositions }) p)

/-- The 5 ms sample tick, with the levels of the keys and contacts; no tick while a reset is in progress (R170). -/
def sampleStep (keys : BitVec 4) (contacts : BitVec 8) (p : Part) : Part :=
  if sampling p then
    (List.finRange 8).foldl (sampleInput fun i => contacts.getLsbD i.val)
      ((List.finRange 4).foldl (sampleKey fun k => keys.getLsbD k.val) (advanceCounters p))
  else p

/-! ## The commands -/

/-- KEY_SILENCE_PRESS. -/
def execKeySilencePress (s : State) : Host.Outcome State Fault Refusal := .next (s.withPart (pressKey 0 s.part))

/-- KEY_ACCEPT_PRESS. -/
def execKeyAcceptPress (s : State) : Host.Outcome State Fault Refusal := .next (s.withPart (pressKey 1 s.part))

/-- KEY_DECLINE_PRESS. -/
def execKeyDeclinePress (s : State) : Host.Outcome State Fault Refusal := .next (s.withPart (pressKey 2 s.part))

/-- KEY_RELIEF_PRESS. -/
def execKeyReliefPress (s : State) : Host.Outcome State Fault Refusal := .next (s.withPart (pressKey 3 s.part))

/-- KEY_RELEASE_EDGE. -/
def execKeyReleaseEdge (k : Fin 4) (s : State) : Host.Outcome State Fault Refusal :=
  .next (s.withPart (releaseKey k s.part))

/-- KEY_FIRST_SETTLING. -/
def execKeyFirstSettling (k : Fin 4) (down : Bool) (s : State) : Host.Outcome State Fault Refusal :=
  .next (s.withPart (settleKey k down s.part))

/-- ALARM_INPUT_CHANGE. -/
def execAlarmInputChange (i : Fin 8) (s : State) : Host.Outcome State Fault Refusal :=
  .next (s.withPart (changeInput i s.part))

/-- TRIP_INPUT_ACTIVATION. -/
def execTripInputActivation (i : Fin 8) (s : State) : Host.Outcome State Fault Refusal :=
  .next (s.withPart (activateTrip i s.part))

/-- TRIP_INPUT_DEACTIVATION. -/
def execTripInputDeactivation (i : Fin 8) (s : State) : Host.Outcome State Fault Refusal :=
  .next (s.withPart (clearTrip i s.part))

/-- INPUT_FIRST_SETTLING. -/
def execInputFirstSettling (i : Fin 8) (active : Bool) (s : State) : Host.Outcome State Fault Refusal :=
  .next (s.withPart (settleContact i active s.part))

/-- SAMPLE_TICK. -/
def execSampleTick (keys : BitVec 4) (contacts : BitVec 8) (s : State) : Host.Outcome State Fault Refusal :=
  .next (s.withPart (sampleStep keys contacts s.part))

end Sys2Proof.Machine
end

