-- ==== Sys2Proof/Machine/Line.lean ====
section
/-! DEFINITION. LIF's events: the receive ring, the taking of telegrams and of completion marks, attempts, errors and the entry to ISOLATED (chapter 9). -/

namespace Sys2Proof.Machine

/-! ## The receive ring (R150, R152) -/

/-- The ring bytes of an item: header and payload of a telegram, 4 of a mark. -/
def itemSize : RingItem → Nat
  | .telegram t => (encodeTelegram t).length
  | .mark _ => Config.markBytes

/-- The ring bytes in use. -/
def ringUsed (p : Part) : Nat := (p.lif.ring.map itemSize).sum

/-- A slot that has not yet written its mark. -/
def unmarked (x : Option Slot) : Bool :=
  match x with
  | some y => decide (y.state ≠ .complete)
  | none => false

/-- The free ring room reserved for completion marks (R152). -/
def markReserve (p : Part) : Nat :=
  Config.markBytes * (List.finRange 12).countP fun k => unmarked (p.lif.slots.get k)

/-- The room left for a telegram. -/
def ringRoom (p : Part) : Nat := Config.ringBytes - ringUsed p - markReserve p

/-- Put an item at the write position. DESIGN CHOICE: a completion mark is appended without a check of room, as R152
promises it, also where the ring was filled before the mark's telegram entered the queue (log 48). -/
def appendRing (x : RingItem) : Part → Part := modLif fun l =>
  { l with
    ring := l.ring ++ [x], headerPos := (l.writePos + itemSize x) % Config.ringBytes,
    writePos := (l.writePos + itemSize x) % Config.ringBytes }

/-- The read position moves past the oldest item (R151). -/
def popRing : Part → Part := modLif fun l =>
  match l.ring with
  | [] => l
  | x :: rest => { l with ring := rest, readPos := (l.readPos + itemSize x) % Config.ringBytes }

/-! ## Receiving (R149, R150) -/

/-- The destination field, once it has arrived. -/
def destinationOf (bytes : List Byte) : Option StationNo := (bytes[1]?).map fun b => b.extractLsb' 0 6

/-- The bytes that LIF writes into the ring: header and payload, as far as they arrive; the check is not stored. -/
def storedBytes (bytes : List Byte) : Nat :=
  match bytes[3]? with
  | some n => min bytes.length (4 + n.toNat)
  | none => bytes.length

/-- The telegram of a line's bytes when it is good: check, length, kind, class, layout, source (R149, R177). -/
def goodTelegram (own : StationNo) (bytes : List Byte) : Option Telegram :=
  let body := bytes.take (bytes.length - 2)
  if 6 ≤ bytes.length ∧ bytes.drop (bytes.length - 2) = be16 (crc16 body) then
    match decodeTelegram body with
    | some t =>
      if 1 ≤ t.source.toNat ∧ t.source.toNat ≤ 62 ∧ t.source ≠ own then some t else none
    | none => none
  else none

/-- A telegram ends on the line (R149, R150). -/
def receive (bytes : List Byte) (p : Part) : Part :=
  if listening p then
    let dest := destinationOf bytes
    if dest ≠ none ∧ dest ≠ some 0 ∧ dest ≠ some p.stc.number then p
    else if ringRoom p < storedBytes bytes then
      if dest = none then p else modStats (fun s => { s with overflowDrops := s.overflowDrops + 1 }) p
    else
      match goodTelegram p.stc.number bytes with
      | some t => modStats (fun s => { s with receivedGood := s.receivedGood + 1 }) (appendRing (.telegram t) p)
      | none => modStats (fun s => { s with checkErrors := s.checkErrors + 1 }) p
  else p

/-! ## Taking (R151, R152) -/

/-- The telegram at the read position is taken whole when its owner's rule `f` applies to its kind; then the read position
moves on. -/
def takeTelegram (f : Telegram → Part → Option Part) (p : Part) : Part :=
  match p.lif.ring with
  | .telegram t :: _ =>
    if listening p then
      match f t p with
      | some q => popRing q
      | none => p
    else p
  | _ => p

/-- The completion mark at the read position is taken when the owner's rule `f` applies to its slot: the completion, then
the slot is freed, then the read position moves on. -/
def takeMark (f : Slot → Part → Option Part) (p : Part) : Part :=
  match p.lif.ring with
  | .mark k :: _ =>
    match p.lif.slots.get k with
    | some x =>
      if listening p = true ∧ x.state = .complete then
        match f x p with
        | some q => popRing (freeSlot k q)
        | none => p
      else p
    | none => p
  | _ => p

/-- The telegram is addressed to a station. -/
def addressed (t : Telegram) : Bool := decide (t.destination ≠ 0)

/-- CONDITION (R9). -/
def takenCondition (t : Telegram) (p : Part) : Option Part :=
  match t.payload with
  | .condition tag x active n => some (applyCondition tag x active n p)
  | _ => none

/-- ACKNOWLEDGE (R27). -/
def takenAcknowledge (t : Telegram) (p : Part) : Option Part :=
  match t.payload with
  | .acknowledge tag n c => some (applyAcknowledge tag n c p)
  | _ => none

/-- SHELVE with seconds above 0 (R33). -/
def takenShelve (t : Telegram) (p : Part) : Option Part :=
  match t.payload with
  | .shelve tag secs c => if secs = 0 then none else some (applyShelve tag secs c t.source p)
  | _ => none

/-- SHELVE with seconds 0 (R34). -/
def takenUnshelve (t : Telegram) (p : Part) : Option Part :=
  match t.payload with
  | .shelve tag secs _ => if secs = 0 then some (applyUnshelve tag p) else none
  | _ => none

/-- BEACON (R99). -/
def takenBeacon (t : Telegram) (p : Part) : Option Part :=
  match t.payload with
  | .beacon c => some (applyBeacon t.source c p)
  | _ => none

/-- ARU's rule for a SYNC-REQUEST of area `a`: HOU is told when the area is held and NORMAL (R106). -/
def applySyncRequest (a : Area) (p : Part) : Part := if holds p a && !emergency p a then startSync a p else p

/-- SYNC-REQUEST (R106). -/
def takenSyncRequest (t : Telegram) (p : Part) : Option Part :=
  match t.payload with
  | .syncRequest a => some (if addressed t then applySyncRequest a p else p)
  | _ => none

/-- TRIP with action TRIP (R107). -/
def takenTrip (t : Telegram) (p : Part) : Option Part :=
  match t.payload with
  | .trip false a _ => some (tripArea a t.source p)
  | _ => none

/-- TRIP with action RESTORE (R108). -/
def takenRestore (t : Telegram) (p : Part) : Option Part :=
  match t.payload with
  | .trip true a _ => some (leaveEmergency a t.source p)
  | _ => none

/-- LOGIN (R86). -/
def takenLogin (t : Telegram) (p : Part) : Option Part :=
  match t.payload with
  | .login c => some (applyLogin t.source c p)
  | _ => none

/-- OFFER (R121). -/
def takenOffer (t : Telegram) (p : Part) : Option Part :=
  match t.payload with
  | .offer c => some (if addressed t then applyOffer t.source c p else p)
  | _ => none

/-- DIGEST with a handover number 1..255 (R117, R122). -/
def takenHandoverDigest (t : Telegram) (p : Part) : Option Part :=
  match t.payload with
  | .digest d =>
    if d.number = 0 then none else some (if addressed t then applyHandoverDigest t.source d p else p)
  | _ => none

/-- DIGEST with handover number 0 (R135). -/
def takenSyncDigest (t : Telegram) (p : Part) : Option Part :=
  match t.payload with
  | .digest d => if d.number = 0 then some (if addressed t then p else applySyncDigest t.source d p) else none
  | _ => none

/-- REPLY (R128). -/
def takenReply (t : Telegram) (p : Part) : Option Part :=
  match t.payload with
  | .reply a h decline reason => some (if addressed t then applyReply t.source a h decline reason p else p)
  | _ => none

/-- RELEASE (R130). -/
def takenRelease (t : Telegram) (p : Part) : Option Part :=
  match t.payload with
  | .release a h => some (if addressed t then applyRelease t.source a h p else p)
  | _ => none

/-- WITHDRAW (R131). -/
def takenWithdraw (t : Telegram) (p : Part) : Option Part :=
  match t.payload with
  | .withdraw a h => some (if addressed t then applyWithdraw t.source a h p else p)
  | _ => none

/-! ## Completions (R152) -/

/-- An input's CONDITION (R58). -/
def completedCondition (x : Slot) (p : Part) : Option Part :=
  match x.owner, x.telegram.payload with
  | .input i, .condition t y active n => some (conditionCompleted i t y active n p)
  | _, _ => none

/-- The station's own ACKNOWLEDGE (R29). -/
def completedAcknowledge (x : Slot) (p : Part) : Option Part :=
  match x.telegram.payload with
  | .acknowledge t n c => some (applyAcknowledge t n c p)
  | _ => none

/-- The station's own SHELVE, of either sense (R29). -/
def completedShelve (x : Slot) (p : Part) : Option Part :=
  match x.telegram.payload with
  | .shelve t secs c => some (if secs = 0 then applyUnshelve t p else applyShelve t secs c p.stc.number p)
  | _ => none

/-- The station's own TRIP: an input's record returns to IDLE, and ARU applies the trip (R60, R107). -/
def completedTrip (x : Slot) (p : Part) : Option Part :=
  match x.telegram.payload with
  | .trip false a _ =>
    some (tripArea a p.stc.number
      (match x.owner with
      | .input i => modInput i (fun y => { y with trip := .idle }) p
      | _ => p))
  | _ => none

/-- The station's own RESTORE (R108). -/
def completedRestore (x : Slot) (p : Part) : Option Part :=
  match x.telegram.payload with
  | .trip true a _ => some (leaveEmergency a p.stc.number p)
  | _ => none

/-- The session's LOGIN: its mark becomes NONE when the number is the session's (R86). -/
def completedLogin (x : Slot) (p : Part) : Option Part :=
  match x.owner with
  | .session n => some (modSession (fun y => if y.number = n then { y with mark := .none } else y) p)
  | _ => none

/-- The beacon: schedule at P, the next first area, the mark IDLE, an owed call made (R97, R98). The mark of a later beacon
already in the queue stands (log 28). -/
def beaconCompleted (c : BeaconContent) (p : Part) : Part :=
  let p := modAru (fun r => { r with schedule := ownPeriod p, first := nextFirst c }) p
  if (slotOfOwner .beacon p).isSome then p
  else if p.aru.beaconOwed then callBeacon (modAru (fun r => { r with beaconMark := .idle, beaconOwed := false }) p)
  else modAru (fun r => { r with beaconMark := .idle }) p

/-- BEACON (R97). -/
def completedBeacon (x : Slot) (p : Part) : Option Part :=
  match x.telegram.payload with
  | .beacon c => some (beaconCompleted c p)
  | _ => none

/-- SYNC-REQUEST: the area's mark becomes NONE, unless a later request of the area stands in the queue (R105, log 28). -/
def completedSyncRequest (x : Slot) (p : Part) : Option Part :=
  match x.owner with
  | .syncRequest a =>
    some (if (slotOfOwner (.syncRequest a) p).isSome then p else modView a (fun v => { v with syncMark := .none }) p)
  | _ => none

/-- OFFER (R120). -/
def completedOffer (x : Slot) (p : Part) : Option Part :=
  match x.owner, x.telegram.payload with
  | .offer r n, .offer _ => some (offerCompleted r n p)
  | _, _ => none

/-- A handover segment (R120). -/
def completedHandoverSegment (x : Slot) (p : Part) : Option Part :=
  match x.owner, x.telegram.payload with
  | .offer r n, .digest d => if d.number = 0 then none else some (segmentCompleted r n p)
  | _, _ => none

/-- A sync segment (R134). -/
def completedSyncSegment (x : Slot) (p : Part) : Option Part :=
  match x.owner, x.telegram.payload with
  | .offer r n, .digest d => if d.number = 0 then some (segmentCompleted r n p) else none
  | _, _ => none

/-- The REPLY of a reception record (R127). -/
def completedReply (x : Slot) (p : Part) : Option Part :=
  match x.owner with
  | .reply r n => some (replyCompleted r n p)
  | _ => none

/-- RELEASE (R129). -/
def completedRelease (x : Slot) (p : Part) : Option Part :=
  match x.owner, x.telegram.payload with
  | .offer r n, .release _ _ => some (releaseCompleted r n p)
  | _, _ => none

/-- The telegram of an answer list item (R117). -/
def completedAnswer (x : Slot) (p : Part) : Option Part :=
  match x.owner with
  | .answer n => some (answerCompleted n p)
  | _ => none

/-! ## Isolation (R158) -/

/-- The number of occupied slots whose telegram is WAITING or SENDING and stands before `x` in the queue, or is `x`. -/
def queueRank (p : Part) (x : Slot) : Nat :=
  (List.finRange 12).countP fun k =>
    match p.lif.slots.get k with
    | some y => decide (y.state ≠ .complete) && queueBefore y x
    | none => false

/-- Put an owner at its place by rank. -/
def insertRank (n : Nat) (o : Owner) : List (Nat × Owner) → List (Nat × Owner)
  | [] => [(n, o)]
  | (m, q) :: rest => if n < m then (n, o) :: (m, q) :: rest else (m, q) :: insertRank n o rest

/-- The owners of the telegrams to discard, in the order of the queue (R158 step 2). -/
def discardedOwners (p : Part) : List Owner :=
  ((List.finRange 12).foldl (fun acc k =>
    match p.lif.slots.get k with
    | some x => if x.state = .complete then acc else insertRank (queueRank p x) x.owner acc
    | none => acc) []).map Prod.snd

/-- Every slot whose telegram is WAITING or SENDING is freed; the waiting list is not served (R158 step 1). -/
def discardQueue : Part → Part := modLif fun l =>
  { l with slots := tabulate fun k => if unmarked (l.slots.get k) then none else l.slots.get k }

/-- An ALARM input whose telegram was discarded: the published pair stays, the unpublished changes rise by one, and the
record is judged as at a completion, without queueing (R59, R158). -/
def discardInput (i : Fin 8) (p : Part) : Part :=
  match (inputConfig p i).use with
  | .trip => modInput i (fun x => { x with trip := .idle }) p
  | _ =>
    let p := bumpUnpublished i p
    if inputMatches (input p i) then settleInput i p else modInput i (fun x => { x with publication := .waiting }) p

/-- The discard notice of one owner (R158 step 2). A session's is within `oweLogin`. -/
def discardNotice (p : Part) (o : Owner) : Part :=
  match o with
  | .input i => discardInput i p
  | _ => p

/-- SSU on entry to ISOLATED: a session whose LOGIN mark is QUEUED takes the mark OWED (R87). DEDUCED: also one whose LOGIN
is COMPLETE and so is not discarded; its completion then sets the mark to NONE (log 46). -/
def oweLogin : Part → Part := modSession fun x => if x.mark = .queued then { x with mark := .owed } else x

/-- HOU on entry to ISOLATED: every record freed, the answer list emptied (R133, R158). DESIGN CHOICE: offer records first,
each kind by rising record number (log 45). -/
def houIsolated (p : Part) : Part :=
  let p := (List.finRange 4).foldl (fun q r => closeOffer r .isolated false q) p
  let p := (List.finRange 4).foldl (fun q r => closeReception r .isolated q) p
  modHou (fun h => { h with answers := [] }) p

/-- The station enters ISOLATED (R158). DEDUCED: the relief of a station that held an area is cancelled at the loss of the
last one (R145), before HOU frees its records (log 37). -/
def enterIsolated (p : Part) : Part :=
  let owners := discardedOwners p
  let p := oweLogin (owners.foldl discardNotice (discardQueue p))
  let p := modLif (fun l => { l with waiting := [], errors := 0 }) p
  let p := modStc (fun c =>
    { c with station := some .isolated, isolation := Config.isolationSeconds, settle := 0 }) p
  let p := houIsolated (aruIsolated p)
  let p := settleAreas (cancelRelief .holdings none p)
  deriveHorn (produce { kind := .stationState, state := some .isolated } p)

/-! ## Attempts (R148, R155, R157) -/

/-- A telegram as it goes out: a BEACON is composed now, any other is as it entered (R155). -/
def composed (p : Part) (t : Telegram) : Telegram :=
  match t.payload with
  | .beacon _ => { t with payload := .beacon (composeBeacon p) }
  | _ => t

/-- LIF begins an attempt with the head, on an idle line (R155). -/
def beginAttempt (p : Part) : Part :=
  if sendingOpen p = true ∧ (sendingSlot p).isNone = true then
    match queueHead p with
    | some k =>
      match p.lif.slots.get k with
      | some x =>
        markAttempt x.owner
          (setSlot k (some { x with telegram := composed p x.telegram, state := .sending }) p)
      | none => p
    | none => p
  else p

/-- The attempt of slot `k` ends without completion: retried, or ended when it was marked final (R155, R156). -/
def endAttempt (k : Fin 12) (x : Slot) (p : Part) : Part :=
  if x.final then freeSlot k p else markReturned x.owner (setSlot k (some { x with state := .waiting }) p)

/-- Act on the slot that is SENDING, if any. -/
def onSending (f : Fin 12 → Slot → Part → Part) (p : Part) : Part :=
  match sendingSlot p with
  | some k =>
    match p.lif.slots.get k with
    | some x => f k x p
    | none => p
  | none => p

/-- The attempt loses the arbitration (R148). -/
def loseArbitration : Part → Part := onSending endAttempt

/-- The telegram of slot `k` is sent to its end (R155, R152). -/
def completeSlot (k : Fin 12) (x : Slot) (p : Part) : Part :=
  appendRing (.mark k)
    (modLif (fun l => { l with errors := 0 })
      (modStats (fun s => { s with transmitted := s.transmitted + 1 }) (setSlot k (some { x with state := .complete }) p)))

/-- The telegram in transmission is sent without error (R155). -/
def completeLine : Part → Part := onSending completeSlot

/-- The consecutive transmit error count and the statistic rise by one; at 16 the station enters ISOLATED, before anything
further; otherwise `after` follows (R157, R158). -/
def countError (after : Part → Part) (p : Part) : Part :=
  let p := modStats (fun s => { s with transmitErrors := s.transmitErrors + 1 })
    (modLif (fun l => { l with errors := l.errors + 1 }) p)
  if Config.errorLimit ≤ p.lif.errors then enterIsolated p else after p

/-- A bit after the arbitration field reads back wrong (R155). -/
def failAttempt : Part → Part := onSending fun k x => countError (endAttempt k x)

/-- A busy fault: a head, no telegram in transmission, no idle line for 20 ms (R157). -/
def faultBusy (p : Part) : Part :=
  if sendingOpen p = true ∧ (sendingSlot p).isNone = true ∧ (queueHead p).isSome = true then countError id p else p

/-! ## The commands -/

/-- TELEGRAM_RECEIVED. -/
def execTelegramReceived (bytes : List Byte) (s : State) : Host.Outcome State Fault Refusal :=
  .next (s.withPart (receive bytes s.part))

/-- TAKE_CONDITION. -/
def execTakeCondition (s : State) : Host.Outcome State Fault Refusal :=
  .next (s.withPart (takeTelegram takenCondition s.part))

/-- TAKE_ACKNOWLEDGE. -/
def execTakeAcknowledge (s : State) : Host.Outcome State Fault Refusal :=
  .next (s.withPart (takeTelegram takenAcknowledge s.part))

/-- TAKE_SHELVE. -/
def execTakeShelve (s : State) : Host.Outcome State Fault Refusal :=
  .next (s.withPart (takeTelegram takenShelve s.part))

/-- TAKE_UNSHELVE. -/
def execTakeUnshelve (s : State) : Host.Outcome State Fault Refusal :=
  .next (s.withPart (takeTelegram takenUnshelve s.part))

/-- TAKE_BEACON. -/
def execTakeBeacon (s : State) : Host.Outcome State Fault Refusal :=
  .next (s.withPart (takeTelegram takenBeacon s.part))

/-- TAKE_SYNC_REQUEST. -/
def execTakeSyncRequest (s : State) : Host.Outcome State Fault Refusal :=
  .next (s.withPart (takeTelegram takenSyncRequest s.part))

/-- TAKE_TRIP. -/
def execTakeTrip (s : State) : Host.Outcome State Fault Refusal :=
  .next (s.withPart (takeTelegram takenTrip s.part))

/-- TAKE_RESTORE. -/
def execTakeRestore (s : State) : Host.Outcome State Fault Refusal :=
  .next (s.withPart (takeTelegram takenRestore s.part))

/-- TAKE_LOGIN. -/
def execTakeLogin (s : State) : Host.Outcome State Fault Refusal :=
  .next (s.withPart (takeTelegram takenLogin s.part))

/-- TAKE_OFFER. -/
def execTakeOffer (s : State) : Host.Outcome State Fault Refusal :=
  .next (s.withPart (takeTelegram takenOffer s.part))

/-- TAKE_HANDOVER_DIGEST. -/
def execTakeHandoverDigest (s : State) : Host.Outcome State Fault Refusal :=
  .next (s.withPart (takeTelegram takenHandoverDigest s.part))

/-- TAKE_SYNC_DIGEST. -/
def execTakeSyncDigest (s : State) : Host.Outcome State Fault Refusal :=
  .next (s.withPart (takeTelegram takenSyncDigest s.part))

/-- TAKE_REPLY. -/
def execTakeReply (s : State) : Host.Outcome State Fault Refusal :=
  .next (s.withPart (takeTelegram takenReply s.part))

/-- TAKE_RELEASE. -/
def execTakeRelease (s : State) : Host.Outcome State Fault Refusal :=
  .next (s.withPart (takeTelegram takenRelease s.part))

/-- TAKE_WITHDRAW. -/
def execTakeWithdraw (s : State) : Host.Outcome State Fault Refusal :=
  .next (s.withPart (takeTelegram takenWithdraw s.part))

/-- SEND_ATTEMPT. -/
def execSendAttempt (s : State) : Host.Outcome State Fault Refusal := .next (s.withPart (beginAttempt s.part))

/-- ARBITRATION_LOST. -/
def execArbitrationLost (s : State) : Host.Outcome State Fault Refusal := .next (s.withPart (loseArbitration s.part))

/-- LINE_COMPLETION. -/
def execLineCompletion (s : State) : Host.Outcome State Fault Refusal := .next (s.withPart (completeLine s.part))

/-- TRANSMIT_ERROR. -/
def execTransmitError (s : State) : Host.Outcome State Fault Refusal := .next (s.withPart (failAttempt s.part))

/-- BUSY_FAULT. -/
def execBusyFault (s : State) : Host.Outcome State Fault Refusal := .next (s.withPart (faultBusy s.part))

/-- CONDITION_COMPLETION. -/
def execConditionCompletion (s : State) : Host.Outcome State Fault Refusal :=
  .next (s.withPart (takeMark completedCondition s.part))

/-- ACKNOWLEDGE_COMPLETION. -/
def execAcknowledgeCompletion (s : State) : Host.Outcome State Fault Refusal :=
  .next (s.withPart (takeMark completedAcknowledge s.part))

/-- SHELVE_COMPLETION. -/
def execShelveCompletion (s : State) : Host.Outcome State Fault Refusal :=
  .next (s.withPart (takeMark completedShelve s.part))

/-- TRIP_COMPLETION. -/
def execTripCompletion (s : State) : Host.Outcome State Fault Refusal :=
  .next (s.withPart (takeMark completedTrip s.part))

/-- RESTORE_COMPLETION. -/
def execRestoreCompletion (s : State) : Host.Outcome State Fault Refusal :=
  .next (s.withPart (takeMark completedRestore s.part))

/-- LOGIN_COMPLETION. -/
def execLoginCompletion (s : State) : Host.Outcome State Fault Refusal :=
  .next (s.withPart (takeMark completedLogin s.part))

/-- BEACON_COMPLETION. -/
def execBeaconCompletion (s : State) : Host.Outcome State Fault Refusal :=
  .next (s.withPart (takeMark completedBeacon s.part))

/-- SYNC_REQUEST_COMPLETION. -/
def execSyncRequestCompletion (s : State) : Host.Outcome State Fault Refusal :=
  .next (s.withPart (takeMark completedSyncRequest s.part))

/-- OFFER_COMPLETION. -/
def execOfferCompletion (s : State) : Host.Outcome State Fault Refusal :=
  .next (s.withPart (takeMark completedOffer s.part))

/-- DIGEST_SEGMENT_COMPLETION. -/
def execDigestSegmentCompletion (s : State) : Host.Outcome State Fault Refusal :=
  .next (s.withPart (takeMark completedHandoverSegment s.part))

/-- SYNC_SEGMENT_COMPLETION. -/
def execSyncSegmentCompletion (s : State) : Host.Outcome State Fault Refusal :=
  .next (s.withPart (takeMark completedSyncSegment s.part))

/-- REPLY_COMPLETION. -/
def execReplyCompletion (s : State) : Host.Outcome State Fault Refusal :=
  .next (s.withPart (takeMark completedReply s.part))

/-- RELEASE_COMPLETION. -/
def execReleaseCompletion (s : State) : Host.Outcome State Fault Refusal :=
  .next (s.withPart (takeMark completedRelease s.part))

/-- ANSWER_ITEM_COMPLETION. -/
def execAnswerItemCompletion (s : State) : Host.Outcome State Fault Refusal :=
  .next (s.withPart (takeMark completedAnswer s.part))

end Sys2Proof.Machine
end

