-- ==== Sys2Proof/Machine/StartUp.lean ====
section
/-! DEFINITION. STC: the two resets, the configuration image, the settle and the end of ISOLATED (chapter 11, section 12.3). -/

namespace Sys2Proof.Machine

/-! ## Resets (R170) -/

/-- The reason of STATION-STATE for a fault (section 11.4). -/
def faultReason : ConfigFault → Reason
  | .straps => .straps | .absent => .absent | .marker => .marker | .version => .version | .crc => .crc

/-- The station enters UNCONFIGURED with a fault (R170, R171, R173). -/
def enterUnconfigured (fault : ConfigFault) (p : Part) : Part :=
  deriveHorn (produce { kind := .stationState, state := some .unconfigured, reason := some (faultReason fault) }
    (modStc (fun c => { c with station := some .unconfigured, fault := some fault }) p))

/-- The part after a reset, the image read begun, with these straps, this cause and these statistics: every block at its
after-reset values; a strap value of 0 or 63 is a fault, and the image is not read (R170). -/
def resetPart (straps : StationNo) (cause : ResetCause) (stats : Stats) : Part :=
  let p : Part :=
    { stc := { strapPins := straps, number := straps, cause := cause }, cnp := { stats := stats } }
  if straps = 0 ∨ straps = 63 then enterUnconfigured .straps p else p

/-- A power-on reset (R170). -/
def powerOn (straps : StationNo) : Part := resetPart straps .powerOn {}

/-- A power-on reset is still in progress. -/
def powerOnInProgress (p : Part) : Bool := p.stc.station.isNone && decide (p.stc.cause = .powerOn)

/-- A console reset: the statistics are kept; while a power-on reset is still in progress the cause stays POWER-ON and the
statistics are cleared all the same (R170). -/
def consoleReset (straps : StationNo) (p : Part) : Part :=
  if powerOnInProgress p then resetPart straps .powerOn {} else resetPart straps .console p.cnp.stats

/-! ## The image (R171, section 12.3) -/

/-- Byte `i` of the image. -/
def imageByte (b : List Byte) (i : Nat) : Byte := b.getD i 0

/-- The two-byte number at bytes `i` and `i` + 1. -/
def imageWord (b : List Byte) (i : Nat) : Word16 := word16 (imageByte b i) (imageByte b (i + 1))

/-- The first failing condition of R171. A read that brought fewer than 738 bytes is not acknowledged (log 5). -/
def imageFault (acknowledged : Bool) (b : List Byte) : Option ConfigFault :=
  if acknowledged = false ∨ b.length < Config.imageBytes then some .absent
  else if imageByte b 0 ≠ 0x43 ∨ imageByte b 1 ≠ 0x37 then some .marker
  else if imageByte b 2 ≠ 1 then some .version
  else if crc16 (b.take 736) ≠ imageWord b 736 then some .crc
  else none

/-! ## Validation (R172) -/

/-- 0 selects the default; any other value is brought into the range (R172). -/
def clampRange (default low high x : Nat) : Nat := if x = 0 then default else min high (max low x)

/-- T_on: 0 is taken as 1 (R62). -/
def clampOn (x : Nat) : Nat := if x = 0 then 1 else x

/-- T_off, after T_on is settled (R62). -/
def clampOff (on x : Nat) : Nat := if on ≤ x then on / 2 else x

/-- Two windows cover a common tag. -/
def windowsOverlap (x y : Window) : Bool :=
  decide (x.start.toNat < y.start.toNat + windowSize y.size) && decide (y.start.toNat < x.start.toNat + windowSize x.size)

/-- The first three cases of R2 do not disable the window. -/
def windowFits (w : Window) : Bool :=
  decide (1 ≤ w.size.toNat) && decide (w.size.toNat ≤ 6) && decide (w.start.toNat ≤ 4095) && decide (w.area.toNat ≤ 15)
    && decide (w.start.toNat % windowSize w.size = 0)

/-- The windows judged in window order against those already enabled (R2). -/
def validateWindows (kept : List Window) : List Window → List Window
  | [] => []
  | w :: ws =>
    let ok := windowFits w && !kept.any (windowsOverlap w)
    { w with enabled := ok } :: validateWindows (if ok then w :: kept else kept) ws

/-- Window record `n` of the image. -/
def imageWindow (b : List Byte) (n : Nat) : Window :=
  { area := imageByte b (48 + 4 * n), start := imageWord b (49 + 4 * n), size := imageByte b (51 + 4 * n) }

/-- The validated window map (R1, R2). -/
def imageWindows (b : List Byte) : Vector Window 32 :=
  let ws := validateWindows [] ((List.range 32).map (imageWindow b))
  tabulate fun n => ws.getD n.val {}

/-- A role code; 3 or above is OPERATOR (R77). -/
def roleOfCode (c : Byte) : OperatorRole := if c = 1 then .lead else if c = 2 then .supervisor else .operator

/-- A class byte; above 3 is taken as 3 (R172, R176). -/
def clampClass (c : Byte) : Byte := if 3 < c.toNat then 3 else c

/-- Operator record `n` of the image, its sets reduced to ack-areas (R77). -/
def imageOperator (b : List Byte) (n : Nat) : Operator :=
  let i := 176 + 11 * n
  let acks := imageWord b (i + 5)
  { credential := word24 (imageByte b i) (imageByte b (i + 1)) (imageByte b (i + 2)),
    role := roleOfCode (imageByte b (i + 3)), cls := clampClass (imageByte b (i + 4)), ackAreas := acks,
    shelveAreas := imageWord b (i + 7) &&& acks, holdAreas := imageWord b (i + 9) &&& acks }

/-- The operator records in record order: an empty record, and one that repeats an enabled credential, are not enabled
(R77). -/
def validateOperators (seen : List Credential) : List Operator → List Operator
  | [] => []
  | o :: os =>
    let ok := decide (o.credential ≠ 0) && !seen.contains o.credential
    { o with enabled := ok } :: validateOperators (if ok then o.credential :: seen else seen) os

/-- The validated operator table (R76, R77). -/
def imageOperators (b : List Byte) : Vector Operator 48 :=
  let os := validateOperators [] ((List.range 48).map (imageOperator b))
  tabulate fun n => os.getD n.val {}

/-- The use that an input's validation leaves (R56). -/
def validUse (ws : Vector Window 32) (code : BitVec 2) (t : Tag) (trip : Byte) : InputUse :=
  if code = 1 then (if (mapTag ws t).isSome then .alarm else .unused)
  else if code = 2 then (if trip.toNat ≤ 15 then .trip else .unused)
  else .unused

/-- Input record `n` of the image, validated against the window map (R56). -/
def imageInput (b : List Byte) (ws : Vector Window 32) (n : Nat) : InputConfig :=
  let x := imageByte b (704 + 4 * n)
  let w := imageWord b (705 + 4 * n)
  let trip := imageByte b (707 + 4 * n)
  { use := validUse ws (x.extractLsb' 0 2) (tagOfWord w) trip, activeOpen := x.getLsbD 2,
    debounce := x.extractLsb' 4 2, tag := tagOfWord w, priority := priorityOfWord w, tripArea := trip }

/-- The period code; above 3 is taken as 0 (R172). -/
def clampPeriod (c : Byte) : PeriodCode := if 3 < c.toNat then 0 else c.extractLsb' 0 2

/-- An accepted image, validated field by field in the order of R172. -/
def validatedImage (b : List Byte) : Settings :=
  let home := imageWord b 26
  let standby := imageWord b 28 &&& ~~~home
  let on := clampOn (imageWord b 17).toNat
  let ws := imageWindows b
  { periodCode := clampPeriod (imageByte b 3), window := clampRange 180 30 600 (imageWord b 4).toNat,
    reliefWindow := clampRange 120 30 300 (imageWord b 6).toNat,
    grace := clampRange 300 60 900 (imageWord b 8).toNat, maxShelve := clampRange 60 1 480 (imageWord b 10).toNat,
    w1 := imageByte b 12, w2 := imageByte b 13, w3 := imageByte b 14, w4 := imageByte b 15,
    decayShift := min 12 (max 3 (imageByte b 16).toNat), floodOn := on,
    floodOff := clampOff on (imageWord b 19).toNat, handoverCeiling := (imageWord b 21).toNat,
    stationCeiling := (imageWord b 23).toNat, keepShelves := decide (imageByte b 25 ≠ 0),
    home := home, standby := standby, watch := imageWord b 30 &&& ~~~(home ||| standby),
    required := tabulate fun a => clampClass (imageByte b (32 + a.val)),
    windows := ws, operators := imageOperators b, inputs := tabulate fun n => imageInput b ws n.val }

/-! ## Station states (R173, R174, R175) -/

/-- The reason of STATION-STATE at the entry to STARTING from a reset. -/
def causeReason : ResetCause → Reason
  | .powerOn => .powerOn
  | .console => .console

/-- STC sets the state STARTING with the settle count at 3P (R174). -/
def setStarting (c : Stc) : Stc :=
  { c with
    station := some .starting, fault := none, isolation := 0, settle := 3 * periodSeconds c.settings.periodCode }

/-- The blocks and the event of an entry to STARTING (R111, R174). -/
def startingFollows (reason : Reason) (p : Part) : Part :=
  deriveHorn (produce { kind := .stationState, state := some .starting, reason := some reason } (aruStarting p))

/-- The image is accepted: the configuration, the claim delays of every area, STARTING (R92, R102, R172, R174). -/
def acceptImage (b : List Byte) (p : Part) : Part :=
  let p := modStc (fun c => setStarting { c with settings := validatedImage b }) p
  let p := modAru (fun x =>
    { x with views := tabulate fun a => { x.views.get a with claimDelay := 3 * ownPeriod p } }) p
  startingFollows (causeReason p.stc.cause) p

/-- The EEPROM read ends, a reset being in progress (R171). -/
def imageRead (acknowledged : Bool) (b : List Byte) (p : Part) : Part :=
  if p.stc.station.isNone then
    match imageFault acknowledged b with
    | some fault => enterUnconfigured fault p
    | none => acceptImage b p
  else p

/-- Contact input `i` acts on the entry to RUNNING: it is seeded, and a WAITING or PENDING record queues (R58, R60). -/
def inputRunning (p : Part) (i : Fin 8) : Part := pushTelegram (.input i) (seedInput p i)

/-- The answer items that are READY start sending (R117). -/
def sendReadyAnswers (p : Part) : Part :=
  p.hou.answers.foldl (fun q x => if x.state = .ready then pushTelegram (.answer x.serial) q else q) p

/-- The station enters RUNNING (R174). DESIGN CHOICE: the eight contact inputs seed and queue by rising number, ALARM and
TRIP inputs as they come (log 50). -/
def enterRunning (p : Part) : Part :=
  let p := aruRunning (modStc (fun c => { c with station := some .running, settle := 0 }) p)
  let p := sendReadyAnswers ((List.finRange 8).foldl inputRunning p)
  deriveHorn (produce { kind := .stationState, state := some .running } p)

/-- The settle count reaches 0 in STARTING (R174). -/
def settleRun (p : Part) : Part := if starting p = true ∧ p.stc.settle ≤ 1 then enterRunning p else p

/-- The isolation timer reaches 0 in ISOLATED (R175). DESIGN CHOICE: the owed LOGIN is placed before the start-up requests
are judged (log 55). -/
def isolationRun (p : Part) : Part :=
  if isolated p = true ∧ p.stc.isolation ≤ 1 then
    startingFollows .isolationEnd (placeOwedLogin (modStc setStarting p))
  else p

/-! ## The commands -/

/-- POWER_ON_RESET. -/
def execPowerOnReset (straps : StationNo) (s : State) : Host.Outcome State Fault Refusal :=
  .next (s.withPart (powerOn straps))

/-- CONSOLE_RESET. -/
def execConsoleReset (straps : StationNo) (s : State) : Host.Outcome State Fault Refusal :=
  .next (s.withPart (consoleReset straps s.part))

/-- IMAGE_READ_COMPLETE. -/
def execImageReadComplete (acknowledged : Bool) (bytes : List Byte) (s : State) : Host.Outcome State Fault Refusal :=
  .next (s.withPart (imageRead acknowledged bytes s.part))

/-- SETTLE_END. -/
def execSettleEnd (s : State) : Host.Outcome State Fault Refusal := .next (s.withPart (settleRun s.part))

/-- ISOLATION_END. -/
def execIsolationEnd (s : State) : Host.Outcome State Fault Refusal := .next (s.withPart (isolationRun s.part))

end Sys2Proof.Machine
end

