-- ==== Sys2Proof/Machine/ConsolePort.lean ====
section
/-! DEFINITION. CNP: transactions, the form of requests, the answers as bytes, the nineteen requests, events and statistics (chapter 10, section 12.2). -/

namespace Sys2Proof.Machine

/-! ## Transactions (R160, R161, R162) -/

/-- An answer is placed in the response buffer, and no request is outstanding. -/
def answerWith (code : ResultCode) (body : List Byte) : Part → Part := modCnp fun c =>
  { c with outstanding := none, response := some { result := code, body := body } }

/-- Some byte is missing: the parameter length, or parameter bytes it names. -/
def frameShort (f : Frame) : Bool :=
  match f.declared with
  | none => true
  | some n => decide (f.params.length < n.toNat)

/-- Bytes arrived beyond the declared length. -/
def frameLong (f : Frame) : Bool :=
  match f.declared with
  | none => false
  | some n => decide (n.toNat < f.params.length)

/-- The parameters of a taken request, read by the form its layout requires; none is BAD-REQUEST (R163). -/
def requestForm {α : Type} (form : List Byte → Option α) (f : Frame) : Option α :=
  if frameLong f then none else form f.params

/-- CNP judges a write transaction with request code `code` (R161) and hands a request whose form passes to `serve`; in
UNCONFIGURED only a request that is `always` served is (R163). While a reset is in progress it is ignored (R170). DESIGN
CHOICE: a request cut short that finds an answer or a request standing sets the collision flag alone (log 58). -/
def request {α : Type} (code : Byte) (always : Bool) (form : List Byte → Option α) (serve : α → Part → Part) (f : Frame)
    (p : Part) : Part :=
  if p.stc.station.isNone then p
  else if p.cnp.response.isSome ∨ p.cnp.outstanding.isSome then modCnp (fun c => { c with collision := true }) p
  else if frameShort f then modCnp (fun c => { c with incomplete := true }) p
  else
    let p := modCnp (fun c => { c with outstanding := some code }) p
    match requestForm form f with
    | none => answerWith .badRequest [] p
    | some x => if unconfigured p && !always then answerWith .notRunning [] p else serve x p

/-- What a read transaction drives after its first byte: the status, and for READY the answer (R160, section 12.2). -/
def readOut (p : Part) : List Byte :=
  if p.stc.station.isNone then [0x00]
  else
    match p.cnp.response with
    | some a => [0x02, nat8 (resultCode a.result)] ++ nat16 a.body.length ++ a.body
    | none => if p.cnp.outstanding.isSome then [0x01] else [0x00]

/-- A read transaction that clocks `n` bytes out; filler is 00h; the answer is read when its last byte has been clocked
out (R160). -/
def readPort (n : Nat) (p : Part) : Part :=
  let out := readOut p
  modCnp (fun c =>
    { c with
      clockedOut := (out ++ List.replicate (n - out.length) 0).take n,
      response := if p.stc.station.isSome ∧ out.length ≤ n then none else c.response }) p

/-- ATTNn is asserted (R162). -/
def attention (p : Part) : Bool :=
  p.cnp.response.isSome || (!p.cnp.events.isEmpty && !unconfigured p)

/-! ## Forms (R163, section 12.2) -/

/-- No parameter. -/
def formNone : List Byte → Option Unit
  | [] => some ()
  | _ => none

/-- A tag of two bytes, 0..4095. -/
def tagOfBytes (hi lo : Byte) : Option Tag :=
  if (word16 hi lo).toNat ≤ 4095 then some (tagOfWord (word16 hi lo)) else none

/-- One tag. -/
def formTag : List Byte → Option Tag
  | [hi, lo] => tagOfBytes hi lo
  | _ => none

/-- A tag and minutes. -/
def formShelve : List Byte → Option (Tag × Nat)
  | [hi, lo, m1, m0] => (tagOfBytes hi lo).map fun t => (t, (word16 m1 m0).toNat)
  | _ => none

/-- One area. -/
def formArea : List Byte → Option Area
  | [a] => areaOfByte a
  | _ => none

/-- An area and a target byte. -/
def formOffer : List Byte → Option (Area × Byte)
  | [a, s] => (areaOfByte a).map fun x => (x, s)
  | _ => none

/-- A count 1..8. -/
def countOfByte (n : Byte) : Option Nat := if 1 ≤ n.toNat ∧ n.toNat ≤ 8 then some n.toNat else none

/-- One count. -/
def formCount : List Byte → Option Nat
  | [n] => countOfByte n
  | _ => none

/-- A start position 0..511 and a count. -/
def formList : List Byte → Option (Nat × Nat)
  | [s1, s0, n] =>
    if (word16 s1 s0).toNat ≤ 511 then (countOfByte n).map fun k => ((word16 s1 s0).toNat, k) else none
  | _ => none

/-- A record 0..3, a start 0..511 and a count. -/
def formReception : List Byte → Option (Fin 4 × Nat × Nat)
  | [r, s1, s0, n] =>
    if h : r.toNat < 4 then (formList [s1, s0, n]).map fun x => (⟨r.toNat, h⟩, x) else none
  | _ => none

/-! ## Answers as bytes (section 12.2) -/

/-- A number made of flags, bit 0 first. -/
def bitsNumber : List Bool → Nat
  | [] => 0
  | b :: bs => flag b + 2 * bitsNumber bs

/-- An optional number, 0 when absent. -/
def orZero {n : Nat} (x : Option (BitVec n)) : BitVec n := x.getD 0

/-- The code of an entry's derived state. -/
def stateCodeOf (e : Entry) : Nat :=
  match entryState e with
  | some x => entryStateCode x
  | none => 0

/-- An entry record of 22 bytes. -/
def entryBytes (e : Entry) : List Byte :=
  be16 (tagWord e.tag (priorityCode e.priority) e.active e.acknowledged)
    ++ [areaByte e.area,
        nat8 (stateCodeOf e + 16 * bitsNumber [e.quiet, e.shelf.isSome, e.ackCredential.isSome]),
        e.occurrence]
    ++ be24 (orZero e.ackCredential)
    ++ (match e.shelf with
        | some x => nat16 x.seconds ++ be24 x.credential ++ [x.station.setWidth 8]
        | none => nat16 0 ++ be24 0 ++ [0])
    ++ be32 e.firstRaised ++ be32 e.lastChange

/-- The session's part of STATUS, bytes 9..19. -/
def sessionBytes (p : Part) : List Byte :=
  match p.ssu.session with
  | some x =>
    [1] ++ be24 x.credential
      ++ [nat8 x.record.val, nat8 (operatorRoleCode (p.stc.settings.operators.get x.record).role)]
      ++ be32 x.start ++ [nat8 (loginMarkCode x.mark)]
  | none => List.replicate 11 0

/-- The number of occupied places of a table of records. -/
def inUse {α : Type} (v : Vector (Option α) 4) : Nat := (List.finRange 4).countP fun r => (v.get r).isSome

/-- The STATUS body of 52 bytes (R164). -/
def statusBytes (p : Part) : List Byte :=
  [(stationStateCode (p.stc.station.getD .unconfigured)).setWidth 8, p.stc.number.setWidth 8,
   nat8 (causeCode p.stc.cause), nat8 (match p.stc.fault with | some x => faultCode x | none => 0)]
    ++ be32 (now p) ++ [nat8 (if isolated p then p.stc.isolation else 0)]
    ++ sessionBytes p
    ++ [nat8 (flag p.ssu.armed)] ++ nat16 p.ssu.window ++ be32 p.ssu.armedTime
    ++ be16 (areaSetOf (holds p)) ++ nat16 p.aru.grace
    ++ [nat8 (hornCode p.anu.horn), nat8 (bitsNumber [p.anu.urgent, p.anu.routine, p.anu.trip])]
    ++ [nat8 (keyCode (key p 0).state + 4 * keyCode (key p 1).state + 16 * keyCode (key p 2).state
          + 64 * keyCode (key p 3).state)]
    ++ (List.finRange 8).map (fun i => nat8 (useCode (inputConfig p i).use + 16 * contactCode (input p i).condition))
    ++ nat16 (stationLoad p) ++ be16 p.atu.overflow ++ nat16 p.atu.table.length
    ++ [nat8 (inUse p.hou.offers), nat8 (inUse p.hou.receptions), nat8 p.cnp.events.length,
        nat8 (bitsNumber [p.cnp.overrun, p.cnp.collision, p.cnp.incomplete])]

/-- The windows that name area `a`, bit n for window n (R166). -/
def windowSet (p : Part) (a : Area) : BitVec 32 :=
  (List.finRange 32).foldl (fun x n =>
    let w := p.stc.settings.windows.get n
    if w.enabled && decide (w.area.toNat = a.val) then x ||| (1#32 <<< n.val) else x) 0

/-- Bytes 32..42 and 46..53 of the area record. -/
def offerRecordBytes (p : Part) (a : Area) : List Byte × List Byte :=
  match offerFor p a with
  | none => (0xFF :: List.replicate 10 0, List.replicate 8 0)
  | some r =>
    match p.hou.offers.get r with
    | none => (0xFF :: List.replicate 10 0, List.replicate 8 0)
    | some o =>
      ([nat8 r.val, nat8 (transferKindCode o.kind), nat8 (offerStateCode o.state), o.target.setWidth 8, o.number]
          ++ nat16 o.entryCount ++ [nat8 o.segmentCount, nat8 o.nextIndex] ++ nat16 o.replyTimer,
       be16 o.load ++ be16 o.signature ++ be24 o.credential ++ [nat8 (txMarkCode o.mark)])

/-- Bytes 43..45 of the area record. -/
def receptionRecordBytes (p : Part) (a : Area) : List Byte :=
  match receptionFor p a with
  | none => [0xFF, 0, 0]
  | some r =>
    match p.hou.receptions.get r with
    | none => [0xFF, 0, 0]
    | some x => [nat8 r.val, nat8 (transferKindCode x.kind), nat8 (receptionStateCode x.state)]

/-- The session credential of station `x` from the station list, 0 while it is unheard (R93). -/
def heardCredential (p : Part) (x : StationNo) : Credential :=
  match heardRecord p x with
  | some h => h.credential
  | none => 0

/-- The area record of 54 bytes (R166). -/
def areaBytes (p : Part) (a : Area) : List Byte :=
  let v := view p a
  let o := offerRecordBytes p a
  [areaByte a,
   nat8 (roleCode v.role
     + 4 * bitsNumber [holds p a, holds p a && sessionActive p, orphaned p a, v.relinquished, v.emergency, v.startup]),
   v.holder.setWidth 8,
   nat8 (v.holderPeriod.toNat + 32 * bitsNumber [v.holderFlood, v.holderEmergency, v.attended])]
    ++ be16 v.holderCount ++ be16 v.holderSignature ++ be16 v.holderLoad ++ [nat8 v.age, nat8 v.mismatch]
    ++ [nat8 (syncMarkCode v.syncMark), nat8 v.resync, nat8 v.claimDelay]
    ++ be24 (heardCredential p v.holder) ++ [p.stc.settings.required.get a]
    ++ nat16 (areaCount p a) ++ be16 (areaSignature p a) ++ [nat8 (flag (AreaSet.has p.atu.overflow a))]
    ++ be16 (loadOf p a) ++ [nat8 (flag (inFlood p a)), nat8 (lampCode (areaLamp p a))]
    ++ be32 (windowSet p a) ++ o.1 ++ receptionRecordBytes p a ++ o.2

/-- The fields of reception record `r`, 22 bytes (section 12.2). -/
def receptionBytes (r : Fin 4) (x : Reception) : List Byte :=
  [nat8 r.val, nat8 (transferKindCode x.kind), nat8 (receptionStateCode x.state), x.releaser.setWidth 8, x.number]
    ++ nat16 x.entryCount ++ [nat8 x.segmentCount] ++ be16 x.load ++ be16 x.signature ++ be24 x.credential
    ++ nat16 x.received ++ [nat8 x.nextIndex, nat8 x.gap] ++ nat16 x.timer ++ [nat8 (txMarkCode x.mark)]

/-- The reason byte of an event; 0 when absent. -/
def reasonByte (e : Event) : Byte :=
  match e.reason with
  | some r => nat8 (reasonCode e.kind r)
  | none => 0

/-- The area byte of an event: the area, or the new state of a STATION-STATE. -/
def eventArea (e : Event) : Byte :=
  match e.area, e.state with
  | some a, _ => areaByte a
  | none, some x => (stationStateCode x).setWidth 8
  | none, none => 0

/-- An event record of 11 bytes (section 12.2). -/
def eventBytes (e : Event) : List Byte :=
  [nat8 (eventKindCode e.kind),
   nat8 (8 * bitsNumber [e.reason.isSome, e.station.isSome, e.tag.isSome, e.area.isSome, e.lost])]
    ++ be32 e.time ++ [eventArea e] ++ be16 ((orZero e.tag).setWidth 16)
    ++ [(orZero e.station).setWidth 8, reasonByte e]

/-- The READ-STATS body of 36 bytes (R169). -/
def statsBytes (s : Stats) : List Byte :=
  be32 s.receivedGood ++ be32 s.transmitted
    ++ [s.checkErrors, s.overflowDrops, s.transmitErrors, s.staleConditions, s.staleAcknowledgements,
        s.duplicateAcknowledgements, s.unmappedConditions, s.tableOverflows, s.conflictsYielded, s.completedReleaser,
        s.completedReceiver, s.handoversFailed, s.resyncsApplied, s.changesMerged].flatMap be16

/-! ## The read requests (R164 to R169) -/

/-- STATUS: the flags are cleared once the answer reports them (R164). -/
def serveStatus (p : Part) : Part :=
  modCnp (fun c => { c with collision := false, incomplete := false }) (answerWith .done (statusBytes p) p)

/-- READ-ENTRY (R165). -/
def serveReadEntry (t : Tag) (p : Part) : Part :=
  match findEntry p t with
  | some e => answerWith .done (entryBytes e) p
  | none => answerWith .noEntry [] p

/-- READ-LIST (R165). -/
def serveReadList (start n : Nat) (p : Part) : Part :=
  let es := ((presentation p.atu.table).drop start).take n
  answerWith .done (nat16 p.atu.table.length ++ [nat8 es.length] ++ es.flatMap entryBytes) p

/-- READ-AREA (R166). -/
def serveReadArea (a : Area) (p : Part) : Part := answerWith .done (areaBytes p a) p

/-- READ-RECEPTION (R166). DESIGN CHOICE: the number of summaries reported takes one byte (log 49). -/
def serveReadReception (r : Fin 4) (start n : Nat) (p : Part) : Part :=
  match p.hou.receptions.get r with
  | some x =>
    let ds := (x.summaries.drop start).take n
    answerWith .done (receptionBytes r x ++ [nat8 ds.length] ++ ds.flatMap summaryBytes) p
  | none => answerWith .noRecord [] p

/-- The first event carries LOST mark yes when the overrun flag is set; every other no (R168). -/
def markLost (overrun : Bool) : List Event → List Event
  | [] => []
  | e :: es => { e with lost := overrun } :: es.map fun x => { x with lost := false }

/-- READ-EVENTS (R168). DESIGN CHOICE: the number remaining and the number reported take one byte each (log 49). -/
def serveReadEvents (n : Nat) (p : Part) : Part :=
  let es := markLost p.cnp.overrun (p.cnp.events.take n)
  let rest := p.cnp.events.drop n
  answerWith .done ([nat8 rest.length, nat8 es.length] ++ es.flatMap eventBytes)
    (modCnp (fun c => { c with events := rest, overrun := c.overrun && es.isEmpty }) p)

/-- READ-STATS (R169). -/
def serveReadStats (p : Part) : Part := answerWith .done (statsBytes p.cnp.stats) p

/-! ## The action requests -/

/-- The checks of an ACK request (R25). -/
def ackRefusal (p : Part) (t : Tag) : Option ResultCode :=
  match findEntry p t with
  | none => firstFailing [(running p, .notRunning), (sessionActive p, .noSession), (false, .noEntry)]
  | some e =>
    firstFailing
      [(running p, .notRunning), (sessionActive p, .noSession), (acting p e.area, .notActing),
       (ackRight p e.area, .noRight), (!e.acknowledged, .done), (admitsRequest p, .busy)]

/-- The occurrence in a tag's entry. -/
def occurrenceOf (p : Part) (t : Tag) : Occurrence :=
  match findEntry p t with
  | some e => e.occurrence
  | none => 0

/-- ACK (R25, R26). -/
def serveAck (t : Tag) (p : Part) : Part :=
  match ackRefusal p t with
  | some code => answerWith code [] p
  | none =>
    answerWith .queued [] (queueRequest 0 (.acknowledge t (occurrenceOf p t) (sessionCredential p)) p)

/-- The checks of a SHELVE request (R30). -/
def shelveRefusal (p : Part) (t : Tag) : Option ResultCode :=
  match findEntry p t with
  | none => firstFailing [(running p, .notRunning), (sessionActive p, .noSession), (false, .noEntry)]
  | some e =>
    firstFailing
      [(running p, .notRunning), (sessionActive p, .noSession), (acting p e.area, .notActing),
       (decide (e.priority ≠ .p1), .notShelvable), (!emergency p e.area, .emergency),
       (shelveRight p e.area, .noRight), (admitsRequest p, .busy)]

/-- The minutes clamped to 1 up to the configured maximum (R31). -/
def clampMinutes (p : Part) (m : Nat) : Nat := min p.stc.settings.maxShelve (max 1 m)

/-- SHELVE (R30, R31). -/
def serveShelve (t : Tag) (m : Nat) (p : Part) : Part :=
  match shelveRefusal p t with
  | some code => answerWith code [] p
  | none =>
    answerWith .queued []
      (queueRequest 0 (.shelve t (BitVec.ofNat 16 (clampMinutes p m * 60)) (sessionCredential p)) p)

/-- The checks of an UNSHELVE request (R32). -/
def unshelveRefusal (p : Part) (t : Tag) : Option ResultCode :=
  match findEntry p t with
  | none => firstFailing [(running p, .notRunning), (sessionActive p, .noSession), (false, .noEntry)]
  | some e =>
    firstFailing
      [(running p, .notRunning), (sessionActive p, .noSession), (acting p e.area, .notActing),
       (shelveRight p e.area, .noRight), (e.shelf.isSome, .done), (admitsRequest p, .busy)]

/-- UNSHELVE (R32). -/
def serveUnshelve (t : Tag) (p : Part) : Part :=
  match unshelveRefusal p t with
  | some code => answerWith code [] p
  | none => answerWith .queued [] (queueRequest 0 (.shelve t 0 (sessionCredential p)) p)

/-- SILENCE (R50). -/
def serveSilence (p : Part) : Part := answerWith .done [] (silenceHorn p)

/-- OFFER (R118, R119). -/
def serveOffer (a : Area) (target : Byte) (p : Part) : Part :=
  match offerRefusal p a target with
  | some code => answerWith code [] p
  | none => answerWith .queued [] (startOffer a target p)

/-- ACCEPT (R125, R174). -/
def serveAccept (a : Area) (p : Part) : Part :=
  let r := refusedStarting p (tryAccept (reviewFor p a) p)
  answerWith r.1 [] r.2

/-- DECLINE (R126, R174). -/
def serveDecline (a : Area) (p : Part) : Part :=
  let r := refusedStarting p (tryDecline (reviewFor p a) p)
  answerWith r.1 [] r.2

/-- RELIEF (R139). -/
def serveRelief (p : Part) : Part :=
  match reliefRefusal p with
  | some code => answerWith code [] p
  | none => answerWith .done [] (armRelief p)

/-- LOGOUT (R88). -/
def serveLogout (p : Part) : Part :=
  if sessionActive p then answerWith .done [] (endSession .logout none p) else answerWith .noSession [] p

/-- The checks of DECLARE-TRIP, and of RESTORE when `restore` holds (R110). -/
def tripRefusal (p : Part) (restore : Bool) (a : Area) : Option ResultCode :=
  firstFailing
    [(running p, .notRunning), (sessionActive p, .noSession), (supervisor p, .noRight),
     (decide (emergency p a = restore), .done), (admitsRequest p, .busy)]

/-- DECLARE-TRIP and RESTORE (R110). -/
def serveTrip (restore : Bool) (a : Area) (p : Part) : Part :=
  match tripRefusal p restore a with
  | some code => answerWith code [] p
  | none => answerWith .queued [] (queueRequest 0 (.trip restore a (sessionCredential p)) p)

/-! ## The commands -/

/-- VOID_TRANSACTION: its bytes are ignored, and no state changes (R160). -/
def execVoidTransaction (_first : Byte) (s : State) : Host.Outcome State Fault Refusal := .next s

/-- READ_TRANSACTION. -/
def execReadTransaction (n : Nat) (s : State) : Host.Outcome State Fault Refusal := .next (s.withPart (readPort n s.part))

/-- STATUS. -/
def execStatus (f : Frame) (s : State) : Host.Outcome State Fault Refusal :=
  .next (s.withPart (request 1 true formNone (fun _ => serveStatus) f s.part))

/-- READ_ENTRY. -/
def execReadEntry (f : Frame) (s : State) : Host.Outcome State Fault Refusal :=
  .next (s.withPart (request 2 false formTag serveReadEntry f s.part))

/-- READ_LIST. -/
def execReadList (f : Frame) (s : State) : Host.Outcome State Fault Refusal :=
  .next (s.withPart (request 3 false formList (fun x => serveReadList x.1 x.2) f s.part))

/-- READ_AREA. -/
def execReadArea (f : Frame) (s : State) : Host.Outcome State Fault Refusal :=
  .next (s.withPart (request 4 false formArea serveReadArea f s.part))

/-- READ_RECEPTION. -/
def execReadReception (f : Frame) (s : State) : Host.Outcome State Fault Refusal :=
  .next (s.withPart (request 5 false formReception (fun x => serveReadReception x.1 x.2.1 x.2.2) f s.part))

/-- READ_EVENTS. -/
def execReadEvents (f : Frame) (s : State) : Host.Outcome State Fault Refusal :=
  .next (s.withPart (request 6 false formCount serveReadEvents f s.part))

/-- READ_STATS. -/
def execReadStats (f : Frame) (s : State) : Host.Outcome State Fault Refusal :=
  .next (s.withPart (request 7 true formNone (fun _ => serveReadStats) f s.part))

/-- ACK. -/
def execAck (f : Frame) (s : State) : Host.Outcome State Fault Refusal :=
  .next (s.withPart (request 8 false formTag serveAck f s.part))

/-- SHELVE. -/
def execShelve (f : Frame) (s : State) : Host.Outcome State Fault Refusal :=
  .next (s.withPart (request 9 false formShelve (fun x => serveShelve x.1 x.2) f s.part))

/-- UNSHELVE. -/
def execUnshelve (f : Frame) (s : State) : Host.Outcome State Fault Refusal :=
  .next (s.withPart (request 10 false formTag serveUnshelve f s.part))

/-- SILENCE. -/
def execSilence (f : Frame) (s : State) : Host.Outcome State Fault Refusal :=
  .next (s.withPart (request 11 false formNone (fun _ => serveSilence) f s.part))

/-- OFFER. -/
def execOffer (f : Frame) (s : State) : Host.Outcome State Fault Refusal :=
  .next (s.withPart (request 12 false formOffer (fun x => serveOffer x.1 x.2) f s.part))

/-- ACCEPT. -/
def execAccept (f : Frame) (s : State) : Host.Outcome State Fault Refusal :=
  .next (s.withPart (request 13 false formArea serveAccept f s.part))

/-- DECLINE. -/
def execDecline (f : Frame) (s : State) : Host.Outcome State Fault Refusal :=
  .next (s.withPart (request 14 false formArea serveDecline f s.part))

/-- RELIEF. -/
def execRelief (f : Frame) (s : State) : Host.Outcome State Fault Refusal :=
  .next (s.withPart (request 15 false formNone (fun _ => serveRelief) f s.part))

/-- LOGOUT. -/
def execLogout (f : Frame) (s : State) : Host.Outcome State Fault Refusal :=
  .next (s.withPart (request 16 false formNone (fun _ => serveLogout) f s.part))

/-- DECLARE_TRIP. -/
def execDeclareTrip (f : Frame) (s : State) : Host.Outcome State Fault Refusal :=
  .next (s.withPart (request 17 false formArea (serveTrip false) f s.part))

/-- RESTORE. -/
def execRestore (f : Frame) (s : State) : Host.Outcome State Fault Refusal :=
  .next (s.withPart (request 18 false formArea (serveTrip true) f s.part))

/-- RESTART: a console reset, not answered, in every station state (R169). -/
def execRestart (f : Frame) (s : State) : Host.Outcome State Fault Refusal :=
  .next (s.withPart (request 19 true formNone (fun _ p => consoleReset p.stc.strapPins p) f s.part))

/-- BAD_REQUEST: a request code outside the nineteen fails the first check of form (R163). A code of the nineteen is another
command's, and changes nothing (log 1). -/
def execBadRequest (code : Byte) (f : Frame) (s : State) : Host.Outcome State Fault Refusal :=
  .next (s.withPart
    (if 1 ≤ code.toNat ∧ code.toNat ≤ 19 then s.part
     else request code true (fun _ => (none : Option Unit)) (fun _ p => p) f s.part))

end Sys2Proof.Machine
end

