-- ==== Sys2Proof/Machine/Expiry.lean ====
section
/-! DEFINITION. The commands a tick brings about in ATU, LDM and ARU: shelf expiry, decay, aging, the claim delay, the beacon schedule. -/

namespace Sys2Proof.Machine

/-- The shelf of tag `t`'s entry runs out: one second or less remains (R37, R38, R39). -/
def shelfRun (t : Tag) (p : Part) : Part :=
  match findEntry p t with
  | some e =>
    match e.shelf with
    | some x => if listening p = true ∧ x.seconds ≤ 1 then expireShelf e p else p
    | none => p
  | none => p

/-- The metering tick: every figure above 0 decays (R66). DESIGN CHOICE: the areas are taken by rising number, which orders
the FLOOD-OFF events of one tick (log 44). -/
def meterTick (p : Part) : Part := if listening p then allAreas.foldl decayArea p else p

/-- The age of area `a`'s holder passes three of its periods on this tick (R101). -/
def holderRun (a : Area) (p : Part) : Part :=
  if listening p = true ∧ (view p a).holder ≠ 0 ∧ 3 * periodSeconds (view p a).holderPeriod < (view p a).age + 1 then
    forgetHolder a p
  else p

/-- The age of station `x`'s record passes three of its periods on this tick: it becomes unheard (R93). -/
def stationRun (x : StationNo) (p : Part) : Part :=
  match heardRecord p x with
  | some h =>
    if listening p = true ∧ 3 * periodSeconds h.period < h.age + 1 then
      modAru (fun r => { r with stations := r.stations.filter fun y => decide (y.station ≠ x) }) p
    else p
  | none => p

/-- The claim delay of orphaned area `a` reaches 0 on this tick, and claims are judged (R102, R103). -/
def claimRun (a : Area) (p : Part) : Part :=
  if listening p = true ∧ orphaned p a = true ∧ (view p a).claimDelay ≤ 1 then
    judgeClaims (modView a (fun v => { v with claimDelay := 0 }) p)
  else p

/-- The beacon schedule count reaches 0 on this tick, in RUNNING (R97). -/
def scheduleRun (p : Part) : Part :=
  if running p = true ∧ p.aru.schedule ≤ 1 then callBeacon (modAru (fun r => { r with schedule := 0 }) p) else p

/-! ## The commands -/

/-- SHELF_EXPIRY. -/
def execShelfExpiry (t : Tag) (s : State) : Host.Outcome State Fault Refusal := .next (s.withPart (shelfRun t s.part))

/-- METERING_TICK. -/
def execMeteringTick (s : State) : Host.Outcome State Fault Refusal := .next (s.withPart (meterTick s.part))

/-- HOLDER_AGED. -/
def execHolderAged (a : Area) (s : State) : Host.Outcome State Fault Refusal := .next (s.withPart (holderRun a s.part))

/-- STATION_UNHEARD. -/
def execStationUnheard (x : StationNo) (s : State) : Host.Outcome State Fault Refusal :=
  .next (s.withPart (stationRun x s.part))

/-- CLAIM_DELAY_RUN. -/
def execClaimDelayRun (a : Area) (s : State) : Host.Outcome State Fault Refusal := .next (s.withPart (claimRun a s.part))

/-- BEACON_SCHEDULE_DUE. -/
def execBeaconScheduleDue (s : State) : Host.Outcome State Fault Refusal := .next (s.withPart (scheduleRun s.part))

end Sys2Proof.Machine
end

