-- ==== Sys2Proof/Machine/Tick.lean ====
section
/-! DEFINITION. The 1 s tick of the Time Base, which the machine takes when no command waits (log 2): counts are lowered, and each count that runs out puts its own command in the queue. -/

namespace Sys2Proof.Machine

/-- A count above 1 is lowered; the last second of a count is left to the command of its expiry (log 19). -/
def lower (n : Nat) : Nat := if 1 < n then n - 1 else n

/-- An age passes three times its period on this tick. -/
def ageDue (age : Nat) (period : PeriodCode) : Bool := decide (3 * periodSeconds period < age + 1)

/-! ## What runs out on this tick -/

/-- The tags whose shelf runs out (R37). -/
def dueShelves (p : Part) : List Instr :=
  (p.atu.table.filter fun e => e.shelf.any fun x => decide (x.seconds ≤ 1)).map fun e => .shelfExpiry e.tag

/-- The 10 s metering tick: the station seconds reach a multiple of 10 other than 0 (R66). -/
def dueMetering (p : Part) : List Instr :=
  if (now p + 1).toNat % 10 = 0 ∧ now p + 1 ≠ 0 then [.meteringTick] else []

/-- The relief window and the grace timer (R91, R140). -/
def dueSession (p : Part) : List Instr :=
  (if p.ssu.armed = true ∧ p.ssu.window ≤ 1 then [.reliefWindowExpiry] else [])
    ++ (if p.aru.graceRunning = true ∧ p.aru.grace ≤ 1 then [.graceExpiry] else [])

/-- The stations that fall silent, the holders that age out, the claim delays that have run, the beacon schedule (R93, R97,
R101, R102). -/
def dueResponsibility (p : Part) : List Instr :=
  ((p.aru.stations.filter fun h => ageDue h.age h.period).map fun h => Instr.stationUnheard h.station)
    ++ ((allAreas.filter fun a => decide ((view p a).holder ≠ 0) && ageDue (view p a).age (view p a).holderPeriod).map
        Instr.holderAged)
    ++ ((allAreas.filter fun a => orphaned p a && decide ((view p a).claimDelay = 1)).map Instr.claimDelayRun)
    ++ (if running p = true ∧ p.aru.schedule = 1 then [.beaconScheduleDue] else [])

/-- The reception records that satisfy `f`, each giving a command. -/
def dueReceptions (p : Part) (f : Reception → Bool) (c : Fin 4 → Instr) : List Instr :=
  ((List.finRange 4).filter fun r => (p.hou.receptions.get r).any f).map c

/-- The timers of transfers and of the answer list (R117, R122, R126, R131). -/
def dueTransfers (p : Part) : List Instr :=
  dueReceptions p (fun x => decide (x.state = .receiving) && decide (x.gap ≤ 1)) Instr.gapTimeout
    ++ dueReceptions p
        (fun x => decide (x.kind = .handover) && decide (x.state = .review) && decide (x.mark = .none) && decide (x.timer ≤ 1))
        Instr.reviewTimeout
    ++ dueReceptions p (fun x => decide (x.state = .accepted) && decide (x.timer ≤ 1)) Instr.releaseTimeout
    ++ ((List.finRange 4).filter fun r =>
        (p.hou.offers.get r).any fun o => decide (o.state = .offered) && decide (o.replyTimer ≤ 1)).map Instr.replyTimeout
    ++ ((List.finRange 4).filter fun i =>
        (p.hou.answers[i.val]?).any fun x => decide (x.state = .waitingEnd) && decide (x.gap ≤ 1)).map Instr.answerGapExpiry

/-- The settle count and the isolation timer, last, so that claim delays are lowered before an entry to RUNNING (R102,
R174, R175). -/
def dueStation (p : Part) : List Instr :=
  (if starting p = true ∧ p.stc.settle ≤ 1 then [.settleEnd] else [])
    ++ (if isolated p = true ∧ p.stc.isolation ≤ 1 then [.isolationEnd] else [])

/-- The commands that this tick brings about, in the order the model takes them (log 2). -/
def dueCommands (p : Part) : List Instr :=
  dueShelves p ++ dueMetering p ++ dueSession p ++ dueResponsibility p ++ dueTransfers p ++ dueStation p

/-! ## Counting -/

/-- Shelves (R37). -/
def tickAtu (t : Atu) : Atu :=
  { t with table := t.table.map fun e => { e with shelf := e.shelf.map fun x => { x with seconds := lower x.seconds } } }

/-- The relief window (R140). -/
def tickSsu (u : Ssu) : Ssu := { u with window := if u.armed then lower u.window else u.window }

/-- A view: age, resync pending, claim delay (R101, R102, R105). -/
def tickView (v : View) : View :=
  { v with
    age := if v.holder = 0 ∨ ageDue v.age v.holderPeriod = true then v.age else v.age + 1,
    resync := v.resync - 1,
    claimDelay := if v.holder = 0 ∧ v.role ≠ .hold then lower v.claimDelay else v.claimDelay }

/-- Views, stations heard, beacon schedule, grace timer (R90, R93, R97). -/
def tickAru (run : Bool) (x : Aru) : Aru :=
  { x with
    views := tabulate fun a => tickView (x.views.get a),
    stations := x.stations.map fun h => if ageDue h.age h.period then h else { h with age := h.age + 1 },
    schedule := if run then lower x.schedule else x.schedule,
    grace := if x.graceRunning then lower x.grace else x.grace }

/-- An offer record: its reply timer in OFFERED (R120). -/
def tickOffer (o : Offer) : Offer :=
  { o with replyTimer := if o.state = .offered then lower o.replyTimer else o.replyTimer }

/-- A reception record: the gap timer in RECEIVING, the review timer while no REPLY is pending, the release timer. -/
def tickReception (x : Reception) : Reception :=
  match x.state with
  | .receiving => { x with gap := lower x.gap }
  | .review => { x with timer := if x.mark = .none then lower x.timer else x.timer }
  | .accepted => { x with timer := lower x.timer }

/-- Records and answer items. -/
def tickHou (h : Hou) : Hou :=
  { h with
    offers := tabulate fun r => (h.offers.get r).map tickOffer,
    receptions := tabulate fun r => (h.receptions.get r).map tickReception,
    answers := h.answers.map fun x => { x with gap := if x.state = .waitingEnd then lower x.gap else x.gap } }

/-- The settle count and the isolation timer (R174, R175). -/
def tickStc (c : Stc) : Stc :=
  { c with
    settle := if c.station = some .starting then lower c.settle else c.settle,
    isolation := if c.station = some .isolated then lower c.isolation else c.isolation }

/-- The station seconds counter advances, wrapping at 32 bits (log 12). -/
def advanceSeconds : Part → Part := modStc fun c => { c with seconds := c.seconds + 1 }

/-- Every count of the part on one tick; claims are judged on each (R103). -/
def countTick (p : Part) : Part :=
  judgeClaims
    { p with
      stc := tickStc p.stc, atu := tickAtu p.atu, ssu := tickSsu p.ssu, aru := tickAru (running p) p.aru,
      hou := tickHou p.hou }

/-- One 1 s tick, no command waiting: none while a reset is in progress; in UNCONFIGURED the seconds alone (R170, R173). -/
def tickStep (s : State) : State :=
  if s.part.stc.station.isNone then s
  else if listening s.part then
    { part := countTick (advanceSeconds s.part), pending := dueCommands s.part }
  else s.withPart (advanceSeconds s.part)

end Sys2Proof.Machine
end

