-- ==== Sys2Proof/Machine/Dispatch.lean ====
section
/-! DEFINITION. The meaning of each command: one arm per constructor of Instr. -/

namespace Sys2Proof.Machine

/-- The effect of a command on everything but the queue. -/
def exec (i : Instr) (s : State) : Host.Outcome State Fault Refusal :=
  match i with
  | .powerOnReset straps => Sys2Proof.Machine.execPowerOnReset straps s
  | .consoleReset straps => Sys2Proof.Machine.execConsoleReset straps s
  | .imageReadComplete acknowledged bytes => Sys2Proof.Machine.execImageReadComplete acknowledged bytes s
  | .settleEnd => Sys2Proof.Machine.execSettleEnd s
  | .isolationEnd => Sys2Proof.Machine.execIsolationEnd s
  | .voidTransaction first => Sys2Proof.Machine.execVoidTransaction first s
  | .readTransaction clocked => Sys2Proof.Machine.execReadTransaction clocked s
  | .status f => Sys2Proof.Machine.execStatus f s
  | .readEntry f => Sys2Proof.Machine.execReadEntry f s
  | .readList f => Sys2Proof.Machine.execReadList f s
  | .readArea f => Sys2Proof.Machine.execReadArea f s
  | .readReception f => Sys2Proof.Machine.execReadReception f s
  | .readEvents f => Sys2Proof.Machine.execReadEvents f s
  | .readStats f => Sys2Proof.Machine.execReadStats f s
  | .ack f => Sys2Proof.Machine.execAck f s
  | .shelve f => Sys2Proof.Machine.execShelve f s
  | .unshelve f => Sys2Proof.Machine.execUnshelve f s
  | .silence f => Sys2Proof.Machine.execSilence f s
  | .offer f => Sys2Proof.Machine.execOffer f s
  | .accept f => Sys2Proof.Machine.execAccept f s
  | .decline f => Sys2Proof.Machine.execDecline f s
  | .relief f => Sys2Proof.Machine.execRelief f s
  | .logout f => Sys2Proof.Machine.execLogout f s
  | .declareTrip f => Sys2Proof.Machine.execDeclareTrip f s
  | .restore f => Sys2Proof.Machine.execRestore f s
  | .restart f => Sys2Proof.Machine.execRestart f s
  | .keySilencePress => Sys2Proof.Machine.execKeySilencePress s
  | .keyAcceptPress => Sys2Proof.Machine.execKeyAcceptPress s
  | .keyDeclinePress => Sys2Proof.Machine.execKeyDeclinePress s
  | .keyReliefPress => Sys2Proof.Machine.execKeyReliefPress s
  | .alarmInputChange input => Sys2Proof.Machine.execAlarmInputChange input s
  | .tripInputActivation input => Sys2Proof.Machine.execTripInputActivation input s
  | .badgePresentation bits => Sys2Proof.Machine.execBadgePresentation bits s
  | .telegramReceived bytes => Sys2Proof.Machine.execTelegramReceived bytes s
  | .takeCondition => Sys2Proof.Machine.execTakeCondition s
  | .takeAcknowledge => Sys2Proof.Machine.execTakeAcknowledge s
  | .takeShelve => Sys2Proof.Machine.execTakeShelve s
  | .takeUnshelve => Sys2Proof.Machine.execTakeUnshelve s
  | .shelfExpiry tag => Sys2Proof.Machine.execShelfExpiry tag s
  | .meteringTick => Sys2Proof.Machine.execMeteringTick s
  | .takeBeacon => Sys2Proof.Machine.execTakeBeacon s
  | .holderAged area => Sys2Proof.Machine.execHolderAged area s
  | .stationUnheard station => Sys2Proof.Machine.execStationUnheard station s
  | .claimDelayRun area => Sys2Proof.Machine.execClaimDelayRun area s
  | .beaconScheduleDue => Sys2Proof.Machine.execBeaconScheduleDue s
  | .takeSyncRequest => Sys2Proof.Machine.execTakeSyncRequest s
  | .takeTrip => Sys2Proof.Machine.execTakeTrip s
  | .takeRestore => Sys2Proof.Machine.execTakeRestore s
  | .takeLogin => Sys2Proof.Machine.execTakeLogin s
  | .takeOffer => Sys2Proof.Machine.execTakeOffer s
  | .takeHandoverDigest => Sys2Proof.Machine.execTakeHandoverDigest s
  | .takeSyncDigest => Sys2Proof.Machine.execTakeSyncDigest s
  | .takeReply => Sys2Proof.Machine.execTakeReply s
  | .takeRelease => Sys2Proof.Machine.execTakeRelease s
  | .takeWithdraw => Sys2Proof.Machine.execTakeWithdraw s
  | .sendAttempt => Sys2Proof.Machine.execSendAttempt s
  | .arbitrationLost => Sys2Proof.Machine.execArbitrationLost s
  | .lineCompletion => Sys2Proof.Machine.execLineCompletion s
  | .transmitError => Sys2Proof.Machine.execTransmitError s
  | .busyFault => Sys2Proof.Machine.execBusyFault s
  | .conditionCompletion => Sys2Proof.Machine.execConditionCompletion s
  | .acknowledgeCompletion => Sys2Proof.Machine.execAcknowledgeCompletion s
  | .shelveCompletion => Sys2Proof.Machine.execShelveCompletion s
  | .tripCompletion => Sys2Proof.Machine.execTripCompletion s
  | .restoreCompletion => Sys2Proof.Machine.execRestoreCompletion s
  | .loginCompletion => Sys2Proof.Machine.execLoginCompletion s
  | .beaconCompletion => Sys2Proof.Machine.execBeaconCompletion s
  | .syncRequestCompletion => Sys2Proof.Machine.execSyncRequestCompletion s
  | .offerCompletion => Sys2Proof.Machine.execOfferCompletion s
  | .digestSegmentCompletion => Sys2Proof.Machine.execDigestSegmentCompletion s
  | .syncSegmentCompletion => Sys2Proof.Machine.execSyncSegmentCompletion s
  | .replyCompletion => Sys2Proof.Machine.execReplyCompletion s
  | .releaseCompletion => Sys2Proof.Machine.execReleaseCompletion s
  | .answerItemCompletion => Sys2Proof.Machine.execAnswerItemCompletion s
  | .answerGapExpiry item => Sys2Proof.Machine.execAnswerGapExpiry item s
  | .gapTimeout record => Sys2Proof.Machine.execGapTimeout record s
  | .reviewTimeout record => Sys2Proof.Machine.execReviewTimeout record s
  | .releaseTimeout record => Sys2Proof.Machine.execReleaseTimeout record s
  | .replyTimeout record => Sys2Proof.Machine.execReplyTimeout record s
  | .graceExpiry => Sys2Proof.Machine.execGraceExpiry s
  | .reliefWindowExpiry => Sys2Proof.Machine.execReliefWindowExpiry s
  | .keyReleaseEdge key => Sys2Proof.Machine.execKeyReleaseEdge key s
  | .keyFirstSettling key down => Sys2Proof.Machine.execKeyFirstSettling key down s
  | .inputFirstSettling input active => Sys2Proof.Machine.execInputFirstSettling input active s
  | .tripInputDeactivation input => Sys2Proof.Machine.execTripInputDeactivation input s
  | .sampleTick keys contacts => Sys2Proof.Machine.execSampleTick keys contacts s
  | .badRequest code f => Sys2Proof.Machine.execBadRequest code f s

end Sys2Proof.Machine
end

