-- ==== Sys2Proof/Safety.lean ====
section
/-! DEFINITION. The terms of the statements: the Console Port's judgement of a request and the layouts of its answers, an event's storing, a telegram's placing, an item's taking from the ring, a sample's count and edge, what sets a horn demand, what a digest summary carries and leaves, what a beacon says, what the loss of an offer record leaves, and the invariants that every command keeps. The layouts and the summaries' effects are written here from the manual, not from the model's own operations. -/

namespace Sys2Proof.Machine

/-! ## The Console Port (R161, R163) -/

/-- The request code and the frame of a write transaction that names a request, or of one whose code is outside the
nineteen. -/
def requestOf : Instr → Option (Byte × Frame)
  | .status f => some (1, f)
  | .readEntry f => some (2, f)
  | .readList f => some (3, f)
  | .readArea f => some (4, f)
  | .readReception f => some (5, f)
  | .readEvents f => some (6, f)
  | .readStats f => some (7, f)
  | .ack f => some (8, f)
  | .shelve f => some (9, f)
  | .unshelve f => some (10, f)
  | .silence f => some (11, f)
  | .offer f => some (12, f)
  | .accept f => some (13, f)
  | .decline f => some (14, f)
  | .relief f => some (15, f)
  | .logout f => some (16, f)
  | .declareTrip f => some (17, f)
  | .restore f => some (18, f)
  | .restart f => some (19, f)
  | .badRequest code f => if 1 ≤ code.toNat ∧ code.toNat ≤ 19 then none else some (code, f)
  | _ => none

/-- A two-byte number, high byte first, as a request carries it. -/
def twoBytes (hi lo : Byte) : Nat := 256 * hi.toNat + lo.toNat

/-- The parameters have the length and the ranges that R163 states for a request code. -/
def formPasses (code : Byte) (params : List Byte) : Bool :=
  match code.toNat, params with
  | 1, [] | 7, [] | 11, [] | 15, [] | 16, [] | 19, [] => true
  | 2, [t1, t0] | 8, [t1, t0] | 10, [t1, t0] => decide (twoBytes t1 t0 ≤ 4095)
  | 3, [s1, s0, n] => decide (twoBytes s1 s0 ≤ 511) && decide (1 ≤ n.toNat) && decide (n.toNat ≤ 8)
  | 4, [a] | 13, [a] | 14, [a] | 17, [a] | 18, [a] => decide (a.toNat ≤ 15)
  | 5, [r, s1, s0, n] =>
    decide (r.toNat ≤ 3) && decide (twoBytes s1 s0 ≤ 511) && decide (1 ≤ n.toNat) && decide (n.toNat ≤ 8)
  | 6, [n] => decide (1 ≤ n.toNat) && decide (n.toNat ≤ 8)
  | 9, [t1, t0, _, _] => decide (twoBytes t1 t0 ≤ 4095)
  | 12, [a, _] => decide (a.toNat ≤ 15)
  | _, _ => false

/-- The requests that are served in UNCONFIGURED: STATUS, READ-STATS, RESTART. -/
def servedUnconfigured (code : Byte) : Bool := decide (code = 1 ∨ code = 7 ∨ code = 19)

/-- The part takes a request now: no reset is in progress, no answer waits, no request is outstanding (R161, R170). -/
def portOpen (p : Part) : Bool :=
  p.stc.station.isSome && p.cnp.response.isNone && p.cnp.outstanding.isNone

/-- CNP with an answer in the response buffer and no request outstanding. -/
def Cnp.answering (c : Cnp) (code : ResultCode) (body : List Byte) : Cnp :=
  { c with outstanding := none, response := some { result := code, body := body } }

/-- CNP after an event of station seconds `time`: stored last, or dropped with the overrun flag set when the queue holds 64
(R167). -/
def Cnp.storing (c : Cnp) (time : Seconds) (e : Event) : Cnp :=
  if c.events.length < 64 then { c with events := c.events ++ [{ e with time := time }] } else { c with overrun := true }

/-- A request's parameter: the tag in two bytes. -/
def tagParam (t : Tag) : List Byte := be16 (t.setWidth 16)

/-! ## Layouts of answers (section 12.2)

A layout is a list of numbers, each with its width in bytes. A named value's code is its place in the list of its names, in
the manual's order. -/

/-- The bytes of a layout, each number high byte first. -/
def laid (xs : List (Nat × Nat)) : List Byte :=
  xs.flatMap fun x => (List.range x.1).reverse.map fun i => BitVec.ofNat 8 (x.2 / 256 ^ i)

/-- A set of areas as a number: bit n stands for area n. -/
def areasNumber (f : Area → Bool) : Nat := (allAreas.map fun a => (f a).toNat * 2 ^ a.val).sum

/-- A tag word: tag, priority, condition, acknowledged (chapter 12). -/
def tagNumber (t : Tag) (x : Priority) (active acknowledged : Bool) : Nat :=
  t.toNat + 4096 * [Priority.p1, .p2, .p3, .p4].idxOf x + 16384 * active.toNat + 32768 * acknowledged.toNat

/-- The entry record of READ-ENTRY and READ-LIST. -/
def entryLayout (e : Entry) : List (Nat × Nat) :=
  let state := (entryState e).map fun x => [EntryState.alerting, .standing, .returned, .shelved].idxOf x
  let flags := 16 * e.quiet.toNat + 32 * e.shelf.isSome.toNat + 64 * e.ackCredential.isSome.toNat
  let shelf (f : Shelf → Nat) : Nat := (e.shelf.map f).getD 0
  [(2, tagNumber e.tag e.priority e.active e.acknowledged), (1, e.area.val), (1, state.getD 0 + flags),
   (1, e.occurrence.toNat), (3, (e.ackCredential.map BitVec.toNat).getD 0), (2, shelf Shelf.seconds),
   (3, shelf fun x => x.credential.toNat), (1, shelf fun x => x.station.toNat), (4, e.firstRaised.toNat),
   (4, e.lastChange.toNat)]

/-- A digest summary (section 12.1). -/
def summaryLayout (d : Summary) : List (Nat × Nat) :=
  [(2, tagNumber d.tag d.priority d.active d.acknowledged), (1, d.occurrence.toNat), (2, d.shelfSeconds.toNat),
   (2, d.age.toNat)]

/-- The record's fields of a READ-RECEPTION body. -/
def receptionLayout (r : Fin 4) (x : Reception) : List (Nat × Nat) :=
  [(1, r.val), (1, [TransferKind.handover, .sync].idxOf x.kind),
   (1, [ReceptionState.receiving, .review, .accepted].idxOf x.state), (1, x.releaser.toNat), (1, x.number.toNat),
   (2, x.entryCount), (1, x.segmentCount), (2, x.load.toNat), (2, x.signature.toNat), (3, x.credential.toNat),
   (2, x.received), (1, x.nextIndex), (1, x.gap), (2, x.timer),
   (1, [TxMark.none, .owed, .queued, .sending].idxOf x.mark)]

/-- The event kinds, in the order of the table of R167. -/
def kindsInOrder : List EventKind :=
  [.tableOverflow, .shelfExpired, .acceptRefused, .declineRefused, .floodOn, .floodOff, .sessionStarted, .sessionEnded,
   .badgeRefused, .holdingReleased, .holderLost, .claimed, .conflict, .areaTripped, .areaRestored, .review,
   .handoverComplete, .offerDeclined, .offerClosed, .receptionClosed, .handoverLost, .protocolError, .reliefArmed,
   .reliefRefused, .reliefDenied, .sessionRelieved, .reliefCancelled, .stationState]

/-- The reason list of an event kind, where that kind is produced; those of TABLE-OVERFLOW in the order of the text (log
33). -/
def reasonsOf : EventKind → List Reason
  | .tableOverflow => [.evicted, .notStored]
  | .sessionEnded => [.logout, .displaced]
  | .badgeRefused => [.unknown, .occupied, .notRunning, .busy]
  | .holdingReleased => [.rights, .grace, .isolated]
  | .holderLost => [.aged, .omitted]
  | .areaTripped => [.telegram, .beacon]
  | .review => [.matched, .differs]
  | .handoverComplete => [.released, .gained]
  | .offerClosed => [.timeout, .trip, .conflict, .rights, .grace, .session, .isolated]
  | .receptionClosed => [.digestError, .operator, .timeout, .withdrawn, .trip, .isolated]
  | .handoverLost => [.timeout, .rights]
  | .protocolError => [.accept, .decline]
  | .reliefDenied => [.unknown, .noRight, .unackedUrgent, .busy]
  | .reliefCancelled => [.badge, .expired, .trip, .holdings]
  | .stationState => [.straps, .absent, .marker, .version, .crc, .powerOn, .console, .isolationEnd]
  | .shelfExpired | .acceptRefused | .declineRefused | .floodOn | .floodOff | .sessionStarted | .claimed | .conflict
  | .areaRestored | .offerDeclined | .reliefArmed | .reliefRefused | .sessionRelieved => []

/-- A reason's number: a result code, a REPLY reason code, or its position from 1 in the list of the kind. -/
def reasonNumber (k : EventKind) : Reason → Nat
  | .result c =>
    [ResultCode.done, .queued, .notRunning, .noSession, .noRight, .notActing, .noEntry, .notShelvable, .unackedUrgent,
      .load, .emergency, .busy, .noRoom, .badTarget, .noRecord, .badRequest].idxOf c
  | .reply x =>
    [ReplyReason.none, .operator, .timeout, .busy, .holds, .notRunning, .noRoom, .digestError, .emergency].idxOf x
  | r => (reasonsOf k).idxOf r + 1

/-- The event's reason, if any, is one that its kind carries. -/
def reasonFits (e : Event) : Prop :=
  ∀ r, e.reason = some r → (∃ c, r = .result c) ∨ (∃ x, r = .reply x) ∨ r ∈ reasonsOf e.kind

/-- The event record of READ-EVENTS; STATION-STATE carries the new state's code in the area byte. -/
def eventLayout (e : Event) : List (Nat × Nat) :=
  let place : Nat :=
    match e.area, e.state with
    | some a, _ => a.val
    | none, some x => [StationState.unconfigured, .starting, .running, .isolated].idxOf x
    | none, none => 0
  [(1, kindsInOrder.idxOf e.kind + 1),
   (1, 128 * e.lost.toNat + 64 * e.area.isSome.toNat + 32 * e.tag.isSome.toNat + 16 * e.station.isSome.toNat
      + 8 * e.reason.isSome.toNat),
   (4, e.time.toNat), (1, place), (2, (e.tag.map BitVec.toNat).getD 0), (1, (e.station.map BitVec.toNat).getD 0),
   (1, (e.reason.map (reasonNumber e.kind)).getD 0)]

/-- The area record of READ-AREA. -/
def areaLayout (p : Part) (a : Area) : List (Nat × Nat) :=
  let v := view p a
  let held := holds p a
  [(1, a.val),
   (1, [Role.none, .watch, .cover, .hold].idxOf v.role + 4 * held.toNat
      + 8 * (held && p.ssu.session.isSome).toNat + 16 * (decide (v.holder = 0) && !held).toNat
      + 32 * v.relinquished.toNat + 64 * v.emergency.toNat + 128 * v.startup.toNat),
   (1, v.holder.toNat),
   (1, 128 * v.attended.toNat + 64 * v.holderEmergency.toNat + 32 * v.holderFlood.toNat + v.holderPeriod.toNat),
   (2, v.holderCount.toNat), (2, v.holderSignature.toNat), (2, v.holderLoad.toNat), (1, v.age), (1, v.mismatch),
   (1, [SyncMark.none, .owed, .queued].idxOf v.syncMark), (1, v.resync), (1, v.claimDelay),
   (3, ((p.aru.stations.find? fun h => decide (h.station = v.holder)).map fun h => h.credential.toNat).getD 0),
   (1, (p.stc.settings.required.get a).toNat), (2, areaCount p a), (2, (areaSignature p a).toNat),
   (1, (AreaSet.has p.atu.overflow a).toNat), (2, (p.ldm.load.get a).toNat), (1, (AreaSet.has p.ldm.flood a).toNat),
   (1, [LampPattern.off, .steady, .slow, .fast, .flicker].idxOf (areaLamp p a)),
   (4, ((List.finRange 32).map fun n =>
      let w := p.stc.settings.windows.get n
      (w.enabled && decide (w.area.toNat = a.val)).toNat * 2 ^ n.val).sum)]
  ++ (match (offerFor p a).bind fun r => (p.hou.offers.get r).map fun o => (r, o) with
      | none => [(1, 255), (10, 0)]
      | some (r, o) =>
        [(1, r.val), (1, [TransferKind.handover, .sync].idxOf o.kind),
         (1, [OfferState.sending, .offered, .releasing].idxOf o.state), (1, o.target.toNat), (1, o.number.toNat),
         (2, o.entryCount), (1, o.segmentCount), (1, o.nextIndex), (2, o.replyTimer)])
  ++ (match (receptionFor p a).bind fun r => (p.hou.receptions.get r).map fun x => (r, x) with
      | none => [(1, 255), (2, 0)]
      | some (r, x) =>
        [(1, r.val), (1, [TransferKind.handover, .sync].idxOf x.kind),
         (1, [ReceptionState.receiving, .review, .accepted].idxOf x.state)])
  ++ (match (offerFor p a).bind p.hou.offers.get with
      | none => [(8, 0)]
      | some o =>
        [(2, o.load.toNat), (2, o.signature.toNat), (3, o.credential.toNat),
         (1, [TxMark.none, .owed, .queued, .sending].idxOf o.mark)])

/-- The STATUS body (R164), in a station state. -/
def statusLayout (p : Part) (state : StationState) : List (Nat × Nat) :=
  [(1, [StationState.unconfigured, .starting, .running, .isolated].idxOf state), (1, p.stc.number.toNat),
   (1, [ResetCause.powerOn, .console].idxOf p.stc.cause),
   (1, (p.stc.fault.map fun x => [ConfigFault.straps, .absent, .marker, .version, .crc].idxOf x + 1).getD 0),
   (4, p.stc.seconds.toNat), (1, if state = .isolated then p.stc.isolation else 0)]
  ++ (match p.ssu.session with
      | none => [(11, 0)]
      | some x =>
        [(1, 1), (3, x.credential.toNat), (1, x.record.val),
         (1, [OperatorRole.operator, .lead, .supervisor].idxOf (p.stc.settings.operators.get x.record).role + 1),
         (4, x.start.toNat), (1, [LoginMark.none, .queued, .owed].idxOf x.mark)])
  ++ [(1, p.ssu.armed.toNat), (2, p.ssu.window), (4, p.ssu.armedTime.toNat), (2, areasNumber (holds p)),
      (2, p.aru.grace), (1, [HornState.silent, .routine, .urgent].idxOf p.anu.horn),
      (1, p.anu.urgent.toNat + 2 * p.anu.routine.toNat + 4 * p.anu.trip.toNat),
      (1, ((List.finRange 4).map fun k => 4 ^ k.val * [KeyState.unknown, .up, .down].idxOf (key p k).state).sum)]
  ++ ((List.finRange 8).map fun i =>
      (1, [InputUse.unused, .alarm, .trip].idxOf (inputConfig p i).use
        + 16 * [Contact.unknown, .active, .clear].idxOf (input p i).condition))
  ++ [(2, min 65535 ((allAreas.map fun a => if holds p a then (p.ldm.load.get a).toNat else 0).sum)),
      (2, p.atu.overflow.toNat), (2, p.atu.table.length),
      (1, (List.finRange 4).countP fun r => (p.hou.offers.get r).isSome),
      (1, (List.finRange 4).countP fun r => (p.hou.receptions.get r).isSome), (1, p.cnp.events.length),
      (1, p.cnp.overrun.toNat + 2 * p.cnp.collision.toNat + 4 * p.cnp.incomplete.toNat)]

/-- The READ-STATS body: the sixteen statistics in the order of R169. -/
def statsLayout (c : Stats) : List (Nat × Nat) :=
  [(4, c.receivedGood.toNat), (4, c.transmitted.toNat), (2, c.checkErrors.toNat), (2, c.overflowDrops.toNat),
   (2, c.transmitErrors.toNat), (2, c.staleConditions.toNat), (2, c.staleAcknowledgements.toNat),
   (2, c.duplicateAcknowledgements.toNat), (2, c.unmappedConditions.toNat), (2, c.tableOverflows.toNat),
   (2, c.conflictsYielded.toNat), (2, c.completedReleaser.toNat), (2, c.completedReceiver.toNat),
   (2, c.handoversFailed.toNat), (2, c.resyncsApplied.toNat), (2, c.changesMerged.toNat)]

/-! ## The sample tick (R54, R57) -/

/-- A key's record after one more sample, yes while the key is down, that completes no run (R54). -/
def keyCounted (x : KeyRecord) (down : Bool) : KeyRecord :=
  match x.state with
  | .unknown => { x with run := if x.run = 0 ∨ x.sample ≠ down then 1 else x.run + 1, sample := down }
  | .up => { x with run := if down = true then x.run + 1 else 0 }
  | .down => { x with run := if down = true then 0 else x.run + 1 }

/-- The edge or settling that a sample of key `k` completes, the fourth of its run, as the row that names it (R54, R55). -/
def keyEdge (k : Fin 4) (x : KeyRecord) (down : Bool) : Option Instr :=
  if (keyCounted x down).run < 4 then none
  else
    match x.state with
    | .unknown => some (.keyFirstSettling k down)
    | .up => [Instr.keySilencePress, .keyAcceptPress, .keyDeclinePress, .keyReliefPress][k.val]?
    | .down => some (.keyReleaseEdge k)

/-- An input's record after one more sample, yes for ACTIVE, that completes no run (R57). -/
def inputCounted (x : InputRecord) (active : Bool) : InputRecord :=
  match x.condition with
  | .unknown => { x with run := if x.run = 0 ∨ x.sample ≠ active then 1 else x.run + 1, sample := active }
  | .clear => { x with run := if active = true then x.run + 1 else 0 }
  | .active => { x with run := if active = true then 0 else x.run + 1 }

/-- The change or settling that a sample of used input `i` completes, the last of its run of 4, 10, 20 or 100, as the row
that names it (R56, R57). -/
def inputEdge (c : InputConfig) (i : Fin 8) (x : InputRecord) (active : Bool) : Option Instr :=
  if c.use = .unused ∨ (inputCounted x active).run < [4, 10, 20, 100].getD c.debounce.toNat 0 then none
  else
    match x.condition, c.use with
    | .unknown, _ => some (.inputFirstSettling i active)
    | _, .alarm => some (.alarmInputChange i)
    | .clear, _ => some (.tripInputActivation i)
    | .active, _ => some (.tripInputDeactivation i)

/-- The sample of input `i` by its polarity, yes for ACTIVE, its contact closed or open (R56, R57). -/
def contactActive (p : Part) (contacts : BitVec 8) (i : Fin 8) : Bool :=
  if (inputConfig p i).activeOpen = true then !contacts.getLsbD i.val else contacts.getLsbD i.val

/-- The edges that a tick's samples complete: the keys' by rising number, then, in STARTING, RUNNING and ISOLATED, the
inputs' (log 8). -/
def edgesDue (p : Part) (keys : BitVec 4) (contacts : BitVec 8) : List Instr :=
  (List.finRange 4).filterMap (fun k => keyEdge k (key p k) (keys.getLsbD k.val))
    ++ if listening p = true then
        (List.finRange 8).filterMap fun i => inputEdge (inputConfig p i) i (input p i) (contactActive p contacts i)
      else []

/-- The part once a tick has advanced the counters and counted every sample that completes no run; a record whose edge is
due is as it was, and so is an input that is not sampled (R49, R52, R54, R57, R82). -/
def sampled (p : Part) (keys : BitVec 4) (contacts : BitVec 8) : Part :=
  { p with
    ssu := { p.ssu with holdOff := p.ssu.holdOff - 1 },
    anu := { p.anu with
      cadence := (p.anu.cadence + 1) % 800, phase := (p.anu.phase + 1) % 400,
      keys := tabulate fun k =>
        if (keyEdge k (key p k) (keys.getLsbD k.val)).isSome then key p k
        else keyCounted (key p k) (keys.getLsbD k.val),
      inputs := tabulate fun i =>
        if listening p = false ∨ (inputConfig p i).use = .unused ∨
            (inputEdge (inputConfig p i) i (input p i) (contactActive p contacts i)).isSome then input p i
        else inputCounted (input p i) (contactActive p contacts i) } }

/-- The commands run one after another, each on the state that the one before it left. -/
def inTurn : List Instr → State → Host.Outcome State Fault Refusal
  | [], s => .next s
  | c :: cs, s =>
    match Machine.exec c s with
    | .next u => inTurn cs u
    | o => o

/-! ## Horn demands (R45, R48) -/

/-- The entry sounds for a level: ALERTING, so unshelved, and not quiet, in an annunciated area (R45). -/
def sounds (p : Part) (l : Level) (e : Entry) : Prop :=
  annunciated p e.area = true ∧ entryState e = some .alerting ∧ e.quiet = false ∧ levelOf e.priority = l

/-- Some entry of the table sounds for the level. -/
def demandStands (p : Part) (l : Level) : Prop := ∃ e ∈ p.atu.table, sounds p l e

/-- The tag's entry sounds for the level. -/
def tagSounds (p : Part) (t : Tag) (l : Level) : Prop := ∃ e, findEntry p t = some e ∧ sounds p l e

/-- One derivation of U and Rt: each is set afterwards exactly when it was set or is now raised, and an entry sounds for it
(R45, R48). T is as it was. -/
def demandsDerived (before after : Part) (raised : Level → Prop) : Prop :=
  (after.anu.urgent = true ↔ (before.anu.urgent = true ∨ raised .urgent) ∧ demandStands after .urgent) ∧
  (after.anu.routine = true ↔ (before.anu.routine = true ∨ raised .routine) ∧ demandStands after .routine) ∧
  after.anu.trip = before.anu.trip

/-! ## Digest summaries (R15, R42, R124, R136) -/

/-- The shelf that a summary from station `x` gives an entry of a priority in area `a` (R42). -/
def shelfTaken (p : Part) (x : StationNo) (a : Area) (y : Priority) (d : Summary) : Option Shelf :=
  if d.shelfSeconds = 0 ∨ y = .p1 ∨ (emergency p a = true ∧ p.stc.settings.keepShelves = false) then none
  else some { seconds := min 28800 d.shelfSeconds.toNat, credential := 0, station := x }

/-- The removal rule: no entry is left CLEAR, acknowledged and without a shelf (R15). -/
def unlessRemoved (e : Entry) : Option Entry :=
  if e.active = false ∧ e.acknowledged = true ∧ e.shelf = none then none else some e

/-- The entry of area `a` that a summary from station `x` creates (R124). -/
def createdBy (p : Part) (x : StationNo) (a : Area) (d : Summary) : Entry :=
  { tag := d.tag, area := a, priority := d.priority, occurrence := d.occurrence, active := d.active,
    acknowledged := d.acknowledged, ackCredential := none, quiet := false, shelf := shelfTaken p x a d.priority d,
    firstRaised :=
      if p.stc.seconds.toNat < d.age.toNat then 0 else BitVec.ofNat 32 (p.stc.seconds.toNat - d.age.toNat),
    lastChange := p.stc.seconds }

/-- What a merge of summary `d` leaves for its tag, mapped to area `a`, by the table of R124. -/
def mergeLeaves (p : Part) (x : StationNo) (a : Area) (d : Summary) : Option Entry → Option Entry
  | none => unlessRemoved (createdBy p x a d)
  | some e =>
    let n := (256 + d.occurrence.toNat - e.occurrence.toNat) % 256
    if n = 0 then
      let shelf := if e.shelf = none then shelfTaken p x e.area e.priority d else e.shelf
      let newly := d.acknowledged = true ∧ e.acknowledged = false
      unlessRemoved { e with
        acknowledged := e.acknowledged || d.acknowledged, quiet := if newly then false else e.quiet, shelf := shelf,
        lastChange := if newly ∨ shelf ≠ e.shelf then p.stc.seconds else e.lastChange }
    else if n ≤ 127 then unlessRemoved (createdBy p x e.area d)
    else some e

/-- What a replace by summary `d` leaves for its tag, mapped to area `a` (R136 step 2). -/
def replaceLeaves (p : Part) (x : StationNo) (a : Area) (d : Summary) : Option Entry → Option Entry
  | none => unlessRemoved (createdBy p x a d)
  | some e =>
    if e.occurrence = d.occurrence then
      let shelf := shelfTaken p x e.area d.priority d
      let stays := e.acknowledged = true ∧ d.acknowledged = true
      unlessRemoved { e with
        priority := d.priority, active := d.active, acknowledged := d.acknowledged, shelf := shelf,
        quiet := if stays then e.quiet else false, ackCredential := if stays then e.ackCredential else none,
        lastChange :=
          if d.priority ≠ e.priority ∨ d.active ≠ e.active ∨ d.acknowledged ≠ e.acknowledged ∨ e.shelf ≠ none
            ∨ shelf ≠ none then p.stc.seconds else e.lastChange }
    else unlessRemoved (createdBy p x e.area d)

/-- The summary carries the entry: what R115 takes from it, the shelf's seconds 0 without a shelf, the age at most 65,535. -/
def carries (p : Part) (e : Entry) (d : Summary) : Prop :=
  d.tag = e.tag ∧ d.occurrence = e.occurrence ∧ d.priority = e.priority ∧ d.active = e.active ∧
    d.acknowledged = e.acknowledged ∧ d.shelfSeconds = BitVec.ofNat 16 ((e.shelf.map Shelf.seconds).getD 0) ∧
    d.age.toNat = min 65535 (p.stc.seconds - e.firstRaised).toNat

/-- The summaries latched from area `a` now: one for each entry of it, in presentation order (R19, R115). -/
def latched (p : Part) (a : Area) (ds : List Summary) : Prop :=
  ∃ es : List Entry, es.Perm (p.atu.table.filter fun e => decide (e.area = a)) ∧
    es.Pairwise (fun x y => priorityNumber x.priority < priorityNumber y.priority ∨
      (priorityNumber x.priority = priorityNumber y.priority ∧ (x.firstRaised.toNat < y.firstRaised.toNat ∨
        (x.firstRaised = y.firstRaised ∧ x.tag.toNat ≤ y.tag.toNat)))) ∧
    List.Forall₂ (carries p) es ds

/-! ## Load and overflow (R18, R64) -/

/-- The flood state of area `a` after its figure has risen or stayed: FLOOD if it was, or if the figure is T_on or more
(R64). -/
def floodRisen (before after : Part) (a : Area) : Prop :=
  inFlood after a = (inFlood before a || decide (before.stc.settings.floodOn ≤ (loadOf after a).toNat))

/-- CNP with FLOOD-ON stored when area `a` has gone from CALM to FLOOD, else as it was (R64). -/
def floodStored (before after : Part) (a : Area) : Cnp :=
  if inFlood before a = false ∧ inFlood after a = true
  then before.cnp.storing before.stc.seconds { kind := .floodOn, area := some a } else before.cnp

/-- A removal that leaves 448 entries or fewer has cleared every overflow indicator; else they are as they were (R18). -/
def indicatorsFollow (before after : Part) : Prop :=
  after.atu.overflow =
    if after.atu.table.length < before.atu.table.length ∧ after.atu.table.length ≤ 448 then 0 else before.atu.overflow

/-! ## Beacons and holdings (R98, R103, R133) -/

/-- The held areas numbered F or above, in area order (R98). -/
def areasToList (p : Part) : List Area := (List.finRange 16).filter fun a => holds p a && decide (p.aru.first ≤ a)

/-- The content describes the station as it stands (R98). -/
def beaconDescribes (p : Part) (c : BeaconContent) : Prop :=
  c.state = .running ∧ c.period = p.stc.settings.periodCode ∧ c.first = p.aru.first ∧
    c.credential = (p.ssu.session.map Session.credential).getD 0 ∧
    (c.complete = true ↔ (areasToList p).length ≤ 10) ∧ c.items.map BeaconItem.area = (areasToList p).take 10 ∧
    ∀ i ∈ c.items, i.attended = p.ssu.session.isSome ∧ i.emergency = (view p i.area).emergency ∧
      i.flood = inFlood p i.area ∧ i.count = BitVec.ofNat 16 (areaCount p i.area) ∧
      i.signature = areaSignature p i.area ∧ i.load = loadOf p i.area

/-- The view names no holder, and the holder's fields are cleared: its flags no, its figures 0, its period 1 s, its age 0
(R92). -/
def holderCleared (v : View) : Prop :=
  v.holder = 0 ∧ v.attended = false ∧ v.holderEmergency = false ∧ v.holderFlood = false ∧ v.holderCount = 0 ∧
    v.holderSignature = 0 ∧ v.holderLoad = 0 ∧ v.holderPeriod = 0 ∧ v.age = 0

/-- Every event stored is a CLAIMED (R103). -/
def onlyClaims (before after : Part) : Prop :=
  ∃ es : List Event, after.cnp.events = before.cnp.events ++ es ∧ ∀ e ∈ es, e.kind = .claimed

/-- The area is one that the station claims as soon as it is RUNNING (R103). -/
def claimable (p : Part) (a : Area) : Bool :=
  decide ((view p a).holder = 0) && !holds p a && !(view p a).relinquished && mayHold p a
    && (inHome p a || (inStandby p a && decide ((view p a).claimDelay = 0))) && (receptionFor p a).isNone

/-- OFFER-CLOSED for an offer record, with a reason. -/
def offerClosedEvent (time : Seconds) (why : Reason) (o : Offer) : Event :=
  { kind := .offerClosed, time := time, area := some o.area, station := some o.target, reason := some why }

/-- What an answer item is for: its refusal's reason, or a WITHDRAW, with area, addressee and handover number (R117). -/
def AnswerItem.subject (i : AnswerItem) : Option ReplyReason × Area × StationNo × Byte :=
  (i.refusal, i.area, i.addressee, i.number)

/-- What the WITHDRAW of an offer record is for (R131, R133). -/
def withdrawOf (o : Offer) : Option ReplyReason × Area × StationNo × Byte := (none, o.area, o.target, o.number)

/-- The HANDOVER offer records that the end of the session frees, by record number (R133, log 45). -/
def sessionOffers (p : Part) : List Offer :=
  (List.finRange 4).filterMap fun r =>
    (p.hou.offers.get r).filter fun o => decide (o.kind = .handover) && decide (o.state ≠ .releasing)

/-- The offer records left after a session end, and what the freeing of the others counts, stores and lists: each HANDOVER
record's *handovers failed*, OFFER-CLOSED (SESSION) and, while the answer list holds fewer than 4, WITHDRAW (R117, R133). -/
def sessionOffersFreed (before after : Part) (ended : Event) : Prop :=
  (∀ r o, before.hou.offers.get r = some o → (after.hou.offers.get r = none ↔ o.state ≠ .releasing)) ∧
    after.cnp.stats.handoversFailed = before.cnp.stats.handoversFailed + BitVec.ofNat 16 (sessionOffers before).length ∧
    (before.cnp.events.length + 1 + (sessionOffers before).length ≤ 64 →
      after.cnp.events = before.cnp.events
        ++ ended :: (sessionOffers before).map (offerClosedEvent before.stc.seconds .session)) ∧
    (before.hou.answers.length ≤ 4 → after.hou.answers.map AnswerItem.subject =
      (before.hou.answers.map AnswerItem.subject ++ (sessionOffers before).map withdrawOf).take 4)

/-! ## LIF -/

/-- `after` is `before` with the telegram WAITING in a slot that was free, behind those of its class (R153). -/
def Lif.placed (before after : Lif) (o : Owner) (t : Telegram) : Prop :=
  ∃ k, before.slots.get k = none ∧
    after = { before with
      slots := setAt before.slots k
        (some { telegram := t, owner := o, order := before.nextOrder, state := .waiting, final := false }),
      nextOrder := before.nextOrder + 1 }

/-- A slot of `after` that was free in `before` holds the telegram WAITING, and every other slot is as it was. -/
def Lif.enqueued (before after : Lif) (o : Owner) (t : Telegram) : Prop :=
  ∃ k n, before.slots.get k = none ∧
    after.slots = setAt before.slots k
      (some { telegram := t, owner := o, order := n, state := .waiting, final := false })

/-- LIF once the oldest item of the ring, of `n` bytes, has been taken: the read position is past it (R151). -/
def Lif.taken (l : Lif) (n : Nat) : Lif :=
  { l with ring := l.ring.drop 1, readPos := (l.readPos + n) % 1024 }

/-- The read position stands at telegram `t`, and the part takes telegrams (R149, R151). -/
def nextTelegram (p : Part) (t : Telegram) : Prop := listening p = true ∧ p.lif.ring.head? = some (.telegram t)

/-- The read position stands at the completion mark of slot `k`, which holds `x`, sent to its end (R152). -/
def nextMark (p : Part) (k : Fin 12) (x : Slot) : Prop :=
  listening p = true ∧ p.lif.ring.head? = some (.mark k) ∧ p.lif.slots.get k = some x ∧ x.state = .complete

/-- The records and answer items once the mark of owner `o`'s telegram is `m`, or its item's state `i`; any other owner has
its mark elsewhere (R112, R113, R117). -/
def Hou.marked (h : Hou) (o : Owner) (m : TxMark) (i : AnswerState) : Hou :=
  match o with
  | .offer r n =>
    { h with offers := tabulate fun q =>
        (h.offers.get q).map fun x => if q = r ∧ x.serial = n then { x with mark := m } else x }
  | .reply r n =>
    { h with receptions := tabulate fun q =>
        (h.receptions.get q).map fun x => if q = r ∧ x.serial = n then { x with mark := m } else x }
  | .answer n => { h with answers := h.answers.map fun x => if x.serial = n then { x with state := i } else x }
  | _ => h

/-- Nothing waits for a slot: no owner on the waiting list, no LOGIN owed. -/
def noneWaiting (p : Part) : Prop := p.lif.waiting = [] ∧ ∀ x, p.ssu.session = some x → x.mark ≠ .owed

/-- LIF once the completion mark of slot `k` has been taken and nothing waited for the slot: the slot free, the read
position 4 bytes on (R152). -/
def Lif.freed (l : Lif) (k : Fin 12) : Lif := { l.taken 4 with slots := setAt l.slots k none }

/-! ## Invariants -/

/-- The event queue holds at most 64 records (R167). -/
def EventsFine (p : Part) : Prop := p.cnp.events.length ≤ 64

/-- Tags strictly rise: at most one entry per tag, kept by tag (R6). -/
def TagsRise : List Entry → Prop
  | [] => True
  | e :: es => (∀ x ∈ es, e.tag.toNat < x.tag.toNat) ∧ TagsRise es

/-- What the manual says of every entry of the table: unshelved, never CLEAR and acknowledged (R15); at priority 1, no
shelf (R12); urgent or acknowledged, not quiet (R14); an acknowledging credential only while acknowledged, shelf seconds
1..28,800 (R6). -/
def EntryFine (e : Entry) : Prop :=
  (e.shelf = none → ¬(e.active = false ∧ e.acknowledged = true)) ∧ (e.priority = .p1 → e.shelf = none) ∧
    (levelOf e.priority = .urgent → e.quiet = false) ∧ (e.acknowledged = true → e.quiet = false) ∧
    (e.ackCredential.isSome = true → e.acknowledged = true) ∧
    (∀ x, e.shelf = some x → 1 ≤ x.seconds ∧ x.seconds ≤ 28800)

/-- The alarm table as the manual keeps it (R6, R12, R14, R15). -/
def TableFine (p : Part) : Prop :=
  p.atu.table.length ≤ 512 ∧ TagsRise p.atu.table ∧ ∀ e ∈ p.atu.table, EntryFine e

/-- The follow set bounds the table: an entry's area is the one its tag is mapped to, and is followed (R3, R6); an area that
is not followed has no overflow indicator, no figure and no flood (R5, R67); while a reset is in progress the table is empty
and every area at rest (R22, R61). -/
def FollowFine (p : Part) : Prop :=
  (∀ e ∈ p.atu.table, tagArea p e.tag = some e.area ∧ followed p e.area = true) ∧
    (∀ a, followed p a = false → AreaSet.has p.atu.overflow a = false ∧ loadOf p a = 0 ∧ inFlood p a = false) ∧
    (p.stc.station = none → p.atu.table = [] ∧ p.atu.overflow = 0 ∧ ∀ a, loadOf p a = 0 ∧ inFlood p a = false)

/-- The digest store reserves no more than its 512 summaries (R114). -/
def StoreFine (p : Part) : Prop := storeReserved p ≤ 512

/-- No record of either kind, in either direction, exists for an area in EMERGENCY (R132). -/
def EmergencyFine (p : Part) : Prop :=
  ∀ a, emergency p a = true → offerFor p a = none ∧ receptionFor p a = none

/-- The flood judgement of every area: CALM below T_on, FLOOD above T_off, T_off below T_on; while a reset is in progress
every figure is 0 and every area CALM (R61, R62, R64). -/
def FloodFine (p : Part) : Prop :=
  p.stc.settings.floodOff < p.stc.settings.floodOn ∧
    (∀ a, if inFlood p a = true then p.stc.settings.floodOff < (loadOf p a).toNat
      else (loadOf p a).toNat < p.stc.settings.floodOn) ∧
    (p.stc.station = none → ∀ a, loadOf p a = 0 ∧ inFlood p a = false)

/-- A held area's view names no holder (R92). -/
def HolderFine (p : Part) : Prop := ∀ a, holds p a = true → (view p a).holder = 0

/-- The role of an area by the first line of R94 that matches; none while a reset is in progress. -/
def roleByTable (p : Part) (a : Area) : Role :=
  if listening p = false then .none
  else if holds p a = true then .hold
  else if (inHome p a = true ∨ inStandby p a = true) ∧ (view p a).relinquished = false ∧
      ((view p a).holder = 0 ∨ (view p a).attended = false) then .cover
  else if inHome p a = true ∨ inStandby p a = true ∨ inWatch p a = true ∨ receptionFor p a ≠ none then .watch
  else .none

/-- Every area has the role of R94. -/
def RoleFine (p : Part) : Prop := ∀ a, (view p a).role = roleByTable p a

/-- The horn state is that of the demands, and the counters stand in their ranges (R49, R52). -/
def PanelFine (p : Part) : Prop :=
  p.anu.horn = hornOf p.anu.urgent p.anu.routine p.anu.trip ∧ p.anu.cadence < 800 ∧ p.anu.phase < 400

end Sys2Proof.Machine
end

