-- ==== Sys2Proof/Certificates/Slice0/Obligations.lean ====
section
/-! DEFINITION. The statements put to the provers. Each says what the manual's rules make a command do; the rules are cited in OBLIGATIONS.json. -/

open Sys2Proof Sys2Proof.Machine

/-! ## The machine -/

/-- The step takes the command at the front of the queue and runs it with the queue's rest. -/
def Obligations.StepRunsFrontCommand : Prop :=
  ∀ (c : Instr) (rest : List Instr) (p : Part),
    step { part := p, pending := c :: rest } = Machine.exec c { part := p, pending := rest }

/-- Every command completes in every state, also one whose event cannot come about there (THE MODEL'S CHOICE, log 1: it
then changes nothing), and none touches the queue of the commands that wait (that a reset leaves the queue standing is the
model's choice, log 36). -/
def Obligations.EveryCommandCompletesAndKeepsQueue : Prop :=
  ∀ (c : Instr) (s : State), ∃ u, Machine.exec c s = .next u ∧ u.pending = s.pending

/-- THE MODEL'S CHOICE (logs 2, 12 and 19): with no command waiting the machine takes one 1 s tick. In STARTING, RUNNING
and ISOLATED the seconds advance, wrapping at 32 bits, every count is lowered, its last second and an age's last step left
to the command of its expiry, and each count that runs out puts its own command in the queue, and nothing else does. Claims
are judged on the tick: they change no other count than the resync of the area gained. In UNCONFIGURED the seconds alone
advance; while a reset is in progress nothing happens. -/
def Obligations.IdleStepIsOneSecondTick : Prop :=
  ∀ (p : Part),
    let lowered (n : Nat) : Nat := if 1 < n then n - 1 else n
    let past (age : Nat) (period : PeriodCode) : Bool := decide (3 * 2 ^ period.toNat < age + 1)
    (listening p = true → ∃ u, step { part := p, pending := [] } = .next u ∧
      u.part.stc = { p.stc with
        seconds := p.stc.seconds + 1,
        settle := if starting p = true then lowered p.stc.settle else p.stc.settle,
        isolation := if isolated p = true then lowered p.stc.isolation else p.stc.isolation } ∧
      u.part.atu = { p.atu with table := p.atu.table.map fun e =>
        { e with shelf := e.shelf.map fun x => { x with seconds := lowered x.seconds } } } ∧
      u.part.ldm = p.ldm ∧
      u.part.ssu = { p.ssu with window := if p.ssu.armed = true then lowered p.ssu.window else p.ssu.window } ∧
      u.part.aru.stations = p.aru.stations.map (fun h =>
        { h with age := if past h.age h.period = true then h.age else h.age + 1 }) ∧
      u.part.aru.schedule = (if running p = true then lowered p.aru.schedule else p.aru.schedule) ∧
      u.part.aru.graceRunning = p.aru.graceRunning ∧
      u.part.aru.grace = (if p.aru.graceRunning = true then lowered p.aru.grace else p.aru.grace) ∧
      (∀ a,
        ((view p a).holder ≠ 0 → (view u.part a).holder = (view p a).holder ∧
          (view u.part a).age =
            if past (view p a).age (view p a).holderPeriod = true then (view p a).age else (view p a).age + 1) ∧
        (view u.part a).claimDelay =
          (if orphaned p a = true then lowered (view p a).claimDelay else (view p a).claimDelay) ∧
        (holds u.part a = holds p a → (view u.part a).resync = (view p a).resync - 1)) ∧
      u.part.hou = { p.hou with
        offers := tabulate fun r => (p.hou.offers.get r).map fun o =>
          { o with replyTimer := if o.state = .offered then lowered o.replyTimer else o.replyTimer },
        receptions := tabulate fun r => (p.hou.receptions.get r).map fun x =>
          { x with
            gap := if x.state = .receiving then lowered x.gap else x.gap,
            timer := if x.state = .accepted ∨ (x.state = .review ∧ x.mark = .none) then lowered x.timer else x.timer },
        answers := p.hou.answers.map fun x =>
          { x with gap := if x.state = .waitingEnd then lowered x.gap else x.gap } } ∧
      (∀ t, Instr.shelfExpiry t ∈ u.pending ↔
        ∃ e ∈ p.atu.table, e.tag = t ∧ ∃ x, e.shelf = some x ∧ x.seconds ≤ 1) ∧
      (Instr.meteringTick ∈ u.pending ↔ (p.stc.seconds + 1).toNat % 10 = 0 ∧ p.stc.seconds + 1 ≠ 0) ∧
      (Instr.reliefWindowExpiry ∈ u.pending ↔ p.ssu.armed = true ∧ p.ssu.window ≤ 1) ∧
      (Instr.graceExpiry ∈ u.pending ↔ p.aru.graceRunning = true ∧ p.aru.grace ≤ 1) ∧
      (∀ x, Instr.stationUnheard x ∈ u.pending ↔
        ∃ h ∈ p.aru.stations, h.station = x ∧ past h.age h.period = true) ∧
      (∀ a, Instr.holderAged a ∈ u.pending ↔
        (view p a).holder ≠ 0 ∧ past (view p a).age (view p a).holderPeriod = true) ∧
      (∀ a, Instr.claimDelayRun a ∈ u.pending ↔ orphaned p a = true ∧ (view p a).claimDelay = 1) ∧
      (Instr.beaconScheduleDue ∈ u.pending ↔ running p = true ∧ p.aru.schedule = 1) ∧
      (∀ r, Instr.gapTimeout r ∈ u.pending ↔
        ∃ x, p.hou.receptions.get r = some x ∧ x.state = .receiving ∧ x.gap ≤ 1) ∧
      (∀ r, Instr.reviewTimeout r ∈ u.pending ↔
        ∃ x, p.hou.receptions.get r = some x ∧ x.kind = .handover ∧ x.state = .review ∧ x.mark = .none ∧ x.timer ≤ 1) ∧
      (∀ r, Instr.releaseTimeout r ∈ u.pending ↔
        ∃ x, p.hou.receptions.get r = some x ∧ x.state = .accepted ∧ x.timer ≤ 1) ∧
      (∀ r, Instr.replyTimeout r ∈ u.pending ↔
        ∃ o, p.hou.offers.get r = some o ∧ o.state = .offered ∧ o.replyTimer ≤ 1) ∧
      (∀ i : Fin 4, Instr.answerGapExpiry i ∈ u.pending ↔
        ∃ x, p.hou.answers[i.val]? = some x ∧ x.state = .waitingEnd ∧ x.gap ≤ 1) ∧
      (Instr.settleEnd ∈ u.pending ↔ starting p = true ∧ p.stc.settle ≤ 1) ∧
      (Instr.isolationEnd ∈ u.pending ↔ isolated p = true ∧ p.stc.isolation ≤ 1) ∧
      (∀ c ∈ u.pending, c ∈ [Instr.meteringTick, .reliefWindowExpiry, .graceExpiry, .beaconScheduleDue, .settleEnd,
          .isolationEnd] ∨ (∃ t, c = .shelfExpiry t) ∨ (∃ x, c = .stationUnheard x) ∨ (∃ a, c = .holderAged a) ∨
        (∃ a, c = .claimDelayRun a) ∨ (∃ r, c = .gapTimeout r) ∨ (∃ r, c = .reviewTimeout r) ∨
        (∃ r, c = .releaseTimeout r) ∨ (∃ r, c = .replyTimeout r) ∨ (∃ i, c = .answerGapExpiry i))) ∧
    (unconfigured p = true →
      step { part := p, pending := [] } =
        .next { part := { p with stc := { p.stc with seconds := p.stc.seconds + 1 } }, pending := [] }) ∧
    (p.stc.station = none → step { part := p, pending := [] } = .next { part := p, pending := [] })

/-! ## Chapter 11: resets, the image, the station states -/

/-- POWER_ON_RESET with a strap value of 1..62: every block at its after-reset values, the statistics clear, the
straps latched, no station state; with 0 or 63 the station is UNCONFIGURED with fault STRAPS and that one event.
CONSOLE_RESET, and RESTART when the port takes it: the same as a power-on reset, but the cause is CONSOLE and the
statistics are kept; a console reset while a power-on reset is in progress leaves the cause POWER-ON and clears the
statistics. The model's choices: RESTART latches the straps' level of the last reset, which State holds (log 38); the
after-reset values in which the manual gives none, of stopped counts and ring positions (log 15), of the settings before an
image (log 21) and of the bytes last driven (log 24). -/
def Obligations.ResetsRestoreEveryBlock : Prop :=
  (∀ (s : State) (x : StationNo),
    Machine.exec (.powerOnReset x) s = .next (s.withPart
      (if x = 0 ∨ x = 63 then
        { stc := { strapPins := x, number := x, cause := .powerOn, station := some .unconfigured, fault := some .straps },
          cnp := { events := [{ kind := .stationState, state := some .unconfigured, reason := some .straps }] } }
      else { stc := { strapPins := x, number := x, cause := .powerOn } }))) ∧
  ((∀ (s : State) (x : StationNo), x ≠ 0 → x ≠ 63 →
    ∃ u, Machine.exec (.consoleReset x) s = .next u ∧ u.pending = s.pending ∧
      u.part = (if s.part.stc.station = none ∧ s.part.stc.cause = .powerOn
        then { stc := { strapPins := x, number := x, cause := .powerOn } }
        else { stc := { strapPins := x, number := x, cause := .console }, cnp := { stats := s.part.cnp.stats } })) ∧
  (∀ (s : State) (c : Instr) (x : StationNo), x = 0 ∨ x = 63 →
    (c = .consoleReset x ∨ (c = .restart (Frame.of []) ∧ portOpen s.part = true ∧ s.part.stc.strapPins = x)) →
    ∃ u, Machine.exec c s = .next u ∧ u.part.stc.station = some .unconfigured ∧
      u.part.stc.fault = some .straps ∧ u.part.stc.number = x ∧
      u.part.cnp.events = [{ kind := .stationState, state := some .unconfigured, reason := some .straps }]) ∧
  (∀ (s : State), portOpen s.part = true → s.part.stc.strapPins ≠ 0 → s.part.stc.strapPins ≠ 63 →
    Machine.exec (.restart (Frame.of [])) s = .next (s.withPart
      { stc := { strapPins := s.part.stc.strapPins, number := s.part.stc.strapPins, cause := .console },
        cnp := { stats := s.part.cnp.stats } })))

/-- What reset leaves, of the values that the manual gives; the invariants of the statements about steps hold there.
The model's choices in it: no station state, the image read still to end (log 3), and the settings of no image, of
which the flood judgement's thresholds are two (log 21). -/
def Obligations.ResetLeavesAfterResetValues : Prop :=
  let p := State.reset.part
  State.reset.pending = [] ∧ p.stc.station = none ∧ p.stc.cause = .powerOn ∧ p.stc.seconds = 0 ∧
  p.atu.table = [] ∧ p.atu.overflow = 0 ∧ (∀ a, loadOf p a = 0 ∧ inFlood p a = false) ∧
  p.anu.horn = .silent ∧ p.anu.urgent = false ∧ p.anu.routine = false ∧ p.anu.trip = false ∧ p.anu.phase = 0 ∧
  (∀ k, (key p k).state = .unknown ∧ (key p k).run = 0) ∧
  (∀ i, (input p i).condition = .unknown ∧ (input p i).publication = .unseeded ∧ (input p i).published = false ∧
    (input p i).publishedOccurrence = 0 ∧ (input p i).unpublished = 0 ∧ (input p i).trip = .idle) ∧
  p.ssu.session = none ∧ p.ssu.armed = false ∧ p.aru.stations = [] ∧ p.aru.graceRunning = false ∧
  (∀ a, (view p a).holder = 0 ∧ (view p a).mismatch = 0 ∧ (view p a).syncMark = .none ∧ (view p a).resync = 0 ∧
    (view p a).startup = false ∧ (view p a).relinquished = false ∧ (view p a).emergency = false ∧ holds p a = false) ∧
  (∀ r, p.hou.offers.get r = none ∧ p.hou.receptions.get r = none) ∧ p.hou.answers = [] ∧ p.hou.counter = 0 ∧
  (∀ k, p.lif.slots.get k = none) ∧ p.lif.ring = [] ∧ p.lif.errors = 0 ∧
  p.cnp.events = [] ∧ p.cnp.overrun = false ∧ p.cnp.collision = false ∧ p.cnp.incomplete = false ∧
  p.cnp.response = none ∧ p.cnp.outstanding = none ∧ p.cnp.stats = {} ∧
  EventsFine p ∧ TableFine p ∧ FollowFine p ∧ StoreFine p ∧ EmergencyFine p ∧ FloodFine p ∧ HolderFine p ∧ RoleFine p ∧
  PanelFine p

/-- IMAGE_READ_COMPLETE of an image that fails R171: the station is UNCONFIGURED with the first fault found (a read of
fewer than 738 bytes is ABSENT, log 5), the settings stay those of no image, the one event is stored, and no other
block but ANU, which derives afresh, is touched. Of an accepted image: the station is STARTING on the validated
settings with a settle count of 3P, every claim delay stands at 3P, and STATION-STATE is the last event. -/
def Obligations.ImageIsJudgedAtItsEnd : Prop :=
  (∀ (s : State) (ok : Bool) (b : List Byte) (fault : ConfigFault) (reason : Reason), s.part.stc.station = none →
    ((fault = .absent ∧ reason = .absent ∧ (ok = false ∨ b.length < 738)) ∨
     (ok = true ∧ 738 ≤ b.length ∧
      ((fault = .marker ∧ reason = .marker ∧ (imageByte b 0 ≠ 0x43 ∨ imageByte b 1 ≠ 0x37)) ∨
       (imageByte b 0 = 0x43 ∧ imageByte b 1 = 0x37 ∧
        ((fault = .version ∧ reason = .version ∧ imageByte b 2 ≠ 1) ∨
         (imageByte b 2 = 1 ∧ fault = .crc ∧ reason = .crc ∧ crc16 (b.take 736) ≠ imageWord b 736)))))) →
    ∃ u, Machine.exec (.imageReadComplete ok b) s = .next u ∧
      u = s.withPart { s.part with
        stc := { s.part.stc with station := some .unconfigured, fault := some fault }, anu := u.part.anu,
        cnp := s.part.cnp.storing s.part.stc.seconds
          { kind := .stationState, state := some .unconfigured, reason := some reason } }) ∧
  (∀ (s : State) (b : List Byte), s.part.stc.station = none → 738 ≤ b.length → imageByte b 0 = 0x43 →
    imageByte b 1 = 0x37 → imageByte b 2 = 1 → crc16 (b.take 736) = imageWord b 736 →
    ∃ u, Machine.exec (.imageReadComplete true b) s = .next u ∧ u.pending = s.pending ∧
      u.part.stc = { s.part.stc with
        settings := validatedImage b, station := some .starting, fault := none, isolation := 0,
        settle := 3 * 2 ^ (validatedImage b).periodCode.toNat } ∧
      (∀ a, (view u.part a).claimDelay = 3 * 2 ^ (validatedImage b).periodCode.toNat) ∧
      (s.part.cnp.events.length < 64 → ∃ reason : Reason,
        (s.part.stc.cause = .powerOn → reason = .powerOn) ∧ (s.part.stc.cause = .console → reason = .console) ∧
        u.part.cnp.events.getLast? =
          some { kind := .stationState, time := s.part.stc.seconds, state := some .starting, reason := some reason }))

/-- Each setting is the image's field at its offset of section 12.3, kept as read where it lies in the range of R62 or R172
and else clamped as they say, so that T_off is below T_on; the three area sets are disjoint (R172). The tag windows: each
record is as read, and enabled exactly when its size code, its area, its start and its alignment pass and no enabled window
of lower number covers a tag of it, so that at most one enabled window covers any tag (R1, R2, R3). The operator table: each
record is as read, with its role, its class of 3 at most and its shelve and hold rights reduced to areas of its ack rights,
and enabled exactly when its credential is not 0 and no enabled record of lower number carries it (R76, R77). The contact
inputs: each record is as read, UNUSED where R56 has it so. -/
def Obligations.ValidatedConfigurationIsInRange : Prop :=
  (∀ (b : List Byte),
    let c := validatedImage b
    (30 ≤ c.window ∧ c.window ≤ 600) ∧ (30 ≤ c.reliefWindow ∧ c.reliefWindow ≤ 300) ∧ (60 ≤ c.grace ∧ c.grace ≤ 900) ∧
    (1 ≤ c.maxShelve ∧ c.maxShelve ≤ 480) ∧ (3 ≤ c.decayShift ∧ c.decayShift ≤ 12) ∧ c.floodOff < c.floodOn ∧
    (∀ a, (c.required.get a).toNat ≤ 3) ∧
    (∀ a, AreaSet.has c.standby a = true → AreaSet.has c.home a = false) ∧
    (∀ a, AreaSet.has c.watch a = true → AreaSet.has c.home a = false ∧ AreaSet.has c.standby a = false) ∧
    c.windows = imageWindows b ∧ c.operators = imageOperators b ∧
    let at1 (i : Nat) : Nat := (imageByte b i).toNat
    let at2 (i : Nat) : Nat := twoBytes (imageByte b i) (imageByte b (i + 1))
    let within (default lo hi x : Nat) : Nat := if x = 0 then default else if x < lo then lo else if hi < x then hi else x
    c.periodCode.toNat = (if 3 < at1 3 then 0 else at1 3) ∧ c.window = within 180 30 600 (at2 4) ∧
    c.reliefWindow = within 120 30 300 (at2 6) ∧ c.grace = within 300 60 900 (at2 8) ∧
    c.maxShelve = within 60 1 480 (at2 10) ∧
    c.w1.toNat = at1 12 ∧ c.w2.toNat = at1 13 ∧ c.w3.toNat = at1 14 ∧ c.w4.toNat = at1 15 ∧
    c.decayShift = (if at1 16 < 3 then 3 else if 12 < at1 16 then 12 else at1 16) ∧ c.floodOn = max 1 (at2 17) ∧
    c.floodOff = (if c.floodOn ≤ at2 19 then c.floodOn / 2 else at2 19) ∧ c.handoverCeiling = at2 21 ∧
    c.stationCeiling = at2 23 ∧ (c.keepShelves = true ↔ at1 25 ≠ 0) ∧
    (∀ a : Area,
      (AreaSet.has c.home a = true ↔ (at2 26).testBit a.val = true) ∧
      (AreaSet.has c.standby a = true ↔ (at2 28).testBit a.val = true ∧ AreaSet.has c.home a = false) ∧
      (AreaSet.has c.watch a = true ↔
        (at2 30).testBit a.val = true ∧ AreaSet.has c.home a = false ∧ AreaSet.has c.standby a = false) ∧
      (c.required.get a).toNat = min 3 (at1 (32 + a.val))) ∧
    (∀ i : Fin 8,
      let x := c.inputs.get i
      let use := at1 (704 + 4 * i.val) % 4
      let word := at2 (705 + 4 * i.val)
      x.tag.toNat = word % 4096 ∧ priorityNumber x.priority = word / 4096 % 4 + 1 ∧
      x.tripArea.toNat = at1 (707 + 4 * i.val) ∧ (x.activeOpen = true ↔ (at1 (704 + 4 * i.val)).testBit 2 = true) ∧
      x.debounce.toNat = at1 (704 + 4 * i.val) / 16 % 4 ∧
      (x.use = .alarm ↔ use = 1 ∧ ∃ a, mapTag c.windows x.tag = some a) ∧
      (x.use = .trip ↔ use = 2 ∧ x.tripArea.toNat ≤ 15))) ∧
  (∀ (b : List Byte) (n : Fin 32),
    let w := (imageWindows b).get n
    let size := 2 ^ (w.size.toNat + 3)
    w.area = imageByte b (48 + 4 * n.val) ∧
    w.start.toNat = twoBytes (imageByte b (49 + 4 * n.val)) (imageByte b (50 + 4 * n.val)) ∧
    w.size = imageByte b (51 + 4 * n.val) ∧
    (w.enabled = true ↔ 1 ≤ w.size.toNat ∧ w.size.toNat ≤ 6 ∧ w.start.toNat ≤ 4095 ∧ w.area.toNat ≤ 15 ∧
      w.start.toNat % size = 0 ∧
      ∀ m, m < n →
        let v := (imageWindows b).get m
        v.enabled = true → v.start.toNat + 2 ^ (v.size.toNat + 3) ≤ w.start.toNat ∨ w.start.toNat + size ≤ v.start.toNat) ∧
    (w.enabled = true → w.start.toNat + size ≤ 4096 ∧
      ∀ (m : Fin 32) (t : Nat), ((imageWindows b).get m).enabled = true → windowCovers w t = true →
        windowCovers ((imageWindows b).get m) t = true → n = m)) ∧
  (∀ (b : List Byte) (n : Fin 48),
    let o := (imageOperators b).get n
    let at1 (i : Nat) : Nat := (imageByte b (176 + 11 * n.val + i)).toNat
    let at2 (i : Nat) : Nat := twoBytes (imageByte b (176 + 11 * n.val + i)) (imageByte b (176 + 11 * n.val + i + 1))
    o.credential.toNat = 65536 * at1 0 + at2 1 ∧
    (o.role = .lead ↔ at1 3 = 1) ∧ (o.role = .supervisor ↔ at1 3 = 2) ∧ o.cls.toNat = min 3 (at1 4) ∧
    (∀ a : Area,
      (AreaSet.has o.ackAreas a = true ↔ (at2 5).testBit a.val = true) ∧
      (AreaSet.has o.shelveAreas a = true ↔ (at2 7).testBit a.val = true ∧ AreaSet.has o.ackAreas a = true) ∧
      (AreaSet.has o.holdAreas a = true ↔ (at2 9).testBit a.val = true ∧ AreaSet.has o.ackAreas a = true)) ∧
    (o.enabled = true ↔ o.credential ≠ 0 ∧
      ∀ m, m < n → ((imageOperators b).get m).enabled = true → ((imageOperators b).get m).credential ≠ o.credential))

/-- SETTLE_END in STARTING with one second of settle left: the station is RUNNING, the start-up requests are cleared,
the beacon schedule stands at P, and STATION-STATE (RUNNING) is the last event. The areas that R103 lets it claim are held,
each with CLAIMED, in area order, and no other is gained. An ALARM input that has settled takes the published pair of its
tag's entry, where there is one, and is SETTLED when that agrees; else, while a slot is left, its CONDITION is queued and it is
IN-FLIGHT, and with none it is WAITING (R58). A PENDING TRIP input's TRIP is queued while a slot is left (R60, R174 steps 1
and 2). ISOLATION_END in ISOLATED with one
second of the timer left: the station is STARTING on a fresh settle of 3P, with its configuration and its emergency
states as they were, and STATION-STATE (STARTING, ISOLATION-END) is the last event. The last second of a count is left
to its command (log 19). -/
def Obligations.SettleAndIsolationEnd : Prop :=
  (∀ (s : State), starting s.part = true → s.part.stc.settle ≤ 1 →
    ∃ u, Machine.exec .settleEnd s = .next u ∧ u.pending = s.pending ∧
      u.part.stc = { s.part.stc with station := some .running, settle := 0 } ∧
      u.part.aru.schedule = 2 ^ s.part.stc.settings.periodCode.toNat ∧
      (∀ a, (view u.part a).startup = false) ∧
      (u.part.cnp.events.length < 64 →
        u.part.cnp.events.getLast? =
          some { kind := .stationState, time := s.part.stc.seconds, state := some .running }) ∧
      (∀ a, holds u.part a = (holds s.part a || claimable s.part a)) ∧
      (let claims := (List.finRange 16).filter (claimable s.part)
       s.part.cnp.events.length + claims.length < 64 →
        u.part.cnp.events = s.part.cnp.events
          ++ claims.map (fun a => { kind := .claimed, time := s.part.stc.seconds, area := some a })
          ++ [{ kind := .stationState, time := s.part.stc.seconds, state := some .running }]) ∧
      (∀ i,
        let x := input s.part i
        let y := input u.part i
        let c := inputConfig s.part i
        let sent (z : Payload) : Prop := ∃ k w, s.part.lif.slots.get k = none ∧ u.part.lif.slots.get k = some w ∧
          w.owner = .input i ∧ w.state = .waiting ∧
          w.telegram = { source := s.part.stc.number, destination := 0, payload := z }
        (c.use = .alarm → x.condition ≠ .unknown → x.publication = .unseeded →
          let pair : Bool × Occurrence := match findEntry u.part c.tag with
            | some e => (e.active, e.occurrence)
            | none => (x.published, x.publishedOccurrence)
          y.condition = x.condition ∧ y.published = pair.1 ∧ y.publishedOccurrence = pair.2 ∧
          (pair.1 = decide (x.condition = .active) → y.publication = .settled) ∧
          (pair.1 ≠ decide (x.condition = .active) →
            (occupied s.part ≤ 3 → y.publication = .inFlight ∧ sent (.condition c.tag c.priority (!pair.1)
              (if pair.1 = true then pair.2 else pair.2 + 1))) ∧
            (occupied s.part = 12 → y.publication = .waiting))) ∧
        (c.use = .trip → x.trip = .pending →
          y.condition = x.condition ∧
          (occupied s.part ≤ 3 → y.trip = .inFlight ∧
            sent (.trip false (areaOfNibble (c.tripArea.extractLsb' 0 4)) 0)) ∧
          (occupied s.part = 12 → y.trip = .pending)))) ∧
  (∀ (s : State), isolated s.part = true → s.part.stc.isolation ≤ 1 →
    ∃ u, Machine.exec .isolationEnd s = .next u ∧ u.pending = s.pending ∧
      u.part.stc = { s.part.stc with
        station := some .starting, fault := none, isolation := 0,
        settle := 3 * 2 ^ s.part.stc.settings.periodCode.toNat } ∧
      (∀ a, emergency u.part a = emergency s.part a) ∧
      (s.part.cnp.events.length < 64 →
        u.part.cnp.events.getLast? =
          some { kind := .stationState, time := s.part.stc.seconds, state := some .starting, reason := some .isolationEnd }))

/-! ## Chapter 10: the Console Port -/

/-- A request while a reset is in progress is ignored; one that finds an answer or a request standing only sets the
collision flag; one whose bytes have not all arrived only sets the incomplete flag (R161, R170; that a frame without
its length byte is one of these is log 7, that the length takes one byte log 51, that one cut short that finds an answer or
a request standing sets the collision flag alone log 58). A taken request whose code is outside the nineteen, whose length or
ranges are not those of R163's table, or that is followed by more bytes, is answered BAD-REQUEST and changes nothing else. In
UNCONFIGURED a request of good form, other than STATUS, READ-STATS and RESTART, is answered NOT-RUNNING and changes
nothing else. -/
def Obligations.RequestsAreJudgedBeforeService : Prop :=
  (∀ (c : Instr) (code : Byte) (f : Frame) (s : State), requestOf c = some (code, f) →
    (s.part.stc.station = none → Machine.exec c s = .next s) ∧
    (s.part.stc.station ≠ none → s.part.cnp.response.isSome = true ∨ s.part.cnp.outstanding.isSome = true →
      Machine.exec c s = .next (s.withPart { s.part with cnp := { s.part.cnp with collision := true } })) ∧
    (portOpen s.part = true → f.declared = none ∨ (∃ n, f.declared = some n ∧ f.params.length < n.toNat) →
      Machine.exec c s = .next (s.withPart { s.part with cnp := { s.part.cnp with incomplete := true } }))) ∧
  ((∀ (c : Instr) (code n : Byte) (ps : List Byte) (s : State),
    requestOf c = some (code, { declared := some n, params := ps }) → portOpen s.part = true → n.toNat ≤ ps.length →
    n.toNat < ps.length ∨ formPasses code ps = false →
    Machine.exec c s = .next (s.withPart { s.part with cnp := s.part.cnp.answering .badRequest [] })) ∧
  (∀ (code n : Byte) (ps : List Byte) (s : State), code = 0 ∨ 19 < code.toNat → portOpen s.part = true →
    n.toNat ≤ ps.length → Machine.exec (.badRequest code { declared := some n, params := ps }) s =
      .next (s.withPart { s.part with cnp := s.part.cnp.answering .badRequest [] }))) ∧
  (∀ (c : Instr) (code : Byte) (ps : List Byte) (s : State), requestOf c = some (code, Frame.of ps) →
    formPasses code ps = true → servedUnconfigured code = false → unconfigured s.part = true → portOpen s.part = true →
    Machine.exec c s = .next (s.withPart { s.part with cnp := s.part.cnp.answering .notRunning [] }))

/-- A void transaction changes nothing. A read transaction drives READY and the answer, PENDING or EMPTY, then filler;
the answer leaves the buffer exactly when its last byte has been clocked out; nothing else changes. ATTNn is asserted exactly
while an answer is unread, or an event is stored and the station is not UNCONFIGURED (R162). -/
def Obligations.ReadTransactionDrivesAnswer : Prop :=
  (∀ (b : Byte) (s : State), Machine.exec (.voidTransaction b) s = .next s) ∧
  (∀ (n : Nat) (s : State),
    ∃ u, Machine.exec (.readTransaction n) s = .next u ∧
      u = s.withPart { s.part with cnp := { s.part.cnp with
        clockedOut := u.part.cnp.clockedOut, response := u.part.cnp.response } } ∧
      u.part.cnp.clockedOut.length = n ∧
      (∀ x, s.part.cnp.response = some x → s.part.stc.station ≠ none →
        u.part.cnp.clockedOut <+: [0x02, nat8 (resultCode x.result)] ++ nat16 x.body.length ++ x.body
          ++ List.replicate n 0 ∧
        u.part.cnp.response = if 4 + x.body.length ≤ n then none else some x) ∧
      (s.part.stc.station = none → u.part.cnp.clockedOut <+: List.replicate (n + 1) 0 ∧
        u.part.cnp.response = s.part.cnp.response) ∧
      (s.part.cnp.response = none → u.part.cnp.response = none ∧
        (s.part.cnp.outstanding = none → u.part.cnp.clockedOut <+: List.replicate (n + 1) 0) ∧
        (∀ r, s.part.cnp.outstanding = some r → s.part.stc.station ≠ none →
          u.part.cnp.clockedOut <+: 0x01 :: List.replicate n 0))) ∧
  (∀ (p : Part), attention p = true ↔
    p.cnp.response ≠ none ∨ (p.cnp.events ≠ [] ∧ p.stc.station ≠ some .unconfigured))

/-- STATUS and READ-STATS are answered DONE in every station state, with the bodies of section 12.2, 52 and 36 bytes, laid
out whole from the state as it stands; STATUS clears the collision and incomplete flags that it reports; nothing else
changes. -/
def Obligations.StatusAndStatsAreAlwaysServed : Prop :=
  ∀ (s : State) (x : StationState), portOpen s.part = true → s.part.stc.station = some x →
    Machine.exec (.status (Frame.of [])) s = .next (s.withPart { s.part with
      cnp := { s.part.cnp.answering .done (laid (statusLayout s.part x)) with
        collision := false, incomplete := false } }) ∧
    (laid (statusLayout s.part x)).length = 52 ∧
    Machine.exec (.readStats (Frame.of [])) s = .next (s.withPart { s.part with
      cnp := s.part.cnp.answering .done (laid (statsLayout s.part.cnp.stats)) }) ∧
    (laid (statsLayout s.part.cnp.stats)).length = 36

/-- In STARTING, RUNNING and ISOLATED the four reports answer from the tables as they stand, and change nothing else:
READ-ENTRY the tag's entry in 22 bytes or NO-ENTRY, READ-LIST the count and the entries from the start position in
presentation order, READ-AREA 54 bytes, READ-RECEPTION the record's fields and its summaries or NO-RECORD; every record
byte for byte as section 12 lays it out, and so the event record of READ-EVENTS. The count and signature reported are those
of R20. The model's choices: first-raised times compared as numbers (log 43), one byte for the number of summaries (log 49),
the reasons of TABLE-OVERFLOW in the order of the text (log 33). -/
def Obligations.ReportsAnswerFromTables : Prop :=
  ∀ (s : State), listening s.part = true → portOpen s.part = true →
    (∀ t, Machine.exec (.readEntry (Frame.of (tagParam t))) s = .next (s.withPart { s.part with
      cnp := match findEntry s.part t with
        | some e => s.part.cnp.answering .done (entryBytes e)
        | none => s.part.cnp.answering .noEntry [] })) ∧
    (∀ e, (entryBytes e).length = 22 ∧ entryBytes e = laid (entryLayout e)) ∧
    (∀ d, summaryBytes d = laid (summaryLayout d)) ∧
    (∀ r x, (receptionBytes r x).length = 22 ∧ receptionBytes r x = laid (receptionLayout r x)) ∧
    (∀ e, reasonFits e → (eventBytes e).length = 11 ∧ eventBytes e = laid (eventLayout e)) ∧
    (∀ (start n : Nat), start ≤ 511 → 1 ≤ n → n ≤ 8 →
      ∃ es : List Entry, es.length = min n (s.part.atu.table.length - start) ∧
        es = ((presentation s.part.atu.table).drop start).take n ∧
        Machine.exec (.readList (Frame.of (nat16 start ++ [nat8 n]))) s = .next (s.withPart { s.part with
          cnp := s.part.cnp.answering .done (nat16 s.part.atu.table.length ++ [nat8 es.length] ++ es.flatMap entryBytes) })) ∧
    (presentation s.part.atu.table).Perm s.part.atu.table ∧
    (TagsRise s.part.atu.table → (presentation s.part.atu.table).Pairwise fun x y =>
      priorityNumber x.priority < priorityNumber y.priority ∨ (priorityNumber x.priority = priorityNumber y.priority ∧
        (x.firstRaised.toNat < y.firstRaised.toNat ∨
          (x.firstRaised = y.firstRaised ∧ x.tag.toNat < y.tag.toNat)))) ∧
    (∀ a, Machine.exec (.readArea (Frame.of [areaByte a])) s = .next (s.withPart { s.part with
        cnp := s.part.cnp.answering .done (laid (areaLayout s.part a)) }) ∧
      (laid (areaLayout s.part a)).length = 54 ∧
      areaCount s.part a = s.part.atu.table.countP (fun e => decide (e.area = a)) ∧
      (areaSignature s.part a).toNat = ((s.part.atu.table.filter fun e => decide (e.area = a)).map fun e =>
        e.tag.toNat * 256 + e.occurrence.toNat + 16384 * e.active.toNat + 32768 * e.acknowledged.toNat).sum % 65536) ∧
    (∀ (r : Fin 4) (start n : Nat), start ≤ 511 → 1 ≤ n → n ≤ 8 →
      Machine.exec (.readReception (Frame.of (nat8 r.val :: nat16 start ++ [nat8 n]))) s = .next (s.withPart { s.part with
        cnp := match s.part.hou.receptions.get r with
          | none => s.part.cnp.answering .noRecord []
          | some x => s.part.cnp.answering .done (receptionBytes r x
              ++ [nat8 ((x.summaries.drop start).take n).length] ++ ((x.summaries.drop start).take n).flatMap summaryBytes) }))

/-- READ-EVENTS with count n removes the n oldest events, or all there are, and reports them with the number that
remains; when the overrun flag is set the first one reported carries LOST, and the flag is cleared. That the two numbers
take one byte each is the model's choice (log 49). -/
def Obligations.ReadEventsRemovesOldest : Prop :=
  ∀ (s : State) (n : Nat), listening s.part = true → portOpen s.part = true → 1 ≤ n → n ≤ 8 →
    ∃ es : List Event, es.length = min n s.part.cnp.events.length ∧
      (∀ i (h : i < es.length), ∃ e, s.part.cnp.events[i]? = some e ∧
        es[i] = { e with lost := if i = 0 then s.part.cnp.overrun else false }) ∧
      Machine.exec (.readEvents (Frame.of [nat8 n])) s = .next (s.withPart { s.part with
        cnp := { s.part.cnp.answering .done
            ([nat8 (s.part.cnp.events.length - n), nat8 es.length] ++ es.flatMap eventBytes) with
          events := s.part.cnp.events.drop n,
          overrun := if s.part.cnp.events = [] then s.part.cnp.overrun else false } })

/-! ## Chapters 2, 3, 5 to 8: the requests of the console computer -/

/-- ACK in STARTING, RUNNING or ISOLATED is judged in the order of R25; a refusal changes nothing but the answer, and
an admitted request leaves the entry as it is and places an ACKNOWLEDGE with the entry's occurrence and the session's
credential in a free slot. DECLARE-TRIP and RESTORE in STARTING, RUNNING or ISOLATED are judged in the order of R110;
a refusal changes nothing but the answer, and an admitted request places a TRIP telegram and changes no emergency
state. -/
def Obligations.AckAndTripRequestsAreJudged : Prop :=
  (∀ (s : State) (t : Tag), listening s.part = true → portOpen s.part = true →
    ∃ u code, Machine.exec (.ack (Frame.of (tagParam t))) s = .next u ∧
      code = (if running s.part = false then .notRunning
        else if sessionActive s.part = false then .noSession
        else match findEntry s.part t with
          | none => .noEntry
          | some e =>
            if acting s.part e.area = false then .notActing
            else if ackRight s.part e.area = false then .noRight
            else if e.acknowledged = true then .done
            else if 8 ≤ occupied s.part then .busy
            else .queued) ∧
      u = s.withPart { s.part with lif := u.part.lif, cnp := s.part.cnp.answering code [] } ∧
      (code ≠ .queued → u.part.lif = s.part.lif) ∧
      (code = .queued → ∃ e, findEntry s.part t = some e ∧
        s.part.lif.placed u.part.lif .request
          { source := s.part.stc.number, destination := 0,
            payload := .acknowledge t e.occurrence (sessionCredential s.part) })) ∧
  (∀ (s : State) (a : Area) (back : Bool), listening s.part = true → portOpen s.part = true →
    ∃ u code,
      Machine.exec (if back then .restore (Frame.of [areaByte a]) else .declareTrip (Frame.of [areaByte a])) s = .next u ∧
      code = (if running s.part = false then .notRunning
        else if sessionActive s.part = false then .noSession
        else if supervisor s.part = false then .noRight
        else if emergency s.part a ≠ back then .done
        else if 8 ≤ occupied s.part then .busy
        else .queued) ∧
      u = s.withPart { s.part with lif := u.part.lif, cnp := s.part.cnp.answering code [] } ∧
      (code ≠ .queued → u.part.lif = s.part.lif) ∧
      (code = .queued → s.part.lif.placed u.part.lif .request
        { source := s.part.stc.number, destination := 0, payload := .trip back a (sessionCredential s.part) }))

/-- SHELVE and UNSHELVE in STARTING, RUNNING or ISOLATED are judged in the orders of R30 and R32; a refusal changes
nothing but the answer, and an admitted request places a SHELVE with the clamped minutes in seconds, or 0. -/
def Obligations.ShelveRequestsAreJudgedInOrder : Prop :=
  ∀ (s : State) (t : Tag) (m : Nat), m < 65536 → listening s.part = true → portOpen s.part = true →
    (∃ u code, Machine.exec (.shelve (Frame.of (tagParam t ++ nat16 m))) s = .next u ∧
      code = (if running s.part = false then .notRunning
        else if sessionActive s.part = false then .noSession
        else match findEntry s.part t with
          | none => .noEntry
          | some e =>
            if acting s.part e.area = false then .notActing
            else if e.priority = .p1 then .notShelvable
            else if emergency s.part e.area = true then .emergency
            else if shelveRight s.part e.area = false then .noRight
            else if 8 ≤ occupied s.part then .busy
            else .queued) ∧
      u = s.withPart { s.part with lif := u.part.lif, cnp := s.part.cnp.answering code [] } ∧
      (code ≠ .queued → u.part.lif = s.part.lif) ∧
      (code = .queued → s.part.lif.placed u.part.lif .request
        { source := s.part.stc.number, destination := 0,
          payload := .shelve t (BitVec.ofNat 16 (min s.part.stc.settings.maxShelve (max 1 m) * 60))
            (sessionCredential s.part) })) ∧
    (∃ u code, Machine.exec (.unshelve (Frame.of (tagParam t))) s = .next u ∧
      code = (if running s.part = false then .notRunning
        else if sessionActive s.part = false then .noSession
        else match findEntry s.part t with
          | none => .noEntry
          | some e =>
            if acting s.part e.area = false then .notActing
            else if shelveRight s.part e.area = false then .noRight
            else if e.shelf = none then .done
            else if 8 ≤ occupied s.part then .busy
            else .queued) ∧
      u = s.withPart { s.part with lif := u.part.lif, cnp := s.part.cnp.answering code [] } ∧
      (code ≠ .queued → u.part.lif = s.part.lif) ∧
      (code = .queued → s.part.lif.placed u.part.lif .request
        { source := s.part.stc.number, destination := 0, payload := .shelve t 0 (sessionCredential s.part) }))

/-- SILENCE, by the request in STARTING, RUNNING and ISOLATED and by the key's press edge there, clears the three
demands together and silences the horn, with no session asked for; nothing else changes, and no lamp does (that a press's
own row brings the run count to 0 is the model's choice, log 9). What the panel shows: the HORN output by the state and the
cadence counter; each area lamp by the first of R51's conditions that holds; the SESSION, HANDOVER and STATION lamps by
R53; a pattern's light by the phase counter as R52 has it, and the level of each of the nineteen lamp outputs by its pattern
and the present position of that one counter. -/
def Obligations.SilenceClearsDemands : Prop :=
  (∀ (s : State), listening s.part = true →
    let silent : Anu := { s.part.anu with urgent := false, routine := false, trip := false, horn := .silent }
    (portOpen s.part = true → Machine.exec (.silence (Frame.of [])) s = .next (s.withPart { s.part with
      anu := silent, cnp := s.part.cnp.answering .done [] })) ∧
    ((key s.part 0).state = .up → Machine.exec .keySilencePress s = .next (s.withPart { s.part with
      anu := { silent with keys := setAt s.part.anu.keys 0 { key s.part 0 with state := .down, run := 0 } } })) ∧
    (∀ a, areaLamp { s.part with anu := silent } a = areaLamp s.part a)) ∧
  (∀ (p : Part),
    hornOutput p = (match p.anu.horn with
      | .urgent => true
      | .routine => decide (p.anu.cadence < 200)
      | .silent => false) ∧
    (∀ a,
      let holding (f : Entry → Prop) : Prop := ∃ e ∈ p.atu.table, e.area = a ∧ f e
      let flicker : Prop := AreaSet.has p.atu.overflow a = true ∨
        ((view p a).holder = 0 ∧ (view p a).role ≠ .hold ∧ (view p a).role ≠ .cover)
      let fast : Prop := (view p a).emergency = true ∨
        holding fun e => entryState e = some .alerting ∧ e.quiet = false ∧ (e.priority = .p1 ∨ e.priority = .p2)
      let slow : Prop := holding fun e => entryState e = some .returned ∨
        (entryState e = some .alerting ∧ e.quiet = false ∧ (e.priority = .p3 ∨ e.priority = .p4))
      let steady : Prop := holding fun e => entryState e = some .standing ∨ (entryState e = some .alerting ∧ e.quiet = true)
      ((view p a).role = .none → areaLamp p a = .off) ∧
      ((view p a).role ≠ .none →
        (flicker → areaLamp p a = .flicker) ∧ (¬flicker → fast → areaLamp p a = .fast) ∧
        (¬flicker → ¬fast → slow → areaLamp p a = .slow) ∧
        (¬flicker → ¬fast → ¬slow → steady → areaLamp p a = .steady) ∧
        (¬flicker → ¬fast → ¬slow → ¬steady → areaLamp p a = .off))) ∧
    sessionLamp p = (if p.ssu.session = none then .off else .steady) ∧
    (let review : Prop := ∃ r x, p.hou.receptions.get r = some x ∧ x.kind = .handover ∧ x.state = .review
     let busy : Prop := (∃ r, p.hou.offers.get r ≠ none ∨ p.hou.receptions.get r ≠ none) ∨ p.ssu.armed = true
     (review → handoverLamp p = .fast) ∧ (¬review → busy → handoverLamp p = .slow) ∧
       (¬review → ¬busy → handoverLamp p = .off)) ∧
    (∀ x, p.stc.station = some x → stationLamp p = (match x with
      | .unconfigured => .steady
      | .isolated => .steady
      | .starting => .slow
      | .running => .off)) ∧
    (let lit (x : LampPattern) : Prop := match x with
      | .flicker => p.anu.phase / 10 % 2 = 0
      | .fast => p.anu.phase / 50 % 2 = 0
      | .slow => p.anu.phase < 200
      | .steady => True
      | .off => False
     (∀ a, areaLampOutput p a = true ↔ lit (areaLamp p a)) ∧ (sessionLampOutput p = true ↔ lit (sessionLamp p)) ∧
       (handoverLampOutput p = true ↔ lit (handoverLamp p)) ∧ (stationLampOutput p = true ↔ lit (stationLamp p)))) ∧
  (∀ n, n < 400 →
    (lampOn .flicker n = true ↔ n / 10 % 2 = 0) ∧ (lampOn .fast n = true ↔ n / 50 % 2 = 0) ∧
    (lampOn .slow n = true ↔ n < 200) ∧ lampOn .steady n = true ∧ lampOn .off n = false)

/-- OFFER in STARTING, RUNNING or ISOLATED is judged in the order of R118; a refusal changes nothing but the answer;
an admitted request takes the next handover number, latches the area's entries into a free offer record in SENDING and
places the OFFER telegram for the target. The latched summaries are those of R115: one for each entry of the area, in
presentation order, the shelf seconds 0 without a shelf, the age at most 65,535. The model's choices: first-raised times are
compared as numbers (log 43), the age is taken modulo 2^32 (log 12), and a reply timer not yet started reads 0 (log 57). -/
def Obligations.OfferRequestIsJudgedInOrder : Prop :=
  ∀ (s : State) (a : Area) (target : Byte), listening s.part = true → portOpen s.part = true →
    ∃ u code, Machine.exec (.offer (Frame.of [areaByte a, target])) s = .next u ∧
      code = (if running s.part = false then .notRunning
        else if sessionActive s.part = false then .noSession
        else if holds s.part a = false then .notActing
        else if ¬(1 ≤ target.toNat ∧ target.toNat ≤ 62 ∧ target.toNat ≠ s.part.stc.number.toNat ∧
            (heardRecord s.part (target.setWidth 6)).isSome = true) then .badTarget
        else if (offerFor s.part a).isSome = true ∨ (∀ r, s.part.hou.offers.get r ≠ none) then .busy
        else if emergency s.part a = true then .emergency
        else if urgentAlerting s.part a = true then .unackedUrgent
        else if handoverCeilingPasses s.part a = false then .load
        else if areaCount s.part a ≠ 0 ∧ 512 < areaCount s.part a + storeReserved s.part then .noRoom
        else if 8 ≤ occupied s.part then .busy
        else .queued) ∧
      u = s.withPart { s.part with
        lif := u.part.lif, hou := u.part.hou, anu := u.part.anu, cnp := s.part.cnp.answering code [] } ∧
      (code ≠ .queued → u.part.lif = s.part.lif ∧ u.part.hou = s.part.hou ∧ u.part.anu = s.part.anu) ∧
      (code = .queued → ∃ r o,
        s.part.hou.offers.get r = none ∧
        u.part.hou = { s.part.hou with
          offers := setAt s.part.hou.offers r (some o), nextSerial := s.part.hou.nextSerial + 1, counter := o.number } ∧
        o = { kind := .handover, area := a, target := target.setWidth 6,
              number := if s.part.hou.counter = 255 then 1 else s.part.hou.counter + 1,
              entryCount := areaCount s.part a, segmentCount := (areaCount s.part a + 7) / 8, nextIndex := 1,
              state := .sending, load := loadOf s.part a, signature := areaSignature s.part a,
              credential := sessionCredential s.part, replyTimer := 0, mark := .queued,
              summaries := o.summaries, serial := s.part.hou.nextSerial } ∧
        latched s.part a o.summaries ∧
        s.part.lif.placed u.part.lif (.offer r o.serial)
          { source := s.part.stc.number, destination := target.setWidth 6, payload := .offer (offerContent o) })

/-- ACCEPT and DECLINE requests: in STARTING the answer is NOT-RUNNING (R174). In RUNNING with no record in REVIEW for the
area it is NO-RECORD, and so in ISOLATED, to whose state R125 and R126 give no other code (log 35). In RUNNING with one: judged in the orders of R125 and R126; a refusal changes nothing but the answer;
otherwise the record stays in REVIEW with its reply mark QUEUED and the REPLY placed for the releaser, or, with no slot
free, OWED and on the waiting list. That the stopped review timer keeps its value is the model's choice (log 15). -/
def Obligations.AcceptAndDeclineRequestsAreJudged : Prop :=
  ∀ (s : State) (a : Area), listening s.part = true → portOpen s.part = true →
    (starting s.part = true →
      Machine.exec (.accept (Frame.of [areaByte a])) s =
        .next (s.withPart { s.part with cnp := s.part.cnp.answering .notRunning [] }) ∧
      Machine.exec (.decline (Frame.of [areaByte a])) s =
        .next (s.withPart { s.part with cnp := s.part.cnp.answering .notRunning [] })) ∧
    (starting s.part = false → reviewFor s.part a = none →
      Machine.exec (.accept (Frame.of [areaByte a])) s =
        .next (s.withPart { s.part with cnp := s.part.cnp.answering .noRecord [] }) ∧
      Machine.exec (.decline (Frame.of [areaByte a])) s =
        .next (s.withPart { s.part with cnp := s.part.cnp.answering .noRecord [] })) ∧
    (∀ r x, running s.part = true → reviewFor s.part a = some r → s.part.hou.receptions.get r = some x →
      let replied (u : State) (why : ReplyReason) : Prop :=
        let put (m : TxMark) : Hou :=
          { s.part.hou with receptions := setAt s.part.hou.receptions r (some { x with answer := why, mark := m }) }
        (occupied s.part < 12 → u.part.hou = put .queued ∧
          s.part.lif.enqueued u.part.lif (.reply r x.serial)
            { source := s.part.stc.number, destination := x.releaser,
              payload := .reply a x.number (decide (why ≠ .none)) why }) ∧
        (occupied s.part = 12 → u.part.hou = put .owed ∧ Owner.reply r x.serial ∈ u.part.lif.waiting ∧
          u.part.lif = { s.part.lif with waiting := u.part.lif.waiting })
      (∃ u code, Machine.exec (.accept (Frame.of [areaByte a])) s = .next u ∧
        code = (if x.mark ≠ .none then .busy
          else if sessionActive s.part = false then .noSession
          else if mayHold s.part a = false then .noRight
          else if emergency s.part a = true then .emergency
          else if urgentAlerting s.part a = true then .unackedUrgent
          else if stationCeilingPasses s.part x.load = false then .load
          else .queued) ∧
        u = s.withPart { s.part with
          lif := u.part.lif, hou := u.part.hou, cnp := s.part.cnp.answering code [] } ∧
        (code ≠ .queued → u.part.lif = s.part.lif ∧ u.part.hou = s.part.hou) ∧
        (code = .queued → replied u .none)) ∧
      (∃ u code, Machine.exec (.decline (Frame.of [areaByte a])) s = .next u ∧
        code = (if x.mark ≠ .none then .busy else .queued) ∧
        u = s.withPart { s.part with
          lif := u.part.lif, hou := u.part.hou, cnp := s.part.cnp.answering code [] } ∧
        (code ≠ .queued → u.part.lif = s.part.lif ∧ u.part.hou = s.part.hou) ∧
        (code = .queued → replied u .operator)))

/-- The ACCEPT and DECLINE keys: in STARTING, RUNNING and ISOLATED, with no record in REVIEW the press gives ACCEPT-REFUSED
or DECLINE-REFUSED with reason NO-RECORD and nothing more (R55). In RUNNING with one it acts on the oldest handover record in REVIEW: a press that the checks of
R125 or R126 refuse gives its event with the area and the code, and the record stays as it is; one that passes queues its
REPLY, or, with no slot free, leaves it OWED on the waiting list. That the stopped review timer keeps its value is the
model's choice (log 15). -/
def Obligations.HandoverKeysActOnOldestReview : Prop :=
  ∀ (s : State), listening s.part = true →
    let pressed (k : Fin 4) : Anu :=
      { s.part.anu with keys := setAt s.part.anu.keys k { key s.part k with state := .down, run := 0 } }
    let refused (k : Fin 4) (e : Event) : State :=
      s.withPart { s.part with anu := pressed k, cnp := s.part.cnp.storing s.part.stc.seconds e }
    ((∀ r x, s.part.hou.receptions.get r = some x → ¬(x.kind = .handover ∧ x.state = .review)) →
      ((key s.part 1).state = .up → Machine.exec .keyAcceptPress s =
        .next (refused 1 { kind := .acceptRefused, reason := some (.result .noRecord) })) ∧
      ((key s.part 2).state = .up → Machine.exec .keyDeclinePress s =
        .next (refused 2 { kind := .declineRefused, reason := some (.result .noRecord) }))) ∧
    (∀ r x, running s.part = true → s.part.hou.receptions.get r = some x → x.kind = .handover → x.state = .review →
      (∀ q y, q ≠ r → s.part.hou.receptions.get q = some y → y.kind = .handover → y.state = .review →
        x.serial < y.serial) →
      let replied (u : State) (k : Fin 4) (why : ReplyReason) : Prop :=
        let put (m : TxMark) : Hou :=
          { s.part.hou with receptions := setAt s.part.hou.receptions r (some { x with answer := why, mark := m }) }
        (occupied s.part < 12 →
          u = s.withPart { s.part with lif := u.part.lif, hou := put .queued, anu := pressed k } ∧
          s.part.lif.enqueued u.part.lif (.reply r x.serial)
            { source := s.part.stc.number, destination := x.releaser,
              payload := .reply x.area x.number (decide (why ≠ .none)) why }) ∧
        (occupied s.part = 12 →
          u = s.withPart { s.part with
            lif := { s.part.lif with waiting := u.part.lif.waiting }, hou := put .owed, anu := pressed k } ∧
          Owner.reply r x.serial ∈ u.part.lif.waiting)
      (∀ code : ResultCode, (key s.part 1).state = .up →
        code = (if x.mark ≠ .none then .busy
          else if sessionActive s.part = false then .noSession
          else if mayHold s.part x.area = false then .noRight
          else if emergency s.part x.area = true then .emergency
          else if urgentAlerting s.part x.area = true then .unackedUrgent
          else if stationCeilingPasses s.part x.load = false then .load
          else .queued) →
        (code ≠ .queued → Machine.exec .keyAcceptPress s =
          .next (refused 1 { kind := .acceptRefused, area := some x.area, reason := some (.result code) })) ∧
        (code = .queued → ∃ u, Machine.exec .keyAcceptPress s = .next u ∧ replied u 1 .none)) ∧
      ((key s.part 2).state = .up →
        (x.mark ≠ .none → Machine.exec .keyDeclinePress s =
          .next (refused 2 { kind := .declineRefused, area := some x.area, reason := some (.result .busy) })) ∧
        (x.mark = .none → ∃ u, Machine.exec .keyDeclinePress s = .next u ∧ replied u 2 .operator)))

/-- RELIEF, by the request in STARTING, RUNNING or ISOLATED and by the key: judged in the order of R139; success arms
the relief record with the configured window and the present seconds and produces RELIEF-ARMED. A refused request
changes nothing but the answer; a refused press gives RELIEF-REFUSED with the code, unless the record is armed
already. -/
def Obligations.ReliefIsJudgedInOrder : Prop :=
  ∀ (s : State) (code : ResultCode), listening s.part = true →
    code = (if running s.part = false then .notRunning
      else if sessionActive s.part = false then .noSession
      else if s.part.ssu.armed = true then .done
      else if holdsAny s.part = false then .notActing
      else if (∃ a, holds s.part a = true ∧ urgentAlerting s.part a = true) then .unackedUrgent
      else if (∃ r, s.part.hou.offers.get r ≠ none ∨ s.part.hou.receptions.get r ≠ none) then .busy
      else .queued) →
    let armed : Ssu :=
      { s.part.ssu with armed := true, window := s.part.stc.settings.reliefWindow, armedTime := s.part.stc.seconds }
    (portOpen s.part = true → ∃ u, Machine.exec (.relief (Frame.of [])) s = .next u ∧
      (code ≠ .queued → u = s.withPart { s.part with cnp := s.part.cnp.answering code [] }) ∧
      (code = .queued → u = s.withPart { s.part with
        ssu := armed, anu := u.part.anu,
        cnp := (s.part.cnp.storing s.part.stc.seconds { kind := .reliefArmed }).answering .done [] })) ∧
    ((key s.part 3).state = .up → ∃ u, Machine.exec .keyReliefPress s = .next u ∧
      (key u.part 3).state = .down ∧ (key u.part 3).run = 0 ∧
      (code = .queued → u = s.withPart { s.part with
        ssu := armed, anu := u.part.anu, cnp := s.part.cnp.storing s.part.stc.seconds { kind := .reliefArmed } }) ∧
      (code = .done → u = s.withPart { s.part with anu := u.part.anu }) ∧
      (code ≠ .queued → code ≠ .done → u = s.withPart { s.part with
        anu := u.part.anu,
        cnp := s.part.cnp.storing s.part.stc.seconds { kind := .reliefRefused, reason := some (.result code) } }))

/-- LOGOUT is answered NO-SESSION with no session and changes nothing else; else it is answered DONE, the session is
none, an armed relief record is idle, SESSION-ENDED with reason LOGOUT is stored, a station that holds an area has its
grace timer running, no entry, figure or emergency state changes, and the offer records in SENDING or OFFERED are freed: each
HANDOVER one with OFFER-CLOSED (SESSION), a WITHDRAW for its target and *handovers failed*, taken by record number (the
model's choice, log 45), a SYNC one silently (R133). TAKE_LOGIN: with no session, another credential
or credential 0 nothing changes; the session's own credential ends the session, its offer records freed alike, with reason DISPLACED and the source
station (R86, R89). -/
def Obligations.SessionEndsByLogoutOrDisplacement : Prop :=
  (∀ (s : State), listening s.part = true → portOpen s.part = true →
    (s.part.ssu.session = none →
      Machine.exec (.logout (Frame.of [])) s =
        .next (s.withPart { s.part with cnp := s.part.cnp.answering .noSession [] })) ∧
    (s.part.ssu.session ≠ none → ∃ u, Machine.exec (.logout (Frame.of [])) s = .next u ∧
      u.pending = s.pending ∧ u.part.cnp.response = some { result := .done, body := [] } ∧
      u.part.ssu.session = none ∧ u.part.ssu.armed = false ∧ u.part.stc = s.part.stc ∧ u.part.atu = s.part.atu ∧
      u.part.ldm = s.part.ldm ∧ (∀ a, emergency u.part a = emergency s.part a ∧ holds u.part a = holds s.part a) ∧
      (holdsAny s.part = true → u.part.aru.graceRunning = true ∧
        (s.part.aru.graceRunning = false → u.part.aru.grace = s.part.stc.settings.grace)) ∧
      (∀ r o, u.part.hou.offers.get r = some o → o.state = .releasing) ∧
      sessionOffersFreed s.part u.part { kind := .sessionEnded, time := s.part.stc.seconds, reason := some .logout } ∧
      (s.part.cnp.events.length < 64 →
        s.part.cnp.events ++ [{ kind := .sessionEnded, time := s.part.stc.seconds, reason := some .logout }]
          <+: u.part.cnp.events))) ∧
  (∀ (s : State) (t : Telegram) (c : Credential), nextTelegram s.part t → t.payload = .login c →
    ((∀ x, s.part.ssu.session = some x → x.credential ≠ c) ∨ c = 0 →
      Machine.exec .takeLogin s =
        .next (s.withPart { s.part with lif := s.part.lif.taken (encodeTelegram t).length })) ∧
    (∀ x, s.part.ssu.session = some x → x.credential = c → c ≠ 0 →
      ∃ u, Machine.exec .takeLogin s = .next u ∧ u.pending = s.pending ∧ u.part.stc = s.part.stc ∧
        u.part.ssu.session = none ∧ u.part.ssu.armed = false ∧ u.part.atu = s.part.atu ∧ u.part.ldm = s.part.ldm ∧
        (holdsAny s.part = true → u.part.aru.graceRunning = true) ∧
        sessionOffersFreed s.part u.part
          { kind := .sessionEnded, time := s.part.stc.seconds, station := some t.source, reason := some .displaced } ∧
        (s.part.cnp.events.length < 64 →
          s.part.cnp.events ++ [{ kind := .sessionEnded, time := s.part.stc.seconds, station := some t.source,
                                  reason := some .displaced }] <+: u.part.cnp.events)))

/-! ## Chapter 3: keys, contact inputs, the sample tick -/

/-- A key's release edge and its first settling change its debounced state alone, with the run count back at 0; in
UNCONFIGURED a press edge does no more (R54, R55). -/
def Obligations.KeyEdgesSettleStates : Prop :=
  ∀ (s : State) (k : Fin 4), s.part.stc.station ≠ none →
    let now (x : KeyState) : State := s.withPart { s.part with
      anu := { s.part.anu with keys := setAt s.part.anu.keys k { key s.part k with state := x, run := 0 } } }
    ((key s.part k).state = .down → Machine.exec (.keyReleaseEdge k) s = .next (now .up)) ∧
    ((key s.part k).state = .unknown → ∀ down,
      Machine.exec (.keyFirstSettling k down) s = .next (now (if down then .down else .up))) ∧
    (unconfigured s.part = true → (key s.part k).state = .up →
      (k = 0 → Machine.exec .keySilencePress s = .next (now .down)) ∧
      (k = 1 → Machine.exec .keyAcceptPress s = .next (now .down)) ∧
      (k = 2 → Machine.exec .keyDeclinePress s = .next (now .down)) ∧
      (k = 3 → Machine.exec .keyReliefPress s = .next (now .down)))

/-- A debounced change of an ALARM input: unseeded or in flight it is only counted; WAITING and back at the published
condition it settles and *input changes merged* advances; SETTLED, with a slot free in RUNNING, its CONDITION is
queued: the next occurrence for ACTIVE, the published one for CLEAR (R58, R59). -/
def Obligations.AlarmInputChangePublishes : Prop :=
  ∀ (s : State) (i : Fin 8), listening s.part = true → (inputConfig s.part i).use = .alarm →
    (input s.part i).condition ≠ .unknown → (input s.part i).unpublished ≠ 65535 →
    let x := input s.part i
    let flipped : Contact := if x.condition = .active then .clear else .active
    let put (y : InputRecord) : Anu := { s.part.anu with inputs := setAt s.part.anu.inputs i y }
    (x.publication = .unseeded ∨ x.publication = .inFlight →
      Machine.exec (.alarmInputChange i) s = .next (s.withPart { s.part with
        anu := put { x with condition := flipped, run := 0, unpublished := x.unpublished + 1 } })) ∧
    (x.publication = .waiting → x.published = decide (flipped = .active) →
      Machine.exec (.alarmInputChange i) s = .next (s.withPart { s.part with
        lif := { s.part.lif with waiting := s.part.lif.waiting.filter fun o => decide (o ≠ .input i) },
        anu := put { x with condition := flipped, run := 0, unpublished := 0, publication := .settled },
        cnp := { s.part.cnp with stats := { s.part.cnp.stats with
          changesMerged := s.part.cnp.stats.changesMerged + (x.unpublished + 1) } } })) ∧
    (x.publication = .settled → x.published = decide (x.condition = .active) → running s.part = true →
      occupied s.part < 12 →
      ∃ u, Machine.exec (.alarmInputChange i) s = .next u ∧
        u = s.withPart { s.part with
          lif := u.part.lif,
          anu := put { x with condition := flipped, run := 0, unpublished := 0, publication := .inFlight },
          cnp := { s.part.cnp with stats := { s.part.cnp.stats with
            changesMerged := s.part.cnp.stats.changesMerged + x.unpublished } } } ∧
        s.part.lif.enqueued u.part.lif (.input i)
          { source := s.part.stc.number, destination := 0,
            payload := .condition (inputConfig s.part i).tag (inputConfig s.part i).priority (decide (flipped = .active))
              (if flipped = .active then x.publishedOccurrence + 1 else x.publishedOccurrence) })

/-- An activation edge of a TRIP input: with its record IDLE it becomes PENDING, and in RUNNING with a slot free its
TRIP of credential 0 is queued and it is IN-FLIGHT; any other state absorbs the edge. The return to CLEAR does nothing
more (R60). The first settling of an input is no change: it sets the condition; an ALARM input that settles in RUNNING
is seeded from the table, else from CLEAR and occurrence 0 as they stood, and is SETTLED when that agrees (R57, R58). -/
def Obligations.InputsTripAndSeed : Prop :=
  (∀ (s : State) (i : Fin 8), listening s.part = true → (inputConfig s.part i).use = .trip →
    let x := input s.part i
    let put (y : InputRecord) : Anu := { s.part.anu with inputs := setAt s.part.anu.inputs i y }
    (x.condition = .clear →
      (x.trip ≠ .idle → Machine.exec (.tripInputActivation i) s = .next (s.withPart { s.part with
        anu := put { x with condition := .active, run := 0 } })) ∧
      (x.trip = .idle → running s.part = false →
        Machine.exec (.tripInputActivation i) s = .next (s.withPart { s.part with
          anu := put { x with condition := .active, run := 0, trip := .pending } })) ∧
      (x.trip = .idle → running s.part = true → occupied s.part < 12 →
        ∃ u, Machine.exec (.tripInputActivation i) s = .next u ∧
          u = s.withPart { s.part with
            lif := u.part.lif, anu := put { x with condition := .active, run := 0, trip := .inFlight } } ∧
          s.part.lif.enqueued u.part.lif (.input i)
            { source := s.part.stc.number, destination := 0,
              payload := .trip false (areaOfNibble ((inputConfig s.part i).tripArea.extractLsb' 0 4)) 0 })) ∧
    (x.condition = .active → Machine.exec (.tripInputDeactivation i) s = .next (s.withPart { s.part with
      anu := put { x with condition := .clear, run := 0 } }))) ∧
  (∀ (s : State) (i : Fin 8) (active : Bool), listening s.part = true → (inputConfig s.part i).use ≠ .unused →
    (input s.part i).condition = .unknown →
    let x := input s.part i
    let put (y : InputRecord) : Anu := { s.part.anu with inputs := setAt s.part.anu.inputs i y }
    let seen : InputRecord := { x with condition := if active then .active else .clear, run := 0 }
    (running s.part = false ∨ (inputConfig s.part i).use = .trip ∨ x.publication ≠ .unseeded →
      Machine.exec (.inputFirstSettling i active) s = .next (s.withPart { s.part with anu := put seen })) ∧
    (running s.part = true → (inputConfig s.part i).use = .alarm → x.publication = .unseeded →
      (∀ e, findEntry s.part (inputConfig s.part i).tag = some e → e.active = active →
        Machine.exec (.inputFirstSettling i active) s = .next (s.withPart { s.part with
          anu := put { seen with published := active, publishedOccurrence := e.occurrence, publication := .settled } })) ∧
      (findEntry s.part (inputConfig s.part i).tag = none → x.published = active →
        Machine.exec (.inputFirstSettling i active) s = .next (s.withPart { s.part with
          anu := put { seen with publication := .settled } }))))

/-- The 5 ms sample tick, which carries its samples. The cadence and phase counters and the badge hold-off advance. Every
key is sampled, and in STARTING, RUNNING and ISOLATED every used input: while the state is UNKNOWN the run counts samples
equal to the first of them, a different one restarting it at 1; else it counts samples that differ from the state, an equal
one returning it to 0. A run that reaches its length, 4 for a key, 4, 10, 20 or 100 for an input, settles the record or is its
edge, which acts as its own row does: a press of each key, a release, a change of an ALARM input, a TRIP input's activation
and deactivation, a first settling (R49, R52, R54, R57, R82). An UNUSED input is not sampled; while a reset is in progress
nothing happens. The model's choices: edges due on one tick act in the same step, the keys' by rising number and then the
inputs', and keys are sampled in every station state (log 8); an edge's row is the edge alone (log 9). -/
def Obligations.SampleTickCountsAndActs : Prop :=
  ∀ (s : State) (keys : BitVec 4) (contacts : BitVec 8),
    (s.part.stc.station ≠ none → Machine.exec (.sampleTick keys contacts) s =
      inTurn (edgesDue s.part keys contacts) (s.withPart (sampled s.part keys contacts))) ∧
    (s.part.stc.station ≠ none → edgesDue s.part keys contacts = [] →
      Machine.exec (.sampleTick keys contacts) s = .next (s.withPart (sampled s.part keys contacts))) ∧
    (s.part.stc.station = none → Machine.exec (.sampleTick keys contacts) s = .next s)

/-! ## Chapters 5 and 8: badges, sessions, relief -/

/-- A burst that is no frame of 24 bits, or repeats the last credential under the hold-off, changes nothing; a frame
taken with no relief armed is refused with its event and reason, or, when it is the session's own, ends the session
with LOGOUT; each sets the hold-off to 400 (R82, R83). -/
def Obligations.BadgeIsTakenByFirstLine : Prop :=
  ∀ (s : State) (bits : List Bool),
    let c := credentialOfBits bits
    let held : Ssu := { s.part.ssu with lastBadge := some c, holdOff := 400 }
    let refused (r : Reason) : State := s.withPart { s.part with
      ssu := held, cnp := s.part.cnp.storing s.part.stc.seconds { kind := .badgeRefused, reason := some r } }
    (bits.length ≠ 24 ∨ listening s.part = false ∨ (0 < s.part.ssu.holdOff ∧ s.part.ssu.lastBadge = some c) →
      Machine.exec (.badgePresentation bits) s = .next s) ∧
    (bits.length = 24 → listening s.part = true → ¬(0 < s.part.ssu.holdOff ∧ s.part.ssu.lastBadge = some c) →
      s.part.ssu.armed = false →
      (knownOperator s.part c = none → (∀ x, s.part.ssu.session = some x → x.credential ≠ c) →
        Machine.exec (.badgePresentation bits) s = .next (refused .unknown)) ∧
      (∀ x, s.part.ssu.session = some x → x.credential ≠ c → knownOperator s.part c ≠ none →
        Machine.exec (.badgePresentation bits) s = .next (refused .occupied)) ∧
      (s.part.ssu.session = none → knownOperator s.part c ≠ none → isolated s.part = true →
        Machine.exec (.badgePresentation bits) s = .next (refused .notRunning)) ∧
      (s.part.ssu.session = none → knownOperator s.part c ≠ none → isolated s.part = false → 8 ≤ occupied s.part →
        Machine.exec (.badgePresentation bits) s = .next (refused .busy)) ∧
      (∀ x, s.part.ssu.session = some x → x.credential = c →
        ∃ u, Machine.exec (.badgePresentation bits) s = .next u ∧ u.part.ssu.session = none ∧
          u.part.ssu.holdOff = 400 ∧ u.part.atu = s.part.atu ∧
          (s.part.cnp.events.length < 64 →
            s.part.cnp.events ++ [{ kind := .sessionEnded, time := s.part.stc.seconds, reason := some .logout }]
              <+: u.part.cnp.events)))

/-- A login starts the session at once, with SESSION-STARTED first of its events and the grace timer stopped; with no
area held its LOGIN stands in a slot that was free; the areas held are kept exactly where the operator may hold them,
and every area held afterwards is one the operator may hold (R84, R85, R90). The session's number is the model's own
(log 11). -/
def Obligations.BadgeLoginStartsSession : Prop :=
  ∀ (s : State) (bits : List Bool) (r : Fin 48), bits.length = 24 → sendingOpen s.part = true →
    s.part.ssu.session = none → s.part.ssu.armed = false → occupied s.part < 8 →
    ¬(0 < s.part.ssu.holdOff ∧ s.part.ssu.lastBadge = some (credentialOfBits bits)) →
    knownOperator s.part (credentialOfBits bits) = some r →
    ∃ u, Machine.exec (.badgePresentation bits) s = .next u ∧ u.pending = s.pending ∧ u.part.stc = s.part.stc ∧
      u.part.ssu = { s.part.ssu with
        session := some { credential := credentialOfBits bits, record := r, start := s.part.stc.seconds, mark := .queued,
                          number := s.part.ssu.nextNumber },
        nextNumber := s.part.ssu.nextNumber + 1, lastBadge := some (credentialOfBits bits), holdOff := 400 } ∧
      (s.part.cnp.events.length < 64 →
        s.part.cnp.events ++ [{ kind := .sessionStarted, time := s.part.stc.seconds }] <+: u.part.cnp.events) ∧
      u.part.aru.graceRunning = false ∧ u.part.aru.grace = 0 ∧
      (∀ a, holds u.part a = true → operatorMayHold s.part (s.part.stc.settings.operators.get r) a = true) ∧
      (∀ a, holds s.part a = true → operatorMayHold s.part (s.part.stc.settings.operators.get r) a = true →
        holds u.part a = true) ∧
      (holdsAny s.part = false → ∃ k x, u.part.lif.slots.get k = some x ∧ s.part.lif.slots.get k = none ∧
        x.owner = .session s.part.ssu.nextNumber ∧ x.telegram.payload = .login (credentialOfBits bits))

/-- A badge while the relief record is ARMED: the session's own cancels the relief with reason BADGE; another is denied by
the first check of R141 that fails, the record staying ARMED and nothing else changed: UNKNOWN, NO-RIGHT with the first held
area that its operator may not hold, UNACKED-URGENT with the lowest-numbered held area of an ALERTING urgent entry, BUSY with 8
slots occupied or more; else it replaces the session, with no holding lost, SESSION-RELIEVED and the record IDLE (R83, R141,
R142, R144). The session's number is the model's own (log 11). -/
def Obligations.ReliefBadgeReplacesSession : Prop :=
  ∀ (s : State) (bits : List Bool) (x : Session), bits.length = 24 → listening s.part = true →
    s.part.ssu.session = some x → s.part.ssu.armed = true →
    ¬(0 < s.part.ssu.holdOff ∧ s.part.ssu.lastBadge = some (credentialOfBits bits)) →
    let c := credentialOfBits bits
    let held : Ssu := { s.part.ssu with lastBadge := some c, holdOff := 400 }
    (c = x.credential → ∃ u, Machine.exec (.badgePresentation bits) s = .next u ∧
      u = s.withPart { s.part with
        ssu := { held with armed := false, window := 0 }, anu := u.part.anu,
        cnp := s.part.cnp.storing s.part.stc.seconds { kind := .reliefCancelled, reason := some .badge } }) ∧
    (c ≠ x.credential → knownOperator s.part c = none → Machine.exec (.badgePresentation bits) s = .next (s.withPart
      { s.part with
        ssu := held,
        cnp := s.part.cnp.storing s.part.stc.seconds { kind := .reliefDenied, reason := some .unknown } })) ∧
    (∀ r a, c ≠ x.credential → knownOperator s.part c = some r → holds s.part a = true →
      operatorMayHold s.part (s.part.stc.settings.operators.get r) a = false →
      (∀ b, b < a → holds s.part b = true → operatorMayHold s.part (s.part.stc.settings.operators.get r) b = true) →
      Machine.exec (.badgePresentation bits) s = .next (s.withPart { s.part with
        ssu := held,
        cnp := s.part.cnp.storing s.part.stc.seconds
          { kind := .reliefDenied, area := some a, reason := some .noRight } })) ∧
    (∀ r, c ≠ x.credential → knownOperator s.part c = some r →
      (∀ a, holds s.part a = true → operatorMayHold s.part (s.part.stc.settings.operators.get r) a = true) →
      (∀ a, holds s.part a = true → urgentAlerting s.part a = true →
        (∀ b, b < a → holds s.part b = true → urgentAlerting s.part b = false) →
        Machine.exec (.badgePresentation bits) s = .next (s.withPart { s.part with
          ssu := held,
          cnp := s.part.cnp.storing s.part.stc.seconds
            { kind := .reliefDenied, area := some a, reason := some .unackedUrgent } })) ∧
      ((∀ a, holds s.part a = true → urgentAlerting s.part a = false) → 8 ≤ occupied s.part →
        Machine.exec (.badgePresentation bits) s = .next (s.withPart { s.part with
          ssu := held,
          cnp := s.part.cnp.storing s.part.stc.seconds { kind := .reliefDenied, reason := some .busy } }))) ∧
    (∀ r, c ≠ x.credential → knownOperator s.part c = some r → sendingOpen s.part = true → occupied s.part < 8 →
      (∀ a, holds s.part a = true → operatorMayHold s.part (s.part.stc.settings.operators.get r) a = true ∧
        urgentAlerting s.part a = false) →
      ∃ u, Machine.exec (.badgePresentation bits) s = .next u ∧ u.pending = s.pending ∧ u.part.stc = s.part.stc ∧
        u.part.ssu = { held with
          session := some { credential := c, record := r, start := s.part.stc.seconds, mark := .queued,
                            number := s.part.ssu.nextNumber },
          nextNumber := s.part.ssu.nextNumber + 1, armed := false, window := 0 } ∧
        (∀ a, holds s.part a = true → holds u.part a = true) ∧
        u.part.aru.graceRunning = s.part.aru.graceRunning ∧
        (s.part.cnp.events.length < 64 →
          s.part.cnp.events ++ [{ kind := .sessionRelieved, time := s.part.stc.seconds }] <+: u.part.cnp.events))

/-- RELIEF_WINDOW_EXPIRY cancels an armed relief whose last second has come, with reason EXPIRED, and changes nothing
else but ANU's derivation. GRACE_EXPIRY releases every held area with HOLDING-RELEASED, reason GRACE, and stops the
timer; an offer record for such an area is freed, a HANDOVER one with OFFER-CLOSED (GRACE), a WITHDRAW for its target and
*handovers failed* (R91, R133, R140). That each count's last second is left to its command is the model's choice (log 19). -/
def Obligations.ReliefWindowAndGraceExpire : Prop :=
  (∀ (s : State), s.part.ssu.armed = true → s.part.ssu.window ≤ 1 →
    ∃ u, Machine.exec .reliefWindowExpiry s = .next u ∧
      u = s.withPart { s.part with
        ssu := { s.part.ssu with armed := false, window := 0 }, anu := u.part.anu,
        cnp := s.part.cnp.storing s.part.stc.seconds { kind := .reliefCancelled, reason := some .expired } }) ∧
  (∀ (s : State), s.part.aru.graceRunning = true → s.part.aru.grace ≤ 1 →
    ∃ u, Machine.exec .graceExpiry s = .next u ∧ u.pending = s.pending ∧ u.part.stc = s.part.stc ∧
      (∀ a, holds u.part a = false) ∧ u.part.aru.graceRunning = false ∧ u.part.aru.grace = 0 ∧
      (∀ a, holds s.part a = true →
        (view u.part a).holder = 0 ∧ (view u.part a).relinquished = true ∧
        (view u.part a).emergency = (view s.part a).emergency ∧
        (s.part.cnp.events = [] →
          ({ kind := .holdingReleased, time := s.part.stc.seconds, area := some a, reason := some .grace } : Event)
            ∈ u.part.cnp.events)) ∧
      (∀ a r o, holds s.part a = true → offerFor s.part a = some r → s.part.hou.offers.get r = some o →
        u.part.hou.offers.get r = none ∧
        (o.kind = .handover →
          (s.part.cnp.events = [] → offerClosedEvent s.part.stc.seconds .grace o ∈ u.part.cnp.events) ∧
          (s.part.hou.answers = [] → withdrawOf o ∈ u.part.hou.answers.map AnswerItem.subject))) ∧
      u.part.cnp.stats.handoversFailed = s.part.cnp.stats.handoversFailed +
        BitVec.ofNat 16 ((List.finRange 4).countP fun r => match s.part.hou.offers.get r with
          | some o => decide (o.kind = .handover) && holds s.part o.area && decide (offerFor s.part o.area = some r)
          | none => false))

/-! ## Chapter 9: the Station Link -/

/-- TELEGRAM_RECEIVED: a telegram addressed elsewhere leaves no trace; one that finds no room beyond the reserve for
marks is dropped and counted an overflow; else a good one is committed behind every other item with *telegrams
received good* advanced, and one that is not good is counted a check error and leaves no trace in the ring (R149,
R150). That room is judged once, for the whole telegram at its end, is the model's choice (log 41). -/
def Obligations.ReceivedTelegramIsCommittedOrCounted : Prop :=
  ∀ (s : State) (t : Telegram), listening s.part = true → telegramFits t = true → 1 ≤ t.source.toNat →
    t.source.toNat ≤ 62 → t.source ≠ s.part.stc.number →
    let size := (encodeTelegram t).length
    let count (c : Stats) : Cnp := { s.part.cnp with stats := c }
    (t.destination ≠ 0 ∧ t.destination ≠ s.part.stc.number →
      Machine.exec (.telegramReceived (lineBytes t)) s = .next s) ∧
    (t.destination = 0 ∨ t.destination = s.part.stc.number →
      (1024 < ringUsed s.part + markReserve s.part + size →
        Machine.exec (.telegramReceived (lineBytes t)) s = .next (s.withPart { s.part with
          cnp := count { s.part.cnp.stats with overflowDrops := s.part.cnp.stats.overflowDrops + 1 } })) ∧
      (ringUsed s.part + markReserve s.part + size ≤ 1024 →
        Machine.exec (.telegramReceived (lineBytes t)) s = .next (s.withPart { s.part with
          lif := { s.part.lif with
            ring := s.part.lif.ring ++ [.telegram t], headerPos := (s.part.lif.writePos + size) % 1024,
            writePos := (s.part.lif.writePos + size) % 1024 },
          cnp := count { s.part.cnp.stats with receivedGood := s.part.cnp.stats.receivedGood + 1 } }) ∧
        ∀ x y : Byte, [x, y] ≠ be16 (crc16 (encodeTelegram t)) →
          Machine.exec (.telegramReceived (encodeTelegram t ++ [x, y])) s = .next (s.withPart { s.part with
            cnp := count { s.part.cnp.stats with checkErrors := s.part.cnp.stats.checkErrors + 1 } })))

/-- SEND_ATTEMPT with nothing in transmission, in STARTING or RUNNING: the first WAITING telegram by class and entry
order becomes SENDING, and so does its record's or item's mark; a BEACON is composed now, any other goes as it entered
(R153, R155). The beacon says what R98 lists: RUNNING, the period, the credential, F, and the held areas from F on in area
order, 10 at most, each attended, emergency, flood, count, signature and figure as they stand, complete when none is left out. ARBITRATION_LOST and TRANSMIT_ERROR below the limit put the telegram of the attempt back to WAITING in its
place, its record's, item's or beacon's mark QUEUED again and what the beacon owed cleared, after a lost arbitration as
after an error (the model's choice, log 16); one marked final is not retried, and its slot is freed (R156). The error alone
advances *transmit errors* and the consecutive count (R148, R155, R157). LINE_COMPLETION: the telegram in transmission is
COMPLETE, *telegrams transmitted* advances, the consecutive error count is 0, and a completion mark of 4 bytes stands
behind every item of the ring (R152, R155), with no check of room (the model's choice, log 48). -/
def Obligations.AttemptsMoveTelegrams : Prop :=
  (∀ (s : State) (k : Fin 12) (x : Slot), sendingOpen s.part = true →
    (∀ j y, s.part.lif.slots.get j = some y → y.state ≠ .sending) →
    s.part.lif.slots.get k = some x → x.state = .waiting →
    (∀ j y, j ≠ k → s.part.lif.slots.get j = some y → y.state = .waiting →
      (payloadClass x.telegram.payload).toNat < (payloadClass y.telegram.payload).toNat ∨
        ((payloadClass x.telegram.payload).toNat = (payloadClass y.telegram.payload).toNat ∧ x.order < y.order)) →
    ∃ u t, Machine.exec .sendAttempt s = .next u ∧
      u = s.withPart { s.part with
        lif := { s.part.lif with slots := setAt s.part.lif.slots k (some { x with telegram := t, state := .sending }) },
        aru := if x.owner = .beacon then { s.part.aru with beaconMark := .sending } else s.part.aru,
        hou := s.part.hou.marked x.owner .sending .sending } ∧
      ((∀ c, x.telegram.payload ≠ .beacon c) → t = x.telegram) ∧
      (∀ c, x.telegram.payload = .beacon c →
        ∃ d, t = { x.telegram with payload := .beacon d } ∧ beaconDescribes s.part d)) ∧
  (∀ (s : State) (k : Fin 12) (x : Slot), sendingSlot s.part = some k → s.part.lif.slots.get k = some x →
    (x.final = true → noneWaiting s.part) →
    let ended : Part :=
      if x.final = true then { s.part with lif := { s.part.lif with slots := setAt s.part.lif.slots k none } }
      else { s.part with
        lif := { s.part.lif with slots := setAt s.part.lif.slots k (some { x with state := .waiting }) },
        aru := if x.owner = .beacon then { s.part.aru with beaconMark := .queued, beaconOwed := false } else s.part.aru,
        hou := s.part.hou.marked x.owner .queued .queued }
    Machine.exec .arbitrationLost s = .next (s.withPart ended) ∧
    (s.part.lif.errors < 15 → Machine.exec .transmitError s = .next (s.withPart { ended with
      lif := { ended.lif with errors := s.part.lif.errors + 1 },
      cnp := { s.part.cnp with stats := { s.part.cnp.stats with
        transmitErrors := s.part.cnp.stats.transmitErrors + 1 } } }))) ∧
  (∀ (s : State) (k : Fin 12) (x : Slot), sendingSlot s.part = some k → s.part.lif.slots.get k = some x →
    Machine.exec .lineCompletion s = .next (s.withPart { s.part with
      lif := { s.part.lif with
        slots := setAt s.part.lif.slots k (some { x with state := .complete }), errors := 0,
        ring := s.part.lif.ring ++ [.mark k], headerPos := (s.part.lif.writePos + 4) % 1024,
        writePos := (s.part.lif.writePos + 4) % 1024 },
      cnp := { s.part.cnp with stats := { s.part.cnp.stats with transmitted := s.part.cnp.stats.transmitted + 1 } } }))

/-- BUSY_FAULT with a head and nothing in transmission advances *transmit errors* and the consecutive count alone; the
error or fault that brings the count to 16 puts the station in ISOLATED: no telegram is left WAITING or SENDING, the
waiting list and the answer list are empty, no area is held, no record stands, no relief is armed, the session is
kept, a LOGIN mark QUEUED becoming OWED (R87), and the timer stands at 30 s (R157, R158). The model's choices: the abandoned
settle count reads 0 (log 15), a relief that is armed with nothing held is cancelled as well (log 37), and the mark becomes
OWED also where the LOGIN is COMPLETE (log 46). -/
def Obligations.SixteenthErrorIsolatesStation : Prop :=
  (∀ (s : State), sendingOpen s.part = true → sendingSlot s.part = none → (queueHead s.part).isSome = true →
    s.part.lif.errors < 15 → Machine.exec .busyFault s = .next (s.withPart { s.part with
      lif := { s.part.lif with errors := s.part.lif.errors + 1 },
      cnp := { s.part.cnp with stats := { s.part.cnp.stats with
        transmitErrors := s.part.cnp.stats.transmitErrors + 1 } } })) ∧
  (∀ (c : Instr) (s : State), s.part.lif.errors = 15 →
    (c = .transmitError ∧ (sendingSlot s.part).isSome = true) ∨
      (c = .busyFault ∧ sendingOpen s.part = true ∧ sendingSlot s.part = none ∧ (queueHead s.part).isSome = true) →
    ∃ u, Machine.exec c s = .next u ∧ u.pending = s.pending ∧
      u.part.stc = { s.part.stc with station := some .isolated, isolation := 30, settle := 0 } ∧
      u.part.lif.errors = 0 ∧ u.part.lif.waiting = [] ∧ u.part.lif.ring = s.part.lif.ring ∧
      (∀ k x, u.part.lif.slots.get k = some x → x.state = .complete ∧ s.part.lif.slots.get k = some x) ∧
      (∀ k x, s.part.lif.slots.get k = some x → x.state = .complete → u.part.lif.slots.get k = some x) ∧
      (∀ a, holds u.part a = false ∧ (view u.part a).syncMark = .none ∧ (view u.part a).resync = 0 ∧
        emergency u.part a = emergency s.part a) ∧
      (∀ r, u.part.hou.offers.get r = none ∧ u.part.hou.receptions.get r = none) ∧ u.part.hou.answers = [] ∧
      u.part.ssu.armed = false ∧
      u.part.ssu.session = (s.part.ssu.session.map fun y => if y.mark = .queued then { y with mark := .owed } else y) ∧
      u.part.aru.beaconMark = .idle ∧ u.part.aru.beaconOwed = false ∧
      (u.part.cnp.events.length < 64 → u.part.cnp.events.getLast? =
        some { kind := .stationState, time := s.part.stc.seconds, state := some .isolated }))

/-- The completions that give a station's own CONDITION, ACKNOWLEDGE, SHELVE, TRIP or RESTORE its effect here: ATU and
ARU apply it as they apply a received one; the slot of a CONDITION, ACKNOWLEDGE, SHELVE or of an input's TRIP of a
tripped area is freed and its mark leaves the ring (R9, R29, R58, R60, R107, R108, R152). -/
def Obligations.OwnCompletionAppliesTelegram : Prop :=
  ∀ (s : State) (k : Fin 12) (x : Slot), nextMark s.part k x → noneWaiting s.part →
    (∀ t n c, x.telegram.payload = .acknowledge t n c →
      Machine.exec .acknowledgeCompletion s = .next (s.withPart { applyAcknowledge t n c s.part with
        lif := s.part.lif.freed k })) ∧
    (∀ t n c, x.telegram.payload = .shelve t n c →
      Machine.exec .shelveCompletion s = .next (s.withPart
        { (if n = 0 then applyUnshelve t s.part else applyShelve t n c s.part.stc.number s.part) with
          lif := s.part.lif.freed k })) ∧
    (∀ i t y active n, x.owner = .input i → x.telegram.payload = .condition t y active n →
      (input s.part i).condition = (if active then .active else .clear) →
      ∃ u, Machine.exec .conditionCompletion s = .next u ∧ u.part.lif = s.part.lif.freed k ∧
        (input u.part i).published = active ∧ (input u.part i).publishedOccurrence = n ∧
        (input u.part i).publication = .settled ∧ (input u.part i).unpublished = 0 ∧
        let q := applyCondition t y active n { s.part with anu := { s.part.anu with
          inputs := setAt s.part.anu.inputs i { input s.part i with published := active, publishedOccurrence := n } } }
        u.part.atu = q.atu ∧ u.part.ldm = q.ldm) ∧
    (∀ a c, x.telegram.payload = .trip false a c → emergency s.part a = false →
      ∃ u, Machine.exec .tripCompletion s = .next u ∧ emergency u.part a = true ∧
        (s.part.cnp.events.length < 64 →
          s.part.cnp.events ++ [{ kind := .areaTripped, time := s.part.stc.seconds, area := some a,
                                  station := some s.part.stc.number, reason := some .telegram }] <+: u.part.cnp.events)) ∧
    (∀ a c i, x.telegram.payload = .trip false a c → emergency s.part a = true → x.owner = .input i →
      Machine.exec .tripCompletion s = .next (s.withPart { s.part with
        lif := s.part.lif.freed k,
        anu := { s.part.anu with inputs := setAt s.part.anu.inputs i { input s.part i with trip := .idle } } })) ∧
    (∀ a c, x.telegram.payload = .trip true a c → emergency s.part a = true →
      ∃ u, Machine.exec .restoreCompletion s = .next u ∧ emergency u.part a = false ∧ u.part.atu = s.part.atu ∧
        (s.part.cnp.events.length < 64 →
          u.part.cnp.events = s.part.cnp.events ++
            [{ kind := .areaRestored, time := s.part.stc.seconds, area := some a, station := some s.part.stc.number }]))

/-- LOGIN_COMPLETION frees the slot and clears the LOGIN mark of the session that the telegram belongs to, by its
number, and of no other (R86). SYNC_REQUEST_COMPLETION sets the area's mark to NONE (R105). ANSWER_ITEM_COMPLETION
takes the item off the answer list (R117). A slot freed while owners wait, here by a LOGIN's completion, serves one of them:
of those that may queue and have something to send the one of lowest class, and among equals the one that joined first; it
leaves the list, its telegram is composed now and stands WAITING in a slot, and its mark is QUEUED (R154). With no owner
waiting an OWED LOGIN is placed while fewer than 8 slots are occupied (R87). -/
def Obligations.MarksClearAtCompletion : Prop :=
  (∀ (s : State) (k : Fin 12) (x : Slot), nextMark s.part k x → noneWaiting s.part →
    (∀ n, x.owner = .session n → Machine.exec .loginCompletion s = .next (s.withPart { s.part with
      lif := s.part.lif.freed k,
      ssu := { s.part.ssu with session := s.part.ssu.session.map fun y =>
        if y.number = n then { y with mark := .none } else y } })) ∧
    (∀ a, x.owner = .syncRequest a → slotOfOwner (.syncRequest a) s.part = none →
      Machine.exec .syncRequestCompletion s = .next (s.withPart { s.part with
        lif := s.part.lif.freed k,
        aru := { s.part.aru with views := setAt s.part.aru.views a { view s.part a with syncMark := .none } } })) ∧
    (∀ n, x.owner = .answer n → Machine.exec .answerItemCompletion s = .next (s.withPart { s.part with
      lif := s.part.lif.freed k,
      hou := { s.part.hou with answers := s.part.hou.answers.filter fun i => decide (i.serial ≠ n) } }))) ∧
  (∀ (s : State) (k : Fin 12) (x : Slot) (n : Nat), nextMark s.part k x → x.owner = .session n →
    (∀ (before after : List Owner) (o : Owner) (t : Telegram),
      let rank (z : Telegram) : Nat := (payloadClass z.payload).toNat
      s.part.lif.waiting = before ++ o :: after → o ∉ before → o ∉ after →
      (∀ y, s.part.ssu.session = some y → y.mark ≠ .owed) → ownerMayQueue s.part o = true →
      ownerTelegram s.part o = some t →
      (∀ q ∈ before, ∀ z, ownerMayQueue s.part q = true → ownerTelegram s.part q = some z → rank t < rank z) →
      (∀ q ∈ after, ∀ z, ownerMayQueue s.part q = true → ownerTelegram s.part q = some z → rank t ≤ rank z) →
      ∃ u j, Machine.exec .loginCompletion s = .next u ∧ u.pending = s.pending ∧ u.part.stc = s.part.stc ∧
        u.part.atu = s.part.atu ∧ (j = k ∨ s.part.lif.slots.get j = none) ∧
        u.part.lif = { s.part.lif.freed k with
          waiting := before ++ after, nextOrder := s.part.lif.nextOrder + 1,
          slots := setAt (setAt s.part.lif.slots k none) j
            (some { telegram := t, owner := o, order := s.part.lif.nextOrder, state := .waiting, final := false }) } ∧
        u.part.hou = s.part.hou.marked o .queued .queued ∧
        (o = .beacon → u.part.aru = { s.part.aru with beaconMark := .queued, beaconOwed := false }) ∧
        (∀ a, o = .syncRequest a → (view u.part a).syncMark = .queued)) ∧
    (∀ y, s.part.lif.waiting = [] → s.part.ssu.session = some y → y.mark = .owed → y.number ≠ n →
      sendingOpen s.part = true → occupied s.part ≤ 8 →
      ∃ u j z, Machine.exec .loginCompletion s = .next u ∧ u.part.ssu.session = some { y with mark := .queued } ∧
        (j = k ∨ s.part.lif.slots.get j = none) ∧ u.part.lif.slots.get j = some z ∧ z.owner = .session y.number ∧
        z.state = .waiting ∧ z.telegram =
          { source := s.part.stc.number, destination := 0, payload := .login y.credential }))

/-- BEACON_SCHEDULE_DUE in RUNNING with the last second of the schedule come: with the mark IDLE and a slot free a
BEACON is placed and the mark is QUEUED; with no slot free it is owed and joins the waiting list; QUEUED stands;
SENDING owes a call (R97). BEACON_COMPLETION: the schedule stands at P, the next first area is 0 after a complete
beacon and else follows the last item, and the mark is IDLE; an owed call is made at once, so a fresh BEACON is queued
and the owed flag is clear (R97, R98). The model's choices: the schedule's last second is left to its command (log 19), and
a BEACON waits with blank content (log 42). -/
def Obligations.BeaconIsCalledAndCompletes : Prop :=
  (∀ (s : State), running s.part = true → s.part.aru.schedule ≤ 1 →
    let zero : Aru := { s.part.aru with schedule := 0 }
    (s.part.aru.beaconMark = .idle → occupied s.part < 12 →
      ∃ u, Machine.exec .beaconScheduleDue s = .next u ∧
        u = s.withPart { s.part with lif := u.part.lif, aru := { zero with beaconMark := .queued, beaconOwed := false } } ∧
        ∃ k n, s.part.lif.slots.get k = none ∧ u.part.lif.slots = setAt s.part.lif.slots k
          (some { telegram := { source := s.part.stc.number, destination := 0, payload := .beacon {} },
                  owner := .beacon, order := n, state := .waiting, final := false })) ∧
    (s.part.aru.beaconMark = .idle → occupied s.part = 12 →
      ∃ u, Machine.exec .beaconScheduleDue s = .next u ∧
        u = s.withPart { s.part with
          lif := { s.part.lif with waiting := u.part.lif.waiting }, aru := { zero with beaconOwed := true } } ∧
        Owner.beacon ∈ u.part.lif.waiting) ∧
    (s.part.aru.beaconMark = .queued → Machine.exec .beaconScheduleDue s = .next (s.withPart { s.part with aru := zero })) ∧
    (s.part.aru.beaconMark = .sending → Machine.exec .beaconScheduleDue s = .next (s.withPart { s.part with
      aru := { zero with beaconOwed := true } }))) ∧
  (∀ (s : State) (k : Fin 12) (x : Slot) (c : BeaconContent), nextMark s.part k x → noneWaiting s.part →
    x.telegram.payload = .beacon c → slotOfOwner .beacon s.part = none →
    let next : Area := if c.complete then 0 else
      match c.items.getLast? with
      | some i => Fin.ofNat 16 (i.area.val + 1)
      | none => 0
    let timed : Aru :=
      { s.part.aru with schedule := 2 ^ s.part.stc.settings.periodCode.toNat, first := next, beaconMark := .idle }
    (s.part.aru.beaconOwed = false → Machine.exec .beaconCompletion s = .next (s.withPart { s.part with
      lif := s.part.lif.freed k, aru := timed })) ∧
    (s.part.aru.beaconOwed = true → running s.part = true → occupied s.part < 12 →
      ∃ u, Machine.exec .beaconCompletion s = .next u ∧
        u = s.withPart { s.part with
          lif := u.part.lif, aru := { timed with beaconMark := .queued, beaconOwed := false } } ∧
        u.part.lif.slots.get k = none ∧
        ∃ j y, u.part.lif.slots.get j = some y ∧ y.owner = .beacon ∧ y.state = .waiting))

/-! ## Chapters 1, 2 and 4: the alarm table, shelves, the meter -/

/-- An occurrence number n against m, by the difference (n - m) mod 256: equal at 0, newer at 1..127, older at
128..255; with R8's three examples. -/
def Obligations.OccurrenceComparisonIsCircular : Prop :=
  (∀ (n m : Occurrence), let d := (256 + n.toNat - m.toNat) % 256
    (compareOccurrence n m = .equal ↔ d = 0) ∧ (compareOccurrence n m = .newer ↔ 1 ≤ d ∧ d ≤ 127) ∧
    (compareOccurrence n m = .older ↔ 128 ≤ d ∧ d ≤ 255)) ∧
  compareOccurrence 2 250 = .newer ∧ compareOccurrence 250 2 = .older ∧ compareOccurrence 130 2 = .older

/-- TAKE_CONDITION for a tag that is unmapped, or whose area is not followed, or whose entry is not changed by it: the
telegram is taken, and at most one statistic advances (R9, R10, R11). -/
def Obligations.ConditionWithoutEffectIsDropped : Prop :=
  ∀ (s : State) (t : Telegram) (tag : Tag) (x : Priority) (active : Bool) (n : Occurrence),
    nextTelegram s.part t → t.payload = .condition tag x active n →
    let taken : Part := { s.part with lif := s.part.lif.taken (encodeTelegram t).length }
    let counted (c : Stats) : State := s.withPart { taken with cnp := { s.part.cnp with stats := c } }
    (tagArea s.part tag = none → Machine.exec .takeCondition s = .next (counted
      { s.part.cnp.stats with unmappedConditions := s.part.cnp.stats.unmappedConditions + 1 })) ∧
    (∀ a, tagArea s.part tag = some a → followed s.part a = false →
      Machine.exec .takeCondition s = .next (s.withPart taken)) ∧
    (∀ a e, tagArea s.part tag = some a → followed s.part a = true → findEntry s.part tag = some e →
      (compareOccurrence n e.occurrence = .older → Machine.exec .takeCondition s = .next (counted
        { s.part.cnp.stats with staleConditions := s.part.cnp.stats.staleConditions + 1 })) ∧
      (compareOccurrence n e.occurrence = .equal → active = false → e.active = false →
        Machine.exec .takeCondition s = .next (s.withPart taken)) ∧
      (compareOccurrence n e.occurrence = .equal → active = true → x = e.priority → EntryFine e →
        Machine.exec .takeCondition s = .next (s.withPart taken)))

/-- TAKE_CONDITION that changes or creates an entry: the entry has the fields of R10 to R15, every other entry is as
it was, and a new occurrence without a shelf accrues its priority's weight before its quiet flag is decided. The horn
demands: a new occurrence, and a shelf removed by priority 1, raise the demand of the entry's level when the entry sounds; no
other change raises one; a demand that no entry sounds for is cleared (R39, R45, R48): a new occurrence that removes a shelf
gives its own notice alone (the model's choice, log 32). An accrual judges the area's flood state, and FLOOD-ON is the one
event stored, when the area goes from CALM to FLOOD; a repeat stores none (R64). A removal that leaves 448 entries or fewer
clears every overflow indicator (R18). -/
def Obligations.ConditionTelegramUpdatesEntry : Prop :=
  ∀ (s : State) (t : Telegram) (tag : Tag) (a : Area) (x : Priority) (active : Bool) (n : Occurrence),
    nextTelegram s.part t → t.payload = .condition tag x active n → tagArea s.part tag = some a →
    followed s.part a = true →
    ∃ u, Machine.exec .takeCondition s = .next u ∧
      u = s.withPart { s.part with
        lif := s.part.lif.taken (encodeTelegram t).length, atu := u.part.atu, ldm := u.part.ldm, anu := u.part.anu,
        cnp := u.part.cnp } ∧
      (TagsRise s.part.atu.table → findEntry s.part tag ≠ none ∨ s.part.atu.table.length < 512 →
        indicatorsFollow s.part u.part) ∧
      (∀ e, findEntry s.part tag = some e → ∀ y, y ≠ tag → findEntry u.part y = findEntry s.part y) ∧
      (∀ e, findEntry s.part tag = some e → compareOccurrence n e.occurrence = .newer →
        let shelf := if x = .p1 then none else e.shelf
        findEntry u.part tag = some { e with
          occurrence := n, active := active, acknowledged := false, ackCredential := none, priority := x, shelf := shelf,
          quiet := decide (levelOf x = .routine) && inFlood u.part e.area && !emergency s.part e.area,
          lastChange := s.part.stc.seconds } ∧
        demandsDerived s.part u.part (tagSounds u.part tag) ∧
        (FloodFine s.part → floodRisen s.part u.part e.area ∧ (∀ b, b ≠ e.area → inFlood u.part b = inFlood s.part b) ∧
          u.part.cnp = floodStored s.part u.part e.area) ∧
        ∀ b, loadOf u.part b = if b = e.area ∧ shelf = none
          then BitVec.ofNat 16 (min 65535 ((loadOf s.part b).toNat + weightOf s.part x)) else loadOf s.part b) ∧
      (∀ e, findEntry s.part tag = some e → compareOccurrence n e.occurrence = .equal →
        u.part.cnp = s.part.cnp ∧
        (active = true → x = .p1 → e.shelf ≠ none →
          findEntry u.part tag = (if e.active = false ∧ e.acknowledged = true then none
            else some { e with priority := .p1, shelf := none, quiet := false, lastChange := s.part.stc.seconds }) ∧
          u.part.ldm = s.part.ldm ∧ demandsDerived s.part u.part (tagSounds u.part tag)) ∧
        (active = true → x ≠ e.priority → (x ≠ .p1 ∨ e.shelf = none) →
          findEntry u.part tag = some { e with
            priority := x, quiet := if levelOf x = .urgent then false else e.quiet,
            lastChange := s.part.stc.seconds } ∧ u.part.ldm = s.part.ldm ∧
          demandsDerived s.part u.part fun _ => False) ∧
        (active = false → e.active = true →
          findEntry u.part tag = (if e.acknowledged = true ∧ e.shelf = none then none
            else some { e with active := false, lastChange := s.part.stc.seconds }) ∧ u.part.ldm = s.part.ldm ∧
          demandsDerived s.part u.part fun _ => False)) ∧
      (findEntry s.part tag = none → s.part.atu.table.length < 512 →
        (∀ y, y ≠ tag → findEntry u.part y = findEntry s.part y) ∧
        demandsDerived s.part u.part (tagSounds u.part tag) ∧
        (FloodFine s.part → floodRisen s.part u.part a ∧ (∀ b, b ≠ a → inFlood u.part b = inFlood s.part b) ∧
          u.part.cnp = floodStored s.part u.part a) ∧
        findEntry u.part tag = some {
          tag := tag, area := a, priority := x, occurrence := n, active := active, acknowledged := false,
          ackCredential := none, quiet := decide (levelOf x = .routine) && inFlood u.part a && !emergency s.part a,
          shelf := none, firstRaised := s.part.stc.seconds, lastChange := s.part.stc.seconds } ∧
        ∀ b, loadOf u.part b = if b = a
          then BitVec.ofNat 16 (min 65535 ((loadOf s.part b).toNat + weightOf s.part x)) else loadOf s.part b)

/-- A new tag at a table of 512: at routine priority, or with no STANDING unshelved entry, it is not stored, its
area's overflow indicator is set and TABLE-OVERFLOW (NOT-STORED) is stored; else, at urgent priority, the STANDING
unshelved entry of largest priority number, then oldest, then lowest tag is evicted for it with TABLE-OVERFLOW (EVICTED),
its area's overflow indicator set and no other touched (R16, R17, R18). Each advances *table overflows*. That first-raised
times are compared as numbers is the model's choice (log 43). -/
def Obligations.FullTableEvictsOrDrops : Prop :=
  ∀ (s : State) (t : Telegram) (tag : Tag) (a : Area) (x : Priority) (active : Bool) (n : Occurrence),
    nextTelegram s.part t → t.payload = .condition tag x active n → tagArea s.part tag = some a →
    followed s.part a = true → findEntry s.part tag = none → s.part.atu.table.length = 512 →
    (levelOf x = .routine ∨ (∀ e ∈ s.part.atu.table, entryState e ≠ some .standing) →
      Machine.exec .takeCondition s = .next (s.withPart { s.part with
        lif := s.part.lif.taken (encodeTelegram t).length,
        atu := { s.part.atu with overflow := s.part.atu.overflow ||| AreaSet.single a },
        cnp := ({ s.part.cnp with stats := { s.part.cnp.stats with
            tableOverflows := s.part.cnp.stats.tableOverflows + 1 } }).storing s.part.stc.seconds
          { kind := .tableOverflow, area := some a, tag := some tag, reason := some .notStored } })) ∧
    (∀ y, levelOf x = .urgent → y ∈ s.part.atu.table → entryState y = some .standing →
      (∀ z ∈ s.part.atu.table, entryState z = some .standing → z ≠ y →
        priorityNumber z.priority < priorityNumber y.priority ∨ (priorityNumber z.priority = priorityNumber y.priority ∧
          (y.firstRaised.toNat < z.firstRaised.toNat ∨
            (y.firstRaised = z.firstRaised ∧ y.tag.toNat < z.tag.toNat)))) →
      ∃ u, Machine.exec .takeCondition s = .next u ∧ findEntry u.part y.tag = none ∧
        (∀ z, z ≠ y.tag → z ≠ tag → findEntry u.part z = findEntry s.part z) ∧
        (∃ e, findEntry u.part tag = some e ∧ e.area = a ∧ e.priority = x ∧ e.occurrence = n ∧ e.active = active ∧
          e.acknowledged = false ∧ e.quiet = false ∧ e.shelf = none) ∧
        (TagsRise s.part.atu.table → u.part.atu.overflow = s.part.atu.overflow ||| AreaSet.single y.area) ∧
        u.part.cnp.stats = { s.part.cnp.stats with tableOverflows := s.part.cnp.stats.tableOverflows + 1 } ∧
        (s.part.cnp.events.length < 64 →
          s.part.cnp.events ++ [{ kind := .tableOverflow, time := s.part.stc.seconds, area := some y.area,
                                  tag := some y.tag, reason := some .evicted }] <+: u.part.cnp.events))

/-- TAKE_ACKNOWLEDGE: unmapped or unfollowed it is dropped; with no entry, or another occurrence, it is stale; an
acknowledged entry makes it a duplicate; else the entry is acknowledged with the credential, or goes when it is CLEAR
and unshelved (R15, R27). TAKE_SHELVE: with no entry, at priority 1 or in EMERGENCY it is stale; else the entry
carries a shelf of the clamped seconds with the telegram's credential and source, and nothing else of the table
changes; the same at the completion of the station's own SHELVE, with its own number as the shelving station (R33, R35). A
shelf of credential 0 is reported with no credential (R35). Neither raises a horn demand, and one that no entry sounds for
any more is cleared (R48); a removal that leaves 448 entries or fewer clears every overflow indicator, and nothing else
touches one (R18). -/
def Obligations.AcknowledgeAndShelveAreApplied : Prop :=
  (∀ (s : State) (t : Telegram) (tag : Tag) (n : Occurrence) (c : Credential),
    nextTelegram s.part t → t.payload = .acknowledge tag n c →
    let taken : Part := { s.part with lif := s.part.lif.taken (encodeTelegram t).length }
    let counted (x : Stats) : State := s.withPart { taken with cnp := { s.part.cnp with stats := x } }
    let stale := counted { s.part.cnp.stats with staleAcknowledgements := s.part.cnp.stats.staleAcknowledgements + 1 }
    (tagArea s.part tag = none ∨ (∃ a, tagArea s.part tag = some a ∧ followed s.part a = false) →
      Machine.exec .takeAcknowledge s = .next (s.withPart taken)) ∧
    (∀ a, tagArea s.part tag = some a → followed s.part a = true →
      (findEntry s.part tag = none → Machine.exec .takeAcknowledge s = .next stale) ∧
      (∀ e, findEntry s.part tag = some e →
        (n ≠ e.occurrence → Machine.exec .takeAcknowledge s = .next stale) ∧
        (n = e.occurrence → e.acknowledged = true → Machine.exec .takeAcknowledge s = .next (counted
          { s.part.cnp.stats with
            duplicateAcknowledgements := s.part.cnp.stats.duplicateAcknowledgements + 1 })) ∧
        (n = e.occurrence → e.acknowledged = false →
          ∃ u, Machine.exec .takeAcknowledge s = .next u ∧
            u = s.withPart { taken with atu := u.part.atu, anu := u.part.anu } ∧
            (∀ y, y ≠ tag → findEntry u.part y = findEntry s.part y) ∧
            demandsDerived s.part u.part (fun _ => False) ∧
            (TagsRise s.part.atu.table → indicatorsFollow s.part u.part) ∧
            findEntry u.part tag = (if e.active = false ∧ e.shelf = none then none
              else some { e with
                acknowledged := true, ackCredential := if c = 0 then none else some c, quiet := false,
                lastChange := s.part.stc.seconds }))))) ∧
  (∀ (s : State) (t : Telegram) (tag : Tag) (n : Word16) (c : Credential),
    nextTelegram s.part t → t.payload = .shelve tag n c → n ≠ 0 →
    let taken : Part := { s.part with lif := s.part.lif.taken (encodeTelegram t).length }
    let stale := s.withPart { taken with cnp := { s.part.cnp with stats := { s.part.cnp.stats with
      staleAcknowledgements := s.part.cnp.stats.staleAcknowledgements + 1 } } }
    (tagArea s.part tag = none ∨ (∃ a, tagArea s.part tag = some a ∧ followed s.part a = false) →
      Machine.exec .takeShelve s = .next (s.withPart taken)) ∧
    (∀ a, tagArea s.part tag = some a → followed s.part a = true →
      (findEntry s.part tag = none → Machine.exec .takeShelve s = .next stale) ∧
      (∀ e, findEntry s.part tag = some e →
        (e.priority = .p1 ∨ emergency s.part e.area = true → Machine.exec .takeShelve s = .next stale) ∧
        (e.priority ≠ .p1 → emergency s.part e.area = false →
          ∃ u, Machine.exec .takeShelve s = .next u ∧
            u = s.withPart { taken with atu := u.part.atu, anu := u.part.anu } ∧
            (∀ y, y ≠ tag → findEntry u.part y = findEntry s.part y) ∧
            demandsDerived s.part u.part (fun _ => False) ∧
            (TagsRise s.part.atu.table → indicatorsFollow s.part u.part) ∧
            findEntry u.part tag = some { e with
              shelf := some {
                seconds := if n.toNat < 60 then 60 else if 28800 < n.toNat then 28800 else n.toNat,
                credential := c, station := t.source },
              lastChange := s.part.stc.seconds })))) ∧
  (∀ (s : State) (k : Fin 12) (x : Slot) (tag : Tag) (n : Word16) (c : Credential) (a : Area) (e : Entry),
    nextMark s.part k x → noneWaiting s.part → x.telegram.payload = .shelve tag n c → n ≠ 0 →
    tagArea s.part tag = some a → followed s.part a = true → findEntry s.part tag = some e → e.priority ≠ .p1 →
    emergency s.part e.area = false →
    ∃ u, Machine.exec .shelveCompletion s = .next u ∧ findEntry u.part tag = some { e with
      shelf := some {
        seconds := if n.toNat < 60 then 60 else if 28800 < n.toNat then 28800 else n.toNat,
        credential := c, station := s.part.stc.number },
      lastChange := s.part.stc.seconds }) ∧
  (∀ (e : Entry) (h : Shelf), e.shelf = some h → h.credential = 0 →
    ((entryBytes e).drop 10).take 3 = [0, 0, 0] ∧ ∃ b, (entryBytes e)[3]? = some b ∧ b.getLsbD 5 = true)

/-- TAKE_UNSHELVE and SHELF_EXPIRY remove the entry's shelf, whatever its priority and the area's emergency state: the
entry goes when it is CLEAR and acknowledged, else it keeps its other fields; expiry alone stores SHELF-EXPIRED (R34,
R37, R38, R39), and an entry so uncovered raises the demand of its level when it sounds (R39, R45); a removal that leaves 448
entries or fewer clears every overflow indicator (R18). An unshelve that finds no
shelf changes nothing, one that finds no entry is stale, and one for a tag unmapped or unfollowed is dropped without counting
(R34). That a shelf's last second is left to its command is the model's choice (log 19). -/
def Obligations.ShelfRemovalUncoversEntry : Prop :=
  (∀ (s : State) (tag : Tag) (e : Entry) (h : Shelf), findEntry s.part tag = some e → e.shelf = some h →
    let bare : Option Entry := if e.active = false ∧ e.acknowledged = true then none
      else some { e with shelf := none, lastChange := s.part.stc.seconds }
    (∀ t c a, nextTelegram s.part t → t.payload = .shelve tag 0 c → tagArea s.part tag = some a →
      followed s.part a = true →
      ∃ u, Machine.exec .takeUnshelve s = .next u ∧
        u = s.withPart { s.part with
          lif := s.part.lif.taken (encodeTelegram t).length, atu := u.part.atu, anu := u.part.anu } ∧
        demandsDerived s.part u.part (tagSounds u.part tag) ∧ (TagsRise s.part.atu.table → indicatorsFollow s.part u.part) ∧
        findEntry u.part tag = bare ∧ ∀ y, y ≠ tag → findEntry u.part y = findEntry s.part y) ∧
    (listening s.part = true → h.seconds ≤ 1 →
      ∃ u, Machine.exec (.shelfExpiry tag) s = .next u ∧
        u = s.withPart { s.part with
          atu := u.part.atu, anu := u.part.anu,
          cnp := s.part.cnp.storing s.part.stc.seconds
            { kind := .shelfExpired, area := some e.area, tag := some tag } } ∧
        demandsDerived s.part u.part (tagSounds u.part tag) ∧ (TagsRise s.part.atu.table → indicatorsFollow s.part u.part) ∧
        findEntry u.part tag = bare ∧ ∀ y, y ≠ tag → findEntry u.part y = findEntry s.part y)) ∧
  (∀ (s : State) (t : Telegram) (tag : Tag) (c : Credential), nextTelegram s.part t → t.payload = .shelve tag 0 c →
    let taken : Part := { s.part with lif := s.part.lif.taken (encodeTelegram t).length }
    (tagArea s.part tag = none ∨ (∃ a, tagArea s.part tag = some a ∧ followed s.part a = false) →
      Machine.exec .takeUnshelve s = .next (s.withPart taken)) ∧
    (∀ a, tagArea s.part tag = some a → followed s.part a = true →
      (findEntry s.part tag = none → Machine.exec .takeUnshelve s = .next (s.withPart { taken with
        cnp := { s.part.cnp with stats := { s.part.cnp.stats with
          staleAcknowledgements := s.part.cnp.stats.staleAcknowledgements + 1 } } })) ∧
      (∀ e, findEntry s.part tag = some e → e.shelf = none →
        Machine.exec .takeUnshelve s = .next (s.withPart taken))))

/-- METERING_TICK in STARTING, RUNNING and ISOLATED lowers every figure above 0 by itself over 2^k, at least by 1, and
judges its flood state: an area in FLOOD becomes CALM exactly when its lowered figure is T_off or less (R64, R66). -/
def Obligations.MeteringTickDecaysFigures : Prop :=
  ∀ (s : State), listening s.part = true →
    (∀ a, inFlood s.part a = false → (loadOf s.part a).toNat < s.part.stc.settings.floodOn) →
    ∃ u, Machine.exec .meteringTick s = .next u ∧
      u = s.withPart { s.part with ldm := u.part.ldm, cnp := u.part.cnp } ∧
      (∀ a, (loadOf u.part a).toNat =
        (loadOf s.part a).toNat - (if (loadOf s.part a).toNat = 0 then 0
          else max 1 ((loadOf s.part a).toNat / 2 ^ s.part.stc.settings.decayShift))) ∧
      (∀ a, inFlood u.part a = (inFlood s.part a &&
        (decide (loadOf s.part a = 0) || decide (s.part.stc.settings.floodOff < (loadOf u.part a).toNat)))) ∧
      u.part.cnp.stats = s.part.cnp.stats ∧
      (∀ a, inFlood s.part a = true → inFlood u.part a = false → s.part.cnp.events = [] →
        ({ kind := .floodOff, time := s.part.stc.seconds, area := some a } : Event) ∈ u.part.cnp.events)

/-! ## Chapter 6: responsibility for areas -/

/-- TAKE_BEACON from station x, by R99 to R101, R93 and R109: a beacon of a station that is not RUNNING, or whose source is
not 1..62, is dropped; else x is heard with age 0, and each listed area is recorded with holder x unless a lower-numbered
holder stands or this station holds it; an area held here is kept from a higher x and yielded to a lower one, with *conflicts
yielded* and CONFLICT, its offer record freed, a HANDOVER one with *handovers failed*, OFFER-CLOSED (CONFLICT) and a WITHDRAW
(R96, R133), CONFLICT standing first (the model's choice, log 20); an area of the covered range, which is empty for an
incomplete beacon of no items (the model's choice, log 59), that x held and does not list loses its holder, with HOLDER-LOST
(OMITTED) if followed, by rising number (the model's choice, log 52); each emergency flag is taken, with AREA-TRIPPED (BEACON), and T is set when the
tripped area was annunciated before the beacon (R46; the model's choice, log 25). A recorded holder clears the relinquished
mark (R96), and a changed one clears mismatch count and resync pending and drops an OWED request (the model's choice in part,
log 17). For a listed area of the configured sets whose recorded holder is x the
counts and signatures are compared: agreement clears the mismatch count, a difference raises it to 2 at most, and at 2, with
no resync pending and the mark NONE, a SYNC-REQUEST to x is issued, QUEUED with a slot free in STARTING or RUNNING, OWED in
ISOLATED, resync pending at 30 (R104, R105); a start-up request is served alike in STARTING (R105). -/
def Obligations.BeaconUpdatesViews : Prop :=
  ∀ (s : State) (t : Telegram) (c : BeaconContent), nextTelegram s.part t → t.payload = .beacon c →
    (c.state ≠ .running ∨ t.source = 0 ∨ t.source = 63 → Machine.exec .takeBeacon s =
      .next (s.withPart { s.part with lif := s.part.lif.taken (encodeTelegram t).length })) ∧
    (c.state = .running → 1 ≤ t.source.toNat → t.source.toNat ≤ 62 →
      c.items.Pairwise (fun i j => i.area ≠ j.area) →
      ∃ u, Machine.exec .takeBeacon s = .next u ∧ u.pending = s.pending ∧ u.part.stc = s.part.stc ∧
        heardRecord u.part t.source =
          some { station := t.source, period := c.period, age := 0, credential := c.credential } ∧
        (∀ y, y ≠ t.source → heardRecord u.part y = heardRecord s.part y) ∧
        (∀ i ∈ c.items,
          let before := view s.part i.area
          let after := view u.part i.area
          (i.emergency = true → after.emergency = true) ∧
          (holds s.part i.area = false → before.holder = 0 ∨ before.holder = t.source ∨
              t.source.toNat < before.holder.toNat →
            after.holder = t.source ∧ after.attended = i.attended ∧ after.holderCount = i.count ∧
            after.holderSignature = i.signature ∧ after.holderLoad = i.load ∧ after.holderPeriod = c.period ∧
            after.age = 0 ∧ after.relinquished = false ∧ holds u.part i.area = false) ∧
          (holds s.part i.area = false → before.holder ≠ 0 → before.holder.toNat < t.source.toNat →
            after.holder = before.holder ∧ after.attended = before.attended ∧ after.age = before.age) ∧
          (holds s.part i.area = true → t.source.toNat < s.part.stc.number.toNat →
            holds u.part i.area = false ∧ after.holder = t.source ∧ after.attended = i.attended) ∧
          (holds s.part i.area = true → s.part.stc.number.toNat < t.source.toNat → holds u.part i.area = true) ∧
          (holds s.part i.area = false ∨ s.part.stc.number.toNat < t.source.toNat → i.emergency = true →
            before.emergency = false → annunciated s.part i.area = true → u.part.anu.trip = true)) ∧
        (∀ i ∈ c.items, holds s.part i.area = false →
          inHome s.part i.area = true ∨ inStandby s.part i.area = true ∨ inWatch s.part i.area = true →
          let before := view s.part i.area
          let after := view u.part i.area
          before.holder = 0 ∨ before.holder = t.source ∨ t.source.toNat < before.holder.toNat →
          (before.syncMark = .owed → before.holder = t.source ∨ c.items = [i]) →
          (before.syncMark ≠ .owed → Owner.syncRequest i.area ∉ s.part.lif.waiting) →
          let agrees : Bool :=
            decide (i.count.toNat = areaCount s.part i.area) && decide (i.signature = areaSignature s.part i.area)
          let same : Bool := decide (before.holder = t.source)
          let count : Nat := if agrees = true then 0 else if same = true then min 2 (before.mismatch + 1) else 1
          let mark : SyncMark := if same = false ∧ before.syncMark = .owed then .none else before.syncMark
          let resync : Nat := if same = true then before.resync else 0
          let differs : Prop := agrees = false ∧ count = 2 ∧ resync = 0 ∧ mark = .none
          let startsUp : Prop := starting s.part = true ∧ before.startup = true ∧ resync = 0 ∧ mark = .none
          after.mismatch = count ∧
          (differs ∨ startsUp → after.resync = 30 ∧
            (isolated s.part = true → after.syncMark = .owed) ∧
            (sendingOpen s.part = true → after.syncMark = .queued ∨ after.syncMark = .owed)) ∧
          (differs → sendingOpen s.part = true → c.items = [i] → occupied s.part < 12 → after.syncMark = .queued ∧
            ∃ k y, u.part.lif.slots.get k = some y ∧ y.owner = .syncRequest i.area ∧ y.state = .waiting ∧
              y.telegram = { source := s.part.stc.number, destination := t.source, payload := .syncRequest i.area }) ∧
          (differs → after.startup = before.startup) ∧ (¬differs → startsUp → after.startup = false) ∧
          (¬differs → ¬startsUp →
            after.resync = resync ∧ after.startup = before.startup ∧ (mark ≠ .owed → after.syncMark = mark))) ∧
        (∀ a, covered c a = true → (∀ i ∈ c.items, i.area ≠ a) → (view s.part a).holder = t.source →
          holderCleared (view u.part a)) ∧
        u.part.cnp.stats.conflictsYielded = s.part.cnp.stats.conflictsYielded + BitVec.ofNat 16
          (c.items.countP fun i => holds s.part i.area && decide (t.source.toNat < s.part.stc.number.toNat)) ∧
        (∀ i, c.items = [i] → holds s.part i.area = true → t.source.toNat < s.part.stc.number.toNat →
          let yielded : Event :=
            { kind := .conflict, time := s.part.stc.seconds, area := some i.area, station := some t.source }
          (s.part.cnp.events.length < 64 → s.part.cnp.events ++ [yielded] <+: u.part.cnp.events) ∧
          (∀ r o, offerFor s.part i.area = some r → s.part.hou.offers.get r = some o →
            u.part.hou.offers.get r = none ∧
            (o.kind = .handover →
              (s.part.cnp.events.length + 2 ≤ 64 → s.part.cnp.events
                ++ [yielded, offerClosedEvent s.part.stc.seconds .conflict o] <+: u.part.cnp.events) ∧
              (s.part.hou.answers.length < 4 → withdrawOf o ∈ u.part.hou.answers.map AnswerItem.subject) ∧
              (i.emergency = false →
                u.part.cnp.stats.handoversFailed = s.part.cnp.stats.handoversFailed + 1)))) ∧
        (let omitted := (List.finRange 16).filter fun a =>
          covered c a && decide ((view s.part a).holder = t.source) && followed s.part a
         c.items = [] → s.part.cnp.events.length + omitted.length ≤ 64 →
          s.part.cnp.events ++ omitted.map (fun a =>
            { kind := .holderLost, time := s.part.stc.seconds, area := some a, station := some t.source,
              reason := some .omitted }) <+: u.part.cnp.events) ∧
        (∀ i, c.items = [i] → holds s.part i.area = false ∨ s.part.stc.number.toNat < t.source.toNat →
          i.emergency = true → emergency s.part i.area = false →
          (∀ a, a ≠ i.area → covered c a = true → (view s.part a).holder ≠ t.source) →
          s.part.cnp.events.length < 64 →
          s.part.cnp.events ++ [{ kind := .areaTripped, time := s.part.stc.seconds, area := some i.area,
                                  station := some t.source, reason := some .beacon }] <+: u.part.cnp.events))

/-- HOLDER_AGED for an area not held here whose holder's age passes three of its periods: the holder and all its fields are
cleared, as R92 has them with holder 0, with mismatch count and resync pending, and an OWED SYNC-REQUEST is dropped; HOLDER-LOST with reason AGED comes first when the area is followed; a home area that the session may hold
is claimed at once, and an area left orphaned has its claim delay at 3P (the model's choice: an age's last step, and a claim
delay's last second, are left to their commands, log 19). STATION_UNHEARD drops the station's record
alone (R93, R101, R102, R103). CLAIM_DELAY_RUN on an orphaned area: its delay stands at 0; in RUNNING an area of the
standby or home set, not relinquished, with no reception record, that the session may hold is then claimed; out of
RUNNING nothing else changes (R102, R103). An area that a claim makes annunciated sets U, Rt and T for what it holds
(R47). -/
def Obligations.SilentHolderAndRunDelay : Prop :=
  ((∀ (s : State) (a : Area), listening s.part = true → holds s.part a = false → (view s.part a).holder ≠ 0 →
    3 * 2 ^ (view s.part a).holderPeriod.toNat < (view s.part a).age + 1 →
    let sounded (u : State) : Prop :=
      ((∃ e ∈ u.part.atu.table, e.area = a ∧ sounds u.part .urgent e) → u.part.anu.urgent = true) ∧
      ((∃ e ∈ u.part.atu.table, e.area = a ∧ sounds u.part .routine e) → u.part.anu.routine = true) ∧
      (emergency s.part a = true → u.part.anu.trip = true)
    ∃ u, Machine.exec (.holderAged a) s = .next u ∧ u.pending = s.pending ∧ u.part.stc = s.part.stc ∧
      u.part.ssu = s.part.ssu ∧ u.part.hou = s.part.hou ∧
      holderCleared (view u.part a) ∧ (view u.part a).mismatch = 0 ∧ (view u.part a).resync = 0 ∧
      (view u.part a).syncMark = (if (view s.part a).syncMark = .owed then .none else (view s.part a).syncMark) ∧
      Owner.syncRequest a ∉ u.part.lif.waiting ∧
      (followed s.part a = true → s.part.cnp.events.length < 64 →
        s.part.cnp.events ++ [{ kind := .holderLost, time := s.part.stc.seconds, area := some a,
                                station := some (view s.part a).holder, reason := some .aged }] <+: u.part.cnp.events) ∧
      (annunciated s.part a = false → holds u.part a = true → sounded u) ∧
      (holds u.part a = false →
        (view u.part a).claimDelay = 3 * 2 ^ s.part.stc.settings.periodCode.toNat) ∧
      (inHome s.part a = true → (view s.part a).relinquished = false → running s.part = true →
        mayHold s.part a = true → receptionFor s.part a = none → holds u.part a = true)) ∧
  (∀ (s : State) (x : StationNo) (h : Heard), listening s.part = true → heardRecord s.part x = some h →
    3 * 2 ^ h.period.toNat < h.age + 1 →
    Machine.exec (.stationUnheard x) s = .next (s.withPart { s.part with
      aru := { s.part.aru with stations := s.part.aru.stations.filter fun y => decide (y.station ≠ x) } }))) ∧
  (∀ (s : State) (a : Area), listening s.part = true → orphaned s.part a = true → (view s.part a).claimDelay ≤ 1 →
    (running s.part = false → Machine.exec (.claimDelayRun a) s = .next (s.withPart { s.part with
      aru := { s.part.aru with views := setAt s.part.aru.views a { view s.part a with claimDelay := 0 } } })) ∧
    (running s.part = true → mayHold s.part a = true → (inStandby s.part a = true ∨ inHome s.part a = true) →
      (view s.part a).relinquished = false → receptionFor s.part a = none →
      ∃ u, Machine.exec (.claimDelayRun a) s = .next u ∧ u.pending = s.pending ∧ u.part.stc = s.part.stc ∧
        u.part.atu = s.part.atu ∧ u.part.ssu = s.part.ssu ∧ u.part.hou = s.part.hou ∧
        holds u.part a = true ∧ (view u.part a).holder = 0 ∧
        (annunciated s.part a = false →
          ((∃ e ∈ s.part.atu.table, e.area = a ∧ sounds u.part .urgent e) → u.part.anu.urgent = true) ∧
          ((∃ e ∈ s.part.atu.table, e.area = a ∧ sounds u.part .routine e) → u.part.anu.routine = true) ∧
          (emergency s.part a = true → u.part.anu.trip = true)) ∧
        (s.part.cnp.events = [] →
          ({ kind := .claimed, time := s.part.stc.seconds, area := some a } : Event) ∈ u.part.cnp.events)))

/-- TAKE_SYNC_REQUEST: a request that is not addressed, or for an area not held or in EMERGENCY, is dropped; for a
held NORMAL area without an offer record, with a record and room free, a SYNC record latches the area's summaries as R115
has them and its first segment is queued, broadcast (R106, R115, R134). The model's choices: a request that is not addressed
is dropped (log 26), the record taken is the lowest-numbered free one (log 23), first-raised times are compared as numbers
(log 43), the age is taken modulo 2^32 (log 12), and the reply timer, which never starts, reads 0 (log 57). -/
def Obligations.SyncRequestStartsSync : Prop :=
  ∀ (s : State) (t : Telegram) (a : Area), nextTelegram s.part t → t.payload = .syncRequest a →
    let l := s.part.lif.taken (encodeTelegram t).length
    (t.destination = 0 ∨ holds s.part a = false ∨ emergency s.part a = true →
      Machine.exec .takeSyncRequest s = .next (s.withPart { s.part with lif := l })) ∧
    (∀ r, t.destination ≠ 0 → holds s.part a = true → emergency s.part a = false → offerFor s.part a = none →
      freeOfferRecord s.part = some r → areaCount s.part a + storeReserved s.part ≤ 512 → running s.part = true →
      occupied s.part < 12 →
      ∃ u o, Machine.exec .takeSyncRequest s = .next u ∧
        u = s.withPart { s.part with
          lif := u.part.lif, anu := u.part.anu,
          hou := { s.part.hou with
            offers := setAt s.part.hou.offers r (some o), nextSerial := s.part.hou.nextSerial + 1 } } ∧
        o = { kind := .sync, area := a, target := 0, number := 0, entryCount := areaCount s.part a,
              segmentCount := max 1 ((areaCount s.part a + 7) / 8), nextIndex := 1, state := .sending,
              load := loadOf s.part a, signature := areaSignature s.part a, credential := 0, replyTimer := 0,
              mark := .queued, summaries := o.summaries, serial := s.part.hou.nextSerial } ∧
        latched s.part a o.summaries ∧
        u.part.lif.ring = l.ring ∧ u.part.lif.readPos = l.readPos ∧
        s.part.lif.enqueued u.part.lif (.offer r o.serial)
          { source := s.part.stc.number, destination := 0, payload := .digest {
              area := a, number := 0, entryCount := BitVec.ofNat 16 (areaCount s.part a), index := 1, first := true,
              last := decide (areaCount s.part a ≤ 8), load := loadOf s.part a,
              summaries := o.summaries.take 8 } })

/-- TAKE_TRIP: an area already in EMERGENCY is not touched; else it enters EMERGENCY with AREA-TRIPPED first of the
events, no record of either kind stands for it, no entry of it is quiet, none carries a shelf unless shelves are kept,
and an area that is annunciated at the notice sets the trip demand, and, held, the demand of each entry uncovered by the flush
(R40, R46, R107, R132); removals that leave 448 entries or fewer clear every overflow indicator (R18). TAKE_RESTORE: a NORMAL area is not touched; else the area is NORMAL, AREA-RESTORED is stored with the
source, no entry, shelf or figure changes, no trip demand is cleared, and nothing else changes when the area is not held (R46,
R108). -/
def Obligations.TripAndRestoreTelegramsApply : Prop :=
  (∀ (s : State) (t : Telegram) (a : Area) (c : Credential), nextTelegram s.part t → t.payload = .trip false a c →
    (emergency s.part a = true → Machine.exec .takeTrip s =
      .next (s.withPart { s.part with lif := s.part.lif.taken (encodeTelegram t).length })) ∧
    (emergency s.part a = false → TableFine s.part →
      ∃ u, Machine.exec .takeTrip s = .next u ∧ u.pending = s.pending ∧ u.part.stc = s.part.stc ∧
        (∀ b, emergency u.part b = (emergency s.part b || decide (b = a))) ∧
        offerFor u.part a = none ∧ receptionFor u.part a = none ∧
        (∀ e ∈ u.part.atu.table, e.area = a → e.quiet = false ∧
          (s.part.stc.settings.keepShelves = false → e.shelf = none)) ∧
        (u.part.atu.table.length < s.part.atu.table.length → u.part.atu.table.length ≤ 448 → u.part.atu.overflow = 0) ∧
        (annunciated s.part a = true → u.part.anu.trip = true) ∧
        (holds s.part a = true → s.part.stc.settings.keepShelves = false →
          ∀ e ∈ s.part.atu.table, e.area = a → e.shelf ≠ none → e.active = true → e.acknowledged = false →
            (levelOf e.priority = .urgent → u.part.anu.urgent = true) ∧
            (levelOf e.priority = .routine → u.part.anu.routine = true)) ∧
        (s.part.cnp.events.length < 64 →
          s.part.cnp.events ++ [{ kind := .areaTripped, time := s.part.stc.seconds, area := some a,
                                  station := some t.source, reason := some .telegram }] <+: u.part.cnp.events))) ∧
  (∀ (s : State) (t : Telegram) (a : Area) (c : Credential), nextTelegram s.part t → t.payload = .trip true a c →
    let l := s.part.lif.taken (encodeTelegram t).length
    let views := setAt s.part.aru.views a { view s.part a with emergency := false }
    let stored := s.part.cnp.storing s.part.stc.seconds
      { kind := .areaRestored, area := some a, station := some t.source }
    (emergency s.part a = false → Machine.exec .takeRestore s = .next (s.withPart { s.part with lif := l })) ∧
    (emergency s.part a = true →
      ∃ u, Machine.exec .takeRestore s = .next u ∧
        u = s.withPart { s.part with
          lif := u.part.lif, anu := u.part.anu, aru := u.part.aru, cnp := stored } ∧
        u.part.anu.trip = s.part.anu.trip ∧ u.part.aru.views = views ∧ u.part.lif.ring = l.ring ∧
        (holds s.part a = false → u.part.lif = l ∧ u.part.aru = { s.part.aru with views := views }) ∧
        (holds s.part a = true → running s.part = true →
          (s.part.aru.beaconMark = .idle → occupied s.part < 12 → u.part.aru.beaconMark = .queued) ∧
          (s.part.aru.beaconMark = .sending → u.part.aru.beaconOwed = true))))

/-! ## Chapter 7: transfers between consoles -/

/-- TAKE_OFFER, addressed: an earlier offer of the same releaser for the area, of another number, is freed first as by
WITHDRAW; then the OFFER is judged by the lines of R121. A refusal adds an item to the answer list, waiting for the digest's
end when segments were announced, else READY at once, unless the list holds 4; else a reception record is created RECEIVING
with its gap timer at 5 s, or, of no segments, in REVIEW at once, and the area is followed; its figure is then the maximum, its flood
state judged with FLOOD-ON on a rise, and the event REVIEW comes last (R64, R69, R117, R121, R123). The model's choices: the gap
timer of a record that never awaits a segment, a review timer not yet started and the gap count of a READY item read 0 (log
57), and claims are judged after the whole step, so that the area
of an earlier record freed is not claimed before the OFFER is judged (log 25). -/
def Obligations.OfferTelegramIsJudgedInOrder : Prop :=
  ∀ (s : State) (t : Telegram) (c : OfferContent), nextTelegram s.part t → t.payload = .offer c → t.destination ≠ 0 →
    let l := s.part.lif.taken (encodeTelegram t).length
    let reason : Option ReplyReason :=
      if running s.part = false then some .notRunning
      else if holds s.part c.area = true then some .holds
      else if (receptionFor s.part c.area).isSome = true ∨ (∀ r, s.part.hou.receptions.get r ≠ none) then some .busy
      else if emergency s.part c.area = true then some .emergency
      else if c.segmentCount.toNat ≠ (c.entryCount.toNat + 7) / 8 then some .digestError
      else if c.entryCount.toNat ≠ 0 ∧ 512 < c.entryCount.toNat + storeReserved s.part then some .noRoom
      else none
    let item (x : ReplyReason) (i : AnswerState) (n : Nat) : AnswerItem :=
      { refusal := some x, area := c.area, addressee := t.source, number := c.number, state := i, gap := n,
        serial := s.part.hou.nextSerial }
    let answered (x : ReplyReason) (i : AnswerState) (n : Nat) : Hou :=
      { s.part.hou with answers := s.part.hou.answers ++ [item x i n], nextSerial := s.part.hou.nextSerial + 1 }
    let record (i : ReceptionState) (gap timer : Nat) : Reception :=
      { kind := .handover, area := c.area, releaser := t.source, number := c.number, entryCount := c.entryCount.toNat,
        segmentCount := c.segmentCount.toNat, load := c.load, signature := c.signature, credential := c.credential,
        received := 0, nextIndex := 1, state := i, gap := gap, timer := timer, mark := .none, answer := .none,
        summaries := [], serial := s.part.hou.nextSerial }
    ((∀ r y, handoverFrom s.part t.source c.area = some r → s.part.hou.receptions.get r = some y →
        y.number = c.number) →
      (∀ x, reason = some x → 4 ≤ s.part.hou.answers.length →
        Machine.exec .takeOffer s = .next (s.withPart { s.part with lif := l })) ∧
      (∀ x, reason = some x → s.part.hou.answers.length < 4 → c.segmentCount ≠ 0 →
        Machine.exec .takeOffer s = .next (s.withPart { s.part with lif := l, hou := answered x .waitingEnd 5 })) ∧
      (∀ x, reason = some x → s.part.hou.answers.length < 4 → c.segmentCount = 0 →
        (∀ j ∈ s.part.hou.answers, j.serial < s.part.hou.nextSerial) →
        (running s.part = false →
          Machine.exec .takeOffer s = .next (s.withPart { s.part with lif := l, hou := answered x .ready 0 })) ∧
        (running s.part = true → occupied s.part < 12 → ∃ u, Machine.exec .takeOffer s = .next u ∧
          u = s.withPart { s.part with lif := u.part.lif, hou := answered x .queued 0 } ∧
          s.part.lif.enqueued u.part.lif (.answer s.part.hou.nextSerial)
            { source := s.part.stc.number, destination := t.source, payload := .reply c.area c.number true x })) ∧
      (reason = none → ∃ u r, Machine.exec .takeOffer s = .next u ∧
        u = s.withPart { s.part with
          lif := l, atu := u.part.atu, ldm := u.part.ldm, anu := u.part.anu, aru := u.part.aru, hou := u.part.hou,
          cnp := u.part.cnp } ∧
        s.part.hou.receptions.get r = none ∧ followed u.part c.area = true ∧
        u.part.hou = { s.part.hou with
          receptions := setAt s.part.hou.receptions r (some
            (if c.segmentCount = 0 then record .review 0 s.part.stc.settings.window else record .receiving 5 0)),
          nextSerial := s.part.hou.nextSerial + 1 } ∧
        (c.segmentCount ≠ 0 → u.part.cnp = s.part.cnp) ∧
        (c.segmentCount = 0 →
          (loadOf u.part c.area).toNat = max (loadOf s.part c.area).toNat c.load.toNat ∧
          u.part.cnp.stats = s.part.cnp.stats ∧
          let verdict : Reason :=
            if areaCount u.part c.area = 0 ∧ areaSignature u.part c.area = c.signature then .matched else .differs
          (FloodFine s.part → floodRisen s.part u.part c.area ∧
            u.part.cnp = (floodStored s.part u.part c.area).storing s.part.stc.seconds
              { kind := .review, area := some c.area, station := some t.source, reason := some verdict }) ∧
          (u.part.cnp.events.length < 64 → u.part.cnp.events.getLast? = some
            { kind := .review, time := s.part.stc.seconds, area := some c.area, station := some t.source,
              reason := some verdict })))) ∧
    (∀ r y, handoverFrom s.part t.source c.area = some r → s.part.hou.receptions.get r = some y →
      y.number ≠ c.number →
      ∃ u, Machine.exec .takeOffer s = .next u ∧ u.pending = s.pending ∧ u.part.stc = s.part.stc ∧
        u.part.cnp.stats.handoversFailed = s.part.cnp.stats.handoversFailed + 1 ∧
        (s.part.cnp.events.length < 64 →
          s.part.cnp.events ++ [{ kind := .receptionClosed, time := s.part.stc.seconds, area := some c.area,
                                  station := some t.source, reason := some .withdrawn }] <+: u.part.cnp.events) ∧
        (∀ q z, u.part.hou.receptions.get q = some z → z.serial < s.part.hou.nextSerial →
          q ≠ r ∧ ∃ w, s.part.hou.receptions.get q = some w ∧ w.serial = z.serial) ∧
        (running s.part = false → u.part.hou.receptions.get r = none) ∧
        (running s.part = true → holds s.part c.area = false →
          (∀ q z, q ≠ r → s.part.hou.receptions.get q = some z → z.area ≠ c.area) →
          emergency s.part c.area = false → c.segmentCount.toNat = (c.entryCount.toNat + 7) / 8 →
          c.segmentCount ≠ 0 → c.entryCount.toNat + storeReserved s.part ≤ 512 + y.entryCount →
          followed u.part c.area = true ∧ ∃ q, u.part.hou.receptions.get q = some (record .receiving 5 0)))

/-- TAKE_HANDOVER_DIGEST: a segment of a refused digest is taken by its waiting answer item, whose gap count it restarts or,
with the last mark, ends, the item READY and in RUNNING its REPLY queued, or, with no slot free, waiting for one; of two items
that await it the oldest takes it (the model's choice, log 54) (R117). A segment for a record in
RECEIVING that passes the seven checks is stored and restarts the gap timer, the last one merging every summary by R124 with
its shelf by R42, no demand set, its figure given as a maximum with FLOOD-ON where that raises the area into FLOOD (R64, R69),
and taking the record into REVIEW with the review timer at W and the event REVIEW last; one that
fails, also for another handover number (the model's choice, log 47), frees the record with RECEPTION-CLOSED (DIGEST-ERROR);
one that no item and no record awaits is dropped (R122, R123). The model's choices:
the gap timer keeps its value in REVIEW (log 15), a READY item's gap count reads 0 (log 57), and the merge sets the last-change time of an entry of equal occurrence when
it takes acknowledged yes or a shelf (log 31). -/
def Obligations.HandoverSegmentIsChecked : Prop :=
  ∀ (s : State) (t : Telegram) (d : DigestContent), nextTelegram s.part t → t.payload = .digest d → d.number ≠ 0 →
    t.destination ≠ 0 →
    let l := s.part.lif.taken (encodeTelegram t).length
    (∀ i why, waitingItem s.part t.source d.area d.number = some i → i.refusal = some why →
      (∀ j ∈ s.part.hou.answers, j.serial = i.serial → j = i) →
      let items (x : AnswerState) (n : Nat) : Hou := { s.part.hou with answers := s.part.hou.answers.map fun j =>
        if j.serial = i.serial then { j with state := x, gap := n } else j }
      (d.last = false → Machine.exec .takeHandoverDigest s =
        .next (s.withPart { s.part with lif := l, hou := items .waitingEnd 5 })) ∧
      (d.last = true → running s.part = false → Machine.exec .takeHandoverDigest s =
        .next (s.withPart { s.part with lif := l, hou := items .ready 0 })) ∧
      (d.last = true → running s.part = true → occupied s.part < 12 →
        ∃ u, Machine.exec .takeHandoverDigest s = .next u ∧
          u = s.withPart { s.part with lif := u.part.lif, hou := items .queued 0 } ∧
          s.part.lif.enqueued u.part.lif (.answer i.serial)
            { source := s.part.stc.number, destination := i.addressee,
              payload := .reply i.area i.number true why }) ∧
      (d.last = true → running s.part = true → occupied s.part = 12 →
        ∃ u, Machine.exec .takeHandoverDigest s = .next u ∧
          u = s.withPart { s.part with lif := { l with waiting := u.part.lif.waiting }, hou := items .ready 0 } ∧
          Owner.answer i.serial ∈ u.part.lif.waiting)) ∧
    (waitingItem s.part t.source d.area d.number = none →
    (handoverFrom s.part t.source d.area = none →
      Machine.exec .takeHandoverDigest s = .next (s.withPart { s.part with lif := l })) ∧
    (∀ r x, handoverFrom s.part t.source d.area = some r → s.part.hou.receptions.get r = some x →
      let receiving (v : Option Reception) : Hou :=
        { s.part.hou with receptions := setAt s.part.hou.receptions r v }
      let n := x.received + d.summaries.length
      let passes : Prop :=
        d.number = x.number ∧ d.entryCount.toNat = x.entryCount ∧ d.index.toNat = x.nextIndex ∧
        (d.first = true ↔ d.index.toNat = 1) ∧ (d.last = true ↔ d.index.toNat = x.segmentCount) ∧ n ≤ x.entryCount ∧
        (d.last = true → n = x.entryCount)
      let ds := x.summaries ++ d.summaries
      let fed : Reception := { x with summaries := ds, received := n, nextIndex := x.nextIndex + 1, gap := 5 }
      (x.state ≠ .receiving → Machine.exec .takeHandoverDigest s = .next (s.withPart { s.part with lif := l })) ∧
      (x.state = .receiving → passes → d.last = false →
        Machine.exec .takeHandoverDigest s = .next (s.withPart { s.part with
          lif := l, hou := { s.part.hou with receptions := setAt s.part.hou.receptions r (some fed) } })) ∧
      (x.state = .receiving → passes → d.last = true →
        ∃ u, Machine.exec .takeHandoverDigest s = .next u ∧
          u = s.withPart { s.part with
            lif := l, atu := u.part.atu, ldm := u.part.ldm, anu := u.part.anu, cnp := u.part.cnp,
            hou := receiving (some { fed with state := .review, timer := s.part.stc.settings.window }) } ∧
          (loadOf u.part x.area).toNat = max (loadOf s.part x.area).toNat x.load.toNat ∧
          (u.part.anu.urgent = true → s.part.anu.urgent = true) ∧
          (u.part.anu.routine = true → s.part.anu.routine = true) ∧ u.part.anu.trip = s.part.anu.trip ∧
          (FloodFine s.part → floodRisen s.part u.part x.area ∧ ∀ a, a ≠ x.area → inFlood u.part a = inFlood s.part a) ∧
          let verdict : Reason :=
            if areaCount u.part x.area = x.entryCount ∧ areaSignature u.part x.area = x.signature
            then .matched else .differs
          (TableFine s.part → ds.Pairwise (fun y z => y.tag ≠ z.tag) →
            s.part.atu.table.length + ds.length ≤ 512 →
            (∀ y ∈ ds, findEntry u.part y.tag =
              if tagArea s.part y.tag = some x.area then mergeLeaves s.part x.releaser x.area y (findEntry s.part y.tag)
              else findEntry s.part y.tag) ∧
            (∀ tag, (∀ y ∈ ds, y.tag ≠ tag) → findEntry u.part tag = findEntry s.part tag) ∧
            (FloodFine s.part → u.part.cnp = (floodStored s.part u.part x.area).storing s.part.stc.seconds
              { kind := .review, area := some x.area, station := some x.releaser, reason := some verdict })) ∧
          (u.part.cnp.events.length < 64 → u.part.cnp.events.getLast? = some
            { kind := .review, time := s.part.stc.seconds, area := some x.area, station := some x.releaser,
              reason := some verdict })) ∧
      (x.state = .receiving → ¬passes →
        ∃ u, Machine.exec .takeHandoverDigest s = .next u ∧ u.part.stc = s.part.stc ∧
          u.part.hou.receptions.get r = none ∧
          (s.part.hou.answers.length < 4 → u.part.hou.answers.length = s.part.hou.answers.length + 1) ∧
          (s.part.cnp.events.length < 64 →
            s.part.cnp.events ++ [{ kind := .receptionClosed, time := s.part.stc.seconds, area := some x.area,
                                    station := some x.releaser, reason := some .digestError }] <+: u.part.cnp.events))))

/-- TAKE_SYNC_DIGEST: a segment that is not broadcast is dropped (the model's choice, log 26), and so is one that has no
record and may create none. A first segment that meets R135's conditions creates a RECEIVING record and is fed to it. A
segment of a record that passes is stored, and the last one replaces the area's entries by the summaries, each entry as R136
step 2 leaves it with its shelf by R42, takes the maximum of the figure, with FLOOD-ON where that raises the area into FLOOD (R64, R70), sets no demand of its own,
frees the record, clears mismatch count, resync pending and start-up request and advances *resyncs applied*; one that fails
frees the record without REPLY, event or statistic, but for the CLAIMED of an area then claimed, and a first segment that
fails leaves no record (R103, R135, R136, R105). The replace sets the last-change time of an entry of equal occurrence when
priority, condition or acknowledged field differ, or either side carries a shelf (the model's choice, log 31), and a review
timer never started reads 0 (log 57). -/
def Obligations.SyncSegmentReplacesEntries : Prop :=
  ∀ (s : State) (t : Telegram) (d : DigestContent), nextTelegram s.part t → t.payload = .digest d → d.number = 0 →
    let l := s.part.lif.taken (encodeTelegram t).length
    let mayCreate : Prop :=
      d.index = 1 ∧ d.first = true ∧ followed s.part d.area = true ∧ holds s.part d.area = false ∧
        (view s.part d.area).holder = t.source ∧ emergency s.part d.area = false ∧
        receptionFor s.part d.area = none ∧ freeReceptionRecord s.part ≠ none ∧
        (d.entryCount.toNat = 0 ∨ d.entryCount.toNat + storeReserved s.part ≤ 512)
    let applied (u : State) (x : StationNo) (ds : List Summary) : Prop :=
      (view u.part d.area).mismatch = 0 ∧ (view u.part d.area).resync = 0 ∧ (view u.part d.area).startup = false ∧
      (∀ e ∈ u.part.atu.table, e.area = d.area → ∃ y ∈ ds, y.tag = e.tag) ∧
      u.part.cnp.stats.resyncsApplied = s.part.cnp.stats.resyncsApplied + 1 ∧
      (FollowFine s.part → TableFine s.part →
        inHome s.part d.area = true ∨ inStandby s.part d.area = true ∨ inWatch s.part d.area = true →
        (loadOf u.part d.area).toNat = max (loadOf s.part d.area).toNat d.load.toNat ∧
        ((∀ a, annunciated u.part a = annunciated s.part a) →
          (u.part.anu.urgent = true → s.part.anu.urgent = true) ∧
          (u.part.anu.routine = true → s.part.anu.routine = true) ∧ u.part.anu.trip = s.part.anu.trip) ∧
        (FloodFine s.part → floodRisen s.part u.part d.area) ∧
        (ds.Pairwise (fun y z => y.tag ≠ z.tag) → s.part.atu.table.length + ds.length ≤ 512 →
          (∀ y ∈ ds, findEntry u.part y.tag =
            if tagArea s.part y.tag = some d.area then replaceLeaves s.part x d.area y (findEntry s.part y.tag)
            else findEntry s.part y.tag) ∧
          (∀ tag, (∀ y ∈ ds, y.tag ≠ tag) → ∀ e, findEntry s.part tag = some e →
            findEntry u.part tag = if e.area = d.area then none else some e) ∧
          (u.part.atu.table.length < s.part.atu.table.length → u.part.atu.table.length ≤ 448 →
            u.part.atu.overflow = 0) ∧
          (FloodFine s.part → inFlood s.part d.area = false → inFlood u.part d.area = true →
            s.part.cnp.events.length < 64 → s.part.cnp.events
              ++ [{ kind := .floodOn, time := s.part.stc.seconds, area := some d.area }] <+: u.part.cnp.events)))
    (t.destination ≠ 0 ∨ (syncFrom s.part t.source d.area = none ∧ ¬mayCreate) →
      Machine.exec .takeSyncDigest s = .next (s.withPart { s.part with lif := l })) ∧
    (t.destination = 0 → syncFrom s.part t.source d.area = none → mayCreate →
      let segments := max 1 ((d.entryCount.toNat + 7) / 8)
      (d.last = false → segments ≠ 1 → d.summaries.length ≤ d.entryCount.toNat →
        ∃ u r, Machine.exec .takeSyncDigest s = .next u ∧ u.pending = s.pending ∧ u.part.stc = s.part.stc ∧
          s.part.hou.receptions.get r = none ∧ u.part.cnp.stats = s.part.cnp.stats ∧ u.part.lif = l ∧
          u.part.hou = { s.part.hou with
            nextSerial := s.part.hou.nextSerial + 1,
            receptions := setAt s.part.hou.receptions r (some {
              kind := .sync, area := d.area, releaser := t.source, number := 0, entryCount := d.entryCount.toNat,
              segmentCount := segments, load := d.load, signature := 0, credential := 0,
              received := d.summaries.length, nextIndex := 2, state := .receiving, gap := 5, timer := 0, mark := .none,
              answer := .none, summaries := d.summaries, serial := s.part.hou.nextSerial }) }) ∧
      (d.last = true → segments = 1 → d.summaries.length = d.entryCount.toNat →
        ∃ u, Machine.exec .takeSyncDigest s = .next u ∧ u.part.stc = s.part.stc ∧
          (∀ q, u.part.hou.receptions.get q = none ↔ s.part.hou.receptions.get q = none) ∧ applied u t.source d.summaries) ∧
      ((d.last = true ↔ segments ≠ 1) ∨ d.entryCount.toNat < d.summaries.length ∨
          (d.last = true ∧ d.summaries.length ≠ d.entryCount.toNat) →
        (∀ r, slotOfOwner (.reply r s.part.hou.nextSerial) s.part = none) →
        ∃ u, Machine.exec .takeSyncDigest s = .next u ∧ u.part.stc = s.part.stc ∧
          u.part.hou = { s.part.hou with nextSerial := s.part.hou.nextSerial + 1 } ∧
          u.part.cnp.stats = s.part.cnp.stats ∧ onlyClaims s.part u.part)) ∧
    (∀ r x, t.destination = 0 → syncFrom s.part t.source d.area = some r → s.part.hou.receptions.get r = some x →
      let n := x.received + d.summaries.length
      let passes : Prop :=
        x.number = 0 ∧ d.load = x.load ∧ d.entryCount.toNat = x.entryCount ∧ d.index.toNat = x.nextIndex ∧
        (d.first = true ↔ d.index.toNat = 1) ∧ (d.last = true ↔ d.index.toNat = x.segmentCount) ∧ n ≤ x.entryCount ∧
        (d.last = true → n = x.entryCount)
      (passes → d.last = false → Machine.exec .takeSyncDigest s = .next (s.withPart { s.part with
        lif := l,
        hou := { s.part.hou with receptions := setAt s.part.hou.receptions r (some { x with
          summaries := x.summaries ++ d.summaries, received := n, nextIndex := x.nextIndex + 1, gap := 5 }) } })) ∧
      (passes → d.last = true →
        ∃ u, Machine.exec .takeSyncDigest s = .next u ∧ u.part.stc = s.part.stc ∧
          u.part.hou.receptions.get r = none ∧ applied u t.source (x.summaries ++ d.summaries)) ∧
      (¬passes → ∃ u, Machine.exec .takeSyncDigest s = .next u ∧ u.part.stc = s.part.stc ∧
        u.part.hou.receptions.get r = none ∧ u.part.cnp.stats.resyncsApplied = s.part.cnp.stats.resyncsApplied ∧
        (slotOfOwner (.reply r x.serial) s.part = none →
          u.part.hou = { s.part.hou with receptions := setAt s.part.hou.receptions r none } ∧
          u.part.cnp.stats = s.part.cnp.stats ∧ onlyClaims s.part u.part)))

/-- TAKE_REPLY, addressed: for the offer record in OFFERED of its source, area and number, an ACCEPT takes it to
RELEASING with a RELEASE queued, a DECLINE frees it with OFFER-DECLINED and *handovers failed*; any other REPLY is
only reported as PROTOCOL-ERROR (R128). That the stopped reply timer keeps its value is the model's choice (log 15). -/
def Obligations.ReplyTelegramEndsOffer : Prop :=
  ∀ (s : State) (t : Telegram) (a : Area) (h : Byte) (no : Bool) (why : ReplyReason), nextTelegram s.part t →
    t.payload = .reply a h no why → t.destination ≠ 0 →
    let l := s.part.lif.taken (encodeTelegram t).length
    ((∀ r o, s.part.hou.offers.get r = some o → o.kind = .handover → o.target = t.source → o.area = a → o.number = h →
        o.state ≠ .offered) →
      Machine.exec .takeReply s = .next (s.withPart { s.part with
        lif := l,
        cnp := s.part.cnp.storing s.part.stc.seconds
          { kind := .protocolError, area := some a, station := some t.source,
            reason := some (if no then Reason.decline else Reason.accept) } })) ∧
    (∀ r o, offerMatching s.part t.source a h = some r → s.part.hou.offers.get r = some o → o.state = .offered →
      (no = false → running s.part = true → occupied s.part < 12 →
        ∃ u, Machine.exec .takeReply s = .next u ∧
          u = s.withPart { s.part with
            lif := u.part.lif,
            hou := { s.part.hou with
              offers := setAt s.part.hou.offers r (some { o with state := .releasing, mark := .queued }) } } ∧
          u.part.lif.ring = l.ring ∧
          s.part.lif.enqueued u.part.lif (.offer r o.serial)
            { source := s.part.stc.number, destination := o.target, payload := .release a h }) ∧
      (no = true → slotOfOwner (.offer r o.serial) s.part = none →
        ∃ u, Machine.exec .takeReply s = .next u ∧
          u = s.withPart { s.part with
            lif := { l with waiting := s.part.lif.waiting.filter fun y => decide (y ≠ .offer r o.serial) },
            hou := { s.part.hou with offers := setAt s.part.hou.offers r none }, anu := u.part.anu,
            cnp := u.part.cnp } ∧
          u.part.cnp.stats = { s.part.cnp.stats with handoversFailed := s.part.cnp.stats.handoversFailed + 1 } ∧
          u.part.cnp.events = (s.part.cnp.storing s.part.stc.seconds
            { kind := .offerDeclined, area := some a, station := some t.source, reason := some (.reply why) }).events))

/-- TAKE_RELEASE for a record in ACCEPTED: with no session, or one that may hold the area, the station holds the area,
the record is free and *handovers completed as receiver* advances; a session that may not hold it gives HANDOVER-LOST
(RIGHTS) and no holding. A RELEASE that matches none is dropped (R95, R130). TAKE_WITHDRAW frees the handover
reception record of its source, area and number in any state with RECEPTION-CLOSED (WITHDRAWN) and *handovers failed*;
one that matches none is dropped (R131). -/
def Obligations.ReleaseAndWithdrawTelegrams : Prop :=
  (∀ (s : State) (t : Telegram) (a : Area) (h : Byte), nextTelegram s.part t → t.payload = .release a h →
    t.destination ≠ 0 →
    (handoverMatching s.part t.source a h = none → Machine.exec .takeRelease s =
      .next (s.withPart { s.part with lif := s.part.lif.taken (encodeTelegram t).length })) ∧
    (∀ r x, handoverMatching s.part t.source a h = some r → s.part.hou.receptions.get r = some x →
      (x.state ≠ .accepted → Machine.exec .takeRelease s =
        .next (s.withPart { s.part with lif := s.part.lif.taken (encodeTelegram t).length })) ∧
      (x.state = .accepted → (sessionActive s.part = false ∨ mayHold s.part a = true) →
        ∃ u, Machine.exec .takeRelease s = .next u ∧ u.part.stc = s.part.stc ∧ holds u.part a = true ∧
          (view u.part a).holder = 0 ∧ (view u.part a).relinquished = false ∧ u.part.hou.receptions.get r = none ∧
          (sessionActive s.part = false → u.part.aru.graceRunning = true) ∧
          u.part.cnp.stats.completedReceiver = s.part.cnp.stats.completedReceiver + 1 ∧
          (s.part.cnp.events.length < 64 →
            s.part.cnp.events ++ [{ kind := .handoverComplete, time := s.part.stc.seconds, area := some a,
                                    station := some t.source, reason := some .gained }] <+: u.part.cnp.events)) ∧
      (x.state = .accepted → sessionActive s.part = true → mayHold s.part a = false → holds s.part a = false →
        ∃ u, Machine.exec .takeRelease s = .next u ∧ u.part.stc = s.part.stc ∧ holds u.part a = false ∧
          u.part.hou.receptions.get r = none ∧
          u.part.cnp.stats.handoversFailed = s.part.cnp.stats.handoversFailed + 1 ∧
          (s.part.cnp.events.length < 64 →
            s.part.cnp.events ++ [{ kind := .handoverLost, time := s.part.stc.seconds, area := some a,
                                    station := some t.source, reason := some .rights }] <+: u.part.cnp.events)))) ∧
  (∀ (s : State) (t : Telegram) (a : Area) (h : Byte), nextTelegram s.part t → t.payload = .withdraw a h →
    t.destination ≠ 0 →
    (handoverMatching s.part t.source a h = none → Machine.exec .takeWithdraw s =
      .next (s.withPart { s.part with lif := s.part.lif.taken (encodeTelegram t).length })) ∧
    (∀ r, handoverMatching s.part t.source a h = some r →
      ∃ u, Machine.exec .takeWithdraw s = .next u ∧ u.pending = s.pending ∧ u.part.stc = s.part.stc ∧
        u.part.hou.receptions.get r = none ∧
        u.part.cnp.stats.handoversFailed = s.part.cnp.stats.handoversFailed + 1 ∧
        (s.part.cnp.events.length < 64 →
          s.part.cnp.events ++ [{ kind := .receptionClosed, time := s.part.stc.seconds, area := some a,
                                  station := some t.source, reason := some .withdrawn }] <+: u.part.cnp.events)))

/-- The completions of an offer record's telegrams: an OFFER of no segments, and the last handover segment, take the
record to OFFERED with its reply timer at W + 15; else the next segment is queued; the last sync segment frees its
record (R120, R134). -/
def Obligations.OfferRecordAdvancesAtCompletions : Prop :=
  ∀ (s : State) (k : Fin 12) (x : Slot) (r : Fin 4) (o : Offer), nextMark s.part k x → noneWaiting s.part →
    x.owner = .offer r o.serial → s.part.hou.offers.get r = some o → o.state = .sending →
    let put (y : Option Offer) : Hou := { s.part.hou with offers := setAt s.part.hou.offers r y }
    let offered (y : Offer) : Offer :=
      { y with state := .offered, replyTimer := s.part.stc.settings.window + 15, mark := .none }
    let next (y : Offer) : Telegram :=
      { source := s.part.stc.number, destination := (match o.kind with | .handover => o.target | .sync => 0),
        payload := .digest {
          area := o.area, number := o.number, entryCount := BitVec.ofNat 16 o.entryCount,
          index := BitVec.ofNat 8 y.nextIndex, first := decide (y.nextIndex = 1),
          last := decide (y.nextIndex = o.segmentCount),
          load := (match o.kind with | .handover => 0 | .sync => o.load),
          summaries := (o.summaries.drop ((y.nextIndex - 1) * 8)).take 8 } }
    let queued (c : Instr) (y : Offer) : Prop :=
      ∃ u, Machine.exec c s = .next u ∧ u = s.withPart { s.part with
          lif := u.part.lif, hou := put (some { y with mark := .queued }) } ∧ u.part.lif.slots.get k = none ∧
        ∃ j z, j ≠ k ∧ u.part.lif.slots.get j = some z ∧ z.telegram = next y ∧ z.state = .waiting
    let moved : Offer := { o with nextIndex := o.nextIndex + 1 }
    (∀ c, x.telegram.payload = .offer c →
      (o.segmentCount = 0 → Machine.exec .offerCompletion s = .next (s.withPart { s.part with
        lif := s.part.lif.freed k, hou := put (some (offered o)) })) ∧
      (o.segmentCount ≠ 0 → running s.part = true → occupied s.part < 12 → queued .offerCompletion o)) ∧
    (∀ d, x.telegram.payload = .digest d → d.number ≠ 0 → o.kind = .handover →
      (o.segmentCount = o.nextIndex → Machine.exec .digestSegmentCompletion s = .next (s.withPart { s.part with
        lif := s.part.lif.freed k, hou := put (some (offered moved)) })) ∧
      (o.nextIndex < o.segmentCount → running s.part = true → occupied s.part < 12 →
        queued .digestSegmentCompletion moved)) ∧
    (∀ d, x.telegram.payload = .digest d → d.number = 0 → o.kind = .sync →
      (o.segmentCount = o.nextIndex → slotOfOwner (.offer r o.serial) s.part = none →
        ∃ u, Machine.exec .syncSegmentCompletion s = .next u ∧ u = s.withPart { s.part with
          lif := s.part.lif.freed k, hou := put none, anu := u.part.anu }) ∧
      (o.nextIndex < o.segmentCount → running s.part = true → occupied s.part < 12 →
        queued .syncSegmentCompletion moved))

/-- REPLY_COMPLETION: an ACCEPT takes the record to ACCEPTED with its release timer at 10 s; a DECLINE frees it with
RECEPTION-CLOSED, reason OPERATOR or TIMEOUT as the REPLY carried, and *handovers failed* (R127). RELEASE_COMPLETION:
the releaser no longer holds the area and records the target as its attended holder with the area's own count,
signature and figure; the record is free, HANDOVER-COMPLETE (RELEASED) comes first of the events, and *handovers
completed as releaser* advances (R96, R129). -/
def Obligations.ReplyAndReleaseCompletions : Prop :=
  (∀ (s : State) (k : Fin 12) (x : Slot) (r : Fin 4) (y : Reception), nextMark s.part k x → noneWaiting s.part →
    x.owner = .reply r y.serial → s.part.hou.receptions.get r = some y → y.kind = .handover →
    let receiving (v : Option Reception) : Hou :=
      { s.part.hou with receptions := setAt s.part.hou.receptions r v }
    (y.answer = .none → ∃ u, Machine.exec .replyCompletion s = .next u ∧ u = s.withPart { s.part with
      lif := s.part.lif.freed k, anu := u.part.anu,
      hou := receiving (some { y with state := .accepted, mark := .none, timer := 10 }) }) ∧
    (y.answer = .operator ∨ y.answer = .timeout →
      ∃ u, Machine.exec .replyCompletion s = .next u ∧ u.part.stc = s.part.stc ∧ u.part.hou.receptions.get r = none ∧
        u.part.cnp.stats.handoversFailed = s.part.cnp.stats.handoversFailed + 1 ∧
        let why : Reason := if y.answer = .timeout then .timeout else .operator
        (s.part.cnp.events.length < 64 →
          s.part.cnp.events ++ [{ kind := .receptionClosed, time := s.part.stc.seconds, area := some y.area,
                                  station := some y.releaser, reason := some why }] <+: u.part.cnp.events))) ∧
  (∀ (s : State) (k : Fin 12) (x : Slot) (r : Fin 4) (o : Offer), nextMark s.part k x → noneWaiting s.part →
    x.owner = .offer r o.serial → x.telegram.payload = .release o.area o.number → s.part.hou.offers.get r = some o →
    o.target ≠ 0 →
    ∃ u, Machine.exec .releaseCompletion s = .next u ∧ u.pending = s.pending ∧ u.part.stc = s.part.stc ∧
      holds u.part o.area = false ∧ u.part.hou.offers.get r = none ∧
      (view u.part o.area).holder = o.target ∧ (view u.part o.area).attended = true ∧
      (view u.part o.area).holderEmergency = false ∧ (view u.part o.area).age = 0 ∧
      (view u.part o.area).holderCount = BitVec.ofNat 16 (areaCount s.part o.area) ∧
      (view u.part o.area).holderSignature = areaSignature s.part o.area ∧
      (view u.part o.area).holderLoad = loadOf s.part o.area ∧
      u.part.cnp.stats.completedReleaser = s.part.cnp.stats.completedReleaser + 1 ∧
      (s.part.cnp.events.length < 64 →
        s.part.cnp.events ++ [{ kind := .handoverComplete, time := s.part.stc.seconds, area := some o.area,
                                station := some o.target, reason := some .released }] <+: u.part.cnp.events))

/-- The timers of reception records, each with its last second left to its command (log 19): GAP_TIMEOUT in RECEIVING
frees the record, a handover with RECEPTION-CLOSED (DIGEST-ERROR), a sync without REPLY, event or statistic, but for the
CLAIMED of an area then claimed (R103); REVIEW_TIMEOUT queues a REPLY
DECLINE of reason TIMEOUT; RELEASE_TIMEOUT in ACCEPTED frees the record with HANDOVER-LOST (TIMEOUT) (R122, R126,
R131, R135). REPLY_TIMEOUT frees an offer record in OFFERED with OFFER-CLOSED (TIMEOUT) and *handovers failed*, and
adds a WITHDRAW for its target to the answer list unless it holds 4; ANSWER_GAP_EXPIRY makes a waiting item READY, and
in RUNNING with a slot free its REPLY is queued (R117, R131), its gap count reading 0 (the model's choice, log 57). -/
def Obligations.TransferTimersRunOut : Prop :=
  (∀ (s : State) (r : Fin 4) (x : Reception), s.part.hou.receptions.get r = some x →
    let receiving (v : Option Reception) : Hou :=
      { s.part.hou with receptions := setAt s.part.hou.receptions r v }
    let failed (u : State) (kind : EventKind) (why : Reason) : Prop :=
      u.pending = s.pending ∧ u.part.stc = s.part.stc ∧ u.part.hou.receptions.get r = none ∧
      u.part.cnp.stats.handoversFailed = s.part.cnp.stats.handoversFailed + 1 ∧
      (s.part.cnp.events.length < 64 →
        s.part.cnp.events ++ [{ kind := kind, time := s.part.stc.seconds, area := some x.area,
                                station := some x.releaser, reason := some why }] <+: u.part.cnp.events)
    (x.state = .receiving → x.gap ≤ 1 →
      (x.kind = .handover → ∃ u, Machine.exec (.gapTimeout r) s = .next u ∧ failed u .receptionClosed .digestError) ∧
      (x.kind = .sync → ∃ u, Machine.exec (.gapTimeout r) s = .next u ∧ u.pending = s.pending ∧
        u.part.stc = s.part.stc ∧ u.part.hou.receptions.get r = none ∧
        u.part.cnp.stats.handoversFailed = s.part.cnp.stats.handoversFailed ∧
        (slotOfOwner (.reply r x.serial) s.part = none → u.part.hou = receiving none ∧
          u.part.cnp.stats = s.part.cnp.stats ∧ onlyClaims s.part u.part))) ∧
    (x.kind = .handover → x.state = .review → x.mark = .none → x.timer ≤ 1 → running s.part = true →
      occupied s.part < 12 →
      ∃ u, Machine.exec (.reviewTimeout r) s = .next u ∧ u = s.withPart { s.part with
          lif := u.part.lif,
          hou := receiving (some { x with timer := 0, answer := .timeout, mark := .queued }) } ∧
        s.part.lif.enqueued u.part.lif (.reply r x.serial)
          { source := s.part.stc.number, destination := x.releaser,
            payload := .reply x.area x.number true .timeout }) ∧
    (x.state = .accepted → x.timer ≤ 1 →
      ∃ u, Machine.exec (.releaseTimeout r) s = .next u ∧ failed u .handoverLost .timeout)) ∧
  ((∀ (s : State) (r : Fin 4) (o : Offer), s.part.hou.offers.get r = some o → o.kind = .handover → o.state = .offered →
    o.replyTimer ≤ 1 → slotOfOwner (.offer r o.serial) s.part = none →
    (∀ j ∈ s.part.hou.answers, j.serial < s.part.hou.nextSerial) →
    ∃ u, Machine.exec (.replyTimeout r) s = .next u ∧ u.pending = s.pending ∧ u.part.stc = s.part.stc ∧
      u.part.hou.offers.get r = none ∧ u.part.atu = s.part.atu ∧
      (s.part.hou.answers.length < 4 → ∃ i, u.part.hou.answers = s.part.hou.answers ++ [i] ∧ i.refusal = none ∧
        i.area = o.area ∧ i.addressee = o.target ∧ i.number = o.number) ∧
      (4 ≤ s.part.hou.answers.length → u.part.hou.answers = s.part.hou.answers) ∧
      u.part.cnp.stats.handoversFailed = s.part.cnp.stats.handoversFailed + 1 ∧
      u.part.cnp.events = (s.part.cnp.storing s.part.stc.seconds
        { kind := .offerClosed, area := some o.area, station := some o.target, reason := some .timeout }).events) ∧
  (∀ (s : State) (n : Fin 4) (i : AnswerItem) (why : ReplyReason), s.part.hou.answers[n.val]? = some i →
    i.state = .waitingEnd → i.gap ≤ 1 → i.refusal = some why → running s.part = true → occupied s.part < 12 →
    (∀ j ∈ s.part.hou.answers, j.serial = i.serial → j = i) →
    ∃ u, Machine.exec (.answerGapExpiry n) s = .next u ∧
      u = s.withPart { s.part with lif := u.part.lif, hou := u.part.hou } ∧
      u.part.hou = { s.part.hou with answers := s.part.hou.answers.map fun j =>
        if j.serial = i.serial then { j with state := .queued, gap := 0 } else j } ∧
      s.part.lif.enqueued u.part.lif (.answer i.serial)
        { source := s.part.stc.number, destination := i.addressee, payload := .reply i.area i.number true why }))

/-! ## Tier 3 -/

/-- Reading a telegram that the layouts can carry back from its bytes gives that telegram (R147, R149, R177). -/
def Obligations.TelegramRoundTrip : Prop :=
  ∀ (t : Telegram), telegramFits t = true → decodeTelegram (encodeTelegram t) = some t

/-- No step takes the event queue past 64 records (R167), leaves a holder recorded for a held area (R92), leaves an area
with another role than that of the first line of R94's table that matches, or lets the horn state differ from that of the
demands or the two counters leave their ranges (R49, R52). -/
def Obligations.StepsKeepQueuesHoldersAndPanel : Prop :=
  ∀ (s u : State), step s = .next u →
    (EventsFine s.part → EventsFine u.part) ∧ (HolderFine s.part → HolderFine u.part) ∧
    (RoleFine s.part → RoleFine u.part) ∧ (PanelFine s.part → PanelFine u.part)

/-- Every step keeps the alarm table as the manual has it (R6, R12, R14, R15), and keeps it within the follow set: an area
that leaves the follow set in a step has no entry, no overflow indicator, no figure and no flood after it (R5, R67), and
every entry's area is followed and the one its tag is mapped to (R3, R6). -/
def Obligations.StepsKeepTableFine : Prop :=
  ∀ (s u : State), step s = .next u →
    (TableFine s.part → TableFine u.part) ∧ (FollowFine s.part → FollowFine u.part)

/-- Every step keeps the digest store within its 512 summaries (R114). -/
def Obligations.StepsKeepStoreFine : Prop :=
  ∀ (s u : State), StoreFine s.part → step s = .next u → StoreFine u.part

/-- No step leaves a record for an area in EMERGENCY (R132). -/
def Obligations.StepsKeepEmergencyFine : Prop :=
  ∀ (s u : State), EmergencyFine s.part → step s = .next u → EmergencyFine u.part

/-- Every step keeps the flood judgement: CALM below T_on, FLOOD above T_off (R64). -/
def Obligations.StepsKeepFloodFine : Prop :=
  ∀ (s u : State), FloodFine s.part → step s = .next u → FloodFine u.part
end

