-- ==== Sys2Proof/Laws/State.lean ====
section
/-! SUPPORT. What each update of the state changes and what it leaves: one lemma per field per update, so that no proof unfolds a record update. -/

namespace Sys2Proof.Machine

variable (p : Part)

@[simp] theorem withPart_part (s : State) (q : Part) : (s.withPart q).part = q := rfl
@[simp] theorem withPart_pending (s : State) (q : Part) : (s.withPart q).pending = s.pending := rfl
@[simp] theorem withPart_withPart (s : State) (q r : Part) : (s.withPart q).withPart r = s.withPart r := rfl

/-! ### modStc -/
@[simp] theorem modStc_stc (f : Stc → Stc) : (modStc f p).stc = f p.stc := rfl
@[simp] theorem modStc_lif (f : Stc → Stc) : (modStc f p).lif = p.lif := rfl
@[simp] theorem modStc_atu (f : Stc → Stc) : (modStc f p).atu = p.atu := rfl
@[simp] theorem modStc_ldm (f : Stc → Stc) : (modStc f p).ldm = p.ldm := rfl
@[simp] theorem modStc_anu (f : Stc → Stc) : (modStc f p).anu = p.anu := rfl
@[simp] theorem modStc_ssu (f : Stc → Stc) : (modStc f p).ssu = p.ssu := rfl
@[simp] theorem modStc_aru (f : Stc → Stc) : (modStc f p).aru = p.aru := rfl
@[simp] theorem modStc_hou (f : Stc → Stc) : (modStc f p).hou = p.hou := rfl
@[simp] theorem modStc_cnp (f : Stc → Stc) : (modStc f p).cnp = p.cnp := rfl

/-! ### modLif -/
@[simp] theorem modLif_stc (f : Lif → Lif) : (modLif f p).stc = p.stc := rfl
@[simp] theorem modLif_lif (f : Lif → Lif) : (modLif f p).lif = f p.lif := rfl
@[simp] theorem modLif_atu (f : Lif → Lif) : (modLif f p).atu = p.atu := rfl
@[simp] theorem modLif_ldm (f : Lif → Lif) : (modLif f p).ldm = p.ldm := rfl
@[simp] theorem modLif_anu (f : Lif → Lif) : (modLif f p).anu = p.anu := rfl
@[simp] theorem modLif_ssu (f : Lif → Lif) : (modLif f p).ssu = p.ssu := rfl
@[simp] theorem modLif_aru (f : Lif → Lif) : (modLif f p).aru = p.aru := rfl
@[simp] theorem modLif_hou (f : Lif → Lif) : (modLif f p).hou = p.hou := rfl
@[simp] theorem modLif_cnp (f : Lif → Lif) : (modLif f p).cnp = p.cnp := rfl

/-! ### modAtu -/
@[simp] theorem modAtu_stc (f : Atu → Atu) : (modAtu f p).stc = p.stc := rfl
@[simp] theorem modAtu_lif (f : Atu → Atu) : (modAtu f p).lif = p.lif := rfl
@[simp] theorem modAtu_atu (f : Atu → Atu) : (modAtu f p).atu = f p.atu := rfl
@[simp] theorem modAtu_ldm (f : Atu → Atu) : (modAtu f p).ldm = p.ldm := rfl
@[simp] theorem modAtu_anu (f : Atu → Atu) : (modAtu f p).anu = p.anu := rfl
@[simp] theorem modAtu_ssu (f : Atu → Atu) : (modAtu f p).ssu = p.ssu := rfl
@[simp] theorem modAtu_aru (f : Atu → Atu) : (modAtu f p).aru = p.aru := rfl
@[simp] theorem modAtu_hou (f : Atu → Atu) : (modAtu f p).hou = p.hou := rfl
@[simp] theorem modAtu_cnp (f : Atu → Atu) : (modAtu f p).cnp = p.cnp := rfl

/-! ### modLdm -/
@[simp] theorem modLdm_stc (f : Ldm → Ldm) : (modLdm f p).stc = p.stc := rfl
@[simp] theorem modLdm_lif (f : Ldm → Ldm) : (modLdm f p).lif = p.lif := rfl
@[simp] theorem modLdm_atu (f : Ldm → Ldm) : (modLdm f p).atu = p.atu := rfl
@[simp] theorem modLdm_ldm (f : Ldm → Ldm) : (modLdm f p).ldm = f p.ldm := rfl
@[simp] theorem modLdm_anu (f : Ldm → Ldm) : (modLdm f p).anu = p.anu := rfl
@[simp] theorem modLdm_ssu (f : Ldm → Ldm) : (modLdm f p).ssu = p.ssu := rfl
@[simp] theorem modLdm_aru (f : Ldm → Ldm) : (modLdm f p).aru = p.aru := rfl
@[simp] theorem modLdm_hou (f : Ldm → Ldm) : (modLdm f p).hou = p.hou := rfl
@[simp] theorem modLdm_cnp (f : Ldm → Ldm) : (modLdm f p).cnp = p.cnp := rfl

/-! ### modAnu -/
@[simp] theorem modAnu_stc (f : Anu → Anu) : (modAnu f p).stc = p.stc := rfl
@[simp] theorem modAnu_lif (f : Anu → Anu) : (modAnu f p).lif = p.lif := rfl
@[simp] theorem modAnu_atu (f : Anu → Anu) : (modAnu f p).atu = p.atu := rfl
@[simp] theorem modAnu_ldm (f : Anu → Anu) : (modAnu f p).ldm = p.ldm := rfl
@[simp] theorem modAnu_anu (f : Anu → Anu) : (modAnu f p).anu = f p.anu := rfl
@[simp] theorem modAnu_ssu (f : Anu → Anu) : (modAnu f p).ssu = p.ssu := rfl
@[simp] theorem modAnu_aru (f : Anu → Anu) : (modAnu f p).aru = p.aru := rfl
@[simp] theorem modAnu_hou (f : Anu → Anu) : (modAnu f p).hou = p.hou := rfl
@[simp] theorem modAnu_cnp (f : Anu → Anu) : (modAnu f p).cnp = p.cnp := rfl

/-! ### modSsu -/
@[simp] theorem modSsu_stc (f : Ssu → Ssu) : (modSsu f p).stc = p.stc := rfl
@[simp] theorem modSsu_lif (f : Ssu → Ssu) : (modSsu f p).lif = p.lif := rfl
@[simp] theorem modSsu_atu (f : Ssu → Ssu) : (modSsu f p).atu = p.atu := rfl
@[simp] theorem modSsu_ldm (f : Ssu → Ssu) : (modSsu f p).ldm = p.ldm := rfl
@[simp] theorem modSsu_anu (f : Ssu → Ssu) : (modSsu f p).anu = p.anu := rfl
@[simp] theorem modSsu_ssu (f : Ssu → Ssu) : (modSsu f p).ssu = f p.ssu := rfl
@[simp] theorem modSsu_aru (f : Ssu → Ssu) : (modSsu f p).aru = p.aru := rfl
@[simp] theorem modSsu_hou (f : Ssu → Ssu) : (modSsu f p).hou = p.hou := rfl
@[simp] theorem modSsu_cnp (f : Ssu → Ssu) : (modSsu f p).cnp = p.cnp := rfl

/-! ### modAru -/
@[simp] theorem modAru_stc (f : Aru → Aru) : (modAru f p).stc = p.stc := rfl
@[simp] theorem modAru_lif (f : Aru → Aru) : (modAru f p).lif = p.lif := rfl
@[simp] theorem modAru_atu (f : Aru → Aru) : (modAru f p).atu = p.atu := rfl
@[simp] theorem modAru_ldm (f : Aru → Aru) : (modAru f p).ldm = p.ldm := rfl
@[simp] theorem modAru_anu (f : Aru → Aru) : (modAru f p).anu = p.anu := rfl
@[simp] theorem modAru_ssu (f : Aru → Aru) : (modAru f p).ssu = p.ssu := rfl
@[simp] theorem modAru_aru (f : Aru → Aru) : (modAru f p).aru = f p.aru := rfl
@[simp] theorem modAru_hou (f : Aru → Aru) : (modAru f p).hou = p.hou := rfl
@[simp] theorem modAru_cnp (f : Aru → Aru) : (modAru f p).cnp = p.cnp := rfl

/-! ### modHou -/
@[simp] theorem modHou_stc (f : Hou → Hou) : (modHou f p).stc = p.stc := rfl
@[simp] theorem modHou_lif (f : Hou → Hou) : (modHou f p).lif = p.lif := rfl
@[simp] theorem modHou_atu (f : Hou → Hou) : (modHou f p).atu = p.atu := rfl
@[simp] theorem modHou_ldm (f : Hou → Hou) : (modHou f p).ldm = p.ldm := rfl
@[simp] theorem modHou_anu (f : Hou → Hou) : (modHou f p).anu = p.anu := rfl
@[simp] theorem modHou_ssu (f : Hou → Hou) : (modHou f p).ssu = p.ssu := rfl
@[simp] theorem modHou_aru (f : Hou → Hou) : (modHou f p).aru = p.aru := rfl
@[simp] theorem modHou_hou (f : Hou → Hou) : (modHou f p).hou = f p.hou := rfl
@[simp] theorem modHou_cnp (f : Hou → Hou) : (modHou f p).cnp = p.cnp := rfl

/-! ### modCnp -/
@[simp] theorem modCnp_stc (f : Cnp → Cnp) : (modCnp f p).stc = p.stc := rfl
@[simp] theorem modCnp_lif (f : Cnp → Cnp) : (modCnp f p).lif = p.lif := rfl
@[simp] theorem modCnp_atu (f : Cnp → Cnp) : (modCnp f p).atu = p.atu := rfl
@[simp] theorem modCnp_ldm (f : Cnp → Cnp) : (modCnp f p).ldm = p.ldm := rfl
@[simp] theorem modCnp_anu (f : Cnp → Cnp) : (modCnp f p).anu = p.anu := rfl
@[simp] theorem modCnp_ssu (f : Cnp → Cnp) : (modCnp f p).ssu = p.ssu := rfl
@[simp] theorem modCnp_aru (f : Cnp → Cnp) : (modCnp f p).aru = p.aru := rfl
@[simp] theorem modCnp_hou (f : Cnp → Cnp) : (modCnp f p).hou = p.hou := rfl
@[simp] theorem modCnp_cnp (f : Cnp → Cnp) : (modCnp f p).cnp = f p.cnp := rfl

/-! ### modStats -/
@[simp] theorem modStats_stc (f : Stats → Stats) : (modStats f p).stc = p.stc := rfl
@[simp] theorem modStats_lif (f : Stats → Stats) : (modStats f p).lif = p.lif := rfl
@[simp] theorem modStats_atu (f : Stats → Stats) : (modStats f p).atu = p.atu := rfl
@[simp] theorem modStats_ldm (f : Stats → Stats) : (modStats f p).ldm = p.ldm := rfl
@[simp] theorem modStats_anu (f : Stats → Stats) : (modStats f p).anu = p.anu := rfl
@[simp] theorem modStats_ssu (f : Stats → Stats) : (modStats f p).ssu = p.ssu := rfl
@[simp] theorem modStats_aru (f : Stats → Stats) : (modStats f p).aru = p.aru := rfl
@[simp] theorem modStats_hou (f : Stats → Stats) : (modStats f p).hou = p.hou := rfl
@[simp] theorem modStats_cnp (f : Stats → Stats) : (modStats f p).cnp = { p.cnp with stats := f p.cnp.stats } := rfl

/-! ### modViews -/
@[simp] theorem modViews_stc (f : View → View) : (modViews f p).stc = p.stc := rfl
@[simp] theorem modViews_lif (f : View → View) : (modViews f p).lif = p.lif := rfl
@[simp] theorem modViews_atu (f : View → View) : (modViews f p).atu = p.atu := rfl
@[simp] theorem modViews_ldm (f : View → View) : (modViews f p).ldm = p.ldm := rfl
@[simp] theorem modViews_anu (f : View → View) : (modViews f p).anu = p.anu := rfl
@[simp] theorem modViews_ssu (f : View → View) : (modViews f p).ssu = p.ssu := rfl
@[simp] theorem modViews_aru (f : View → View) : (modViews f p).aru = { p.aru with views := tabulate fun a => f (p.aru.views.get a) } := rfl
@[simp] theorem modViews_hou (f : View → View) : (modViews f p).hou = p.hou := rfl
@[simp] theorem modViews_cnp (f : View → View) : (modViews f p).cnp = p.cnp := rfl
@[simp] theorem view_modViews (f : View → View) (a : Area) : view (modViews f p) a = f (view p a) := by
  simp [view]

/-! ### modView -/
@[simp] theorem modView_stc (a : Area) (f : View → View) : (modView a f p).stc = p.stc := rfl
@[simp] theorem modView_lif (a : Area) (f : View → View) : (modView a f p).lif = p.lif := rfl
@[simp] theorem modView_atu (a : Area) (f : View → View) : (modView a f p).atu = p.atu := rfl
@[simp] theorem modView_ldm (a : Area) (f : View → View) : (modView a f p).ldm = p.ldm := rfl
@[simp] theorem modView_anu (a : Area) (f : View → View) : (modView a f p).anu = p.anu := rfl
@[simp] theorem modView_ssu (a : Area) (f : View → View) : (modView a f p).ssu = p.ssu := rfl
@[simp] theorem modView_aru (a : Area) (f : View → View) : (modView a f p).aru = { p.aru with views := setAt p.aru.views a (f (p.aru.views.get a)) } := rfl
@[simp] theorem modView_hou (a : Area) (f : View → View) : (modView a f p).hou = p.hou := rfl
@[simp] theorem modView_cnp (a : Area) (f : View → View) : (modView a f p).cnp = p.cnp := rfl

/-! ### setOffer -/
@[simp] theorem setOffer_stc (r : Fin 4) (o : Option Offer) : (setOffer r o p).stc = p.stc := rfl
@[simp] theorem setOffer_lif (r : Fin 4) (o : Option Offer) : (setOffer r o p).lif = p.lif := rfl
@[simp] theorem setOffer_atu (r : Fin 4) (o : Option Offer) : (setOffer r o p).atu = p.atu := rfl
@[simp] theorem setOffer_ldm (r : Fin 4) (o : Option Offer) : (setOffer r o p).ldm = p.ldm := rfl
@[simp] theorem setOffer_anu (r : Fin 4) (o : Option Offer) : (setOffer r o p).anu = p.anu := rfl
@[simp] theorem setOffer_ssu (r : Fin 4) (o : Option Offer) : (setOffer r o p).ssu = p.ssu := rfl
@[simp] theorem setOffer_aru (r : Fin 4) (o : Option Offer) : (setOffer r o p).aru = p.aru := rfl
@[simp] theorem setOffer_hou (r : Fin 4) (o : Option Offer) : (setOffer r o p).hou = { p.hou with offers := setAt p.hou.offers r o } := rfl
@[simp] theorem setOffer_cnp (r : Fin 4) (o : Option Offer) : (setOffer r o p).cnp = p.cnp := rfl

/-! ### setReception -/
@[simp] theorem setReception_stc (r : Fin 4) (x : Option Reception) : (setReception r x p).stc = p.stc := rfl
@[simp] theorem setReception_lif (r : Fin 4) (x : Option Reception) : (setReception r x p).lif = p.lif := rfl
@[simp] theorem setReception_atu (r : Fin 4) (x : Option Reception) : (setReception r x p).atu = p.atu := rfl
@[simp] theorem setReception_ldm (r : Fin 4) (x : Option Reception) : (setReception r x p).ldm = p.ldm := rfl
@[simp] theorem setReception_anu (r : Fin 4) (x : Option Reception) : (setReception r x p).anu = p.anu := rfl
@[simp] theorem setReception_ssu (r : Fin 4) (x : Option Reception) : (setReception r x p).ssu = p.ssu := rfl
@[simp] theorem setReception_aru (r : Fin 4) (x : Option Reception) : (setReception r x p).aru = p.aru := rfl
@[simp] theorem setReception_hou (r : Fin 4) (x : Option Reception) : (setReception r x p).hou = { p.hou with receptions := setAt p.hou.receptions r x } := rfl
@[simp] theorem setReception_cnp (r : Fin 4) (x : Option Reception) : (setReception r x p).cnp = p.cnp := rfl

/-! ### setSlot -/
@[simp] theorem setSlot_stc (k : Fin 12) (x : Option Slot) : (setSlot k x p).stc = p.stc := rfl
@[simp] theorem setSlot_lif (k : Fin 12) (x : Option Slot) : (setSlot k x p).lif = { p.lif with slots := setAt p.lif.slots k x } := rfl
@[simp] theorem setSlot_atu (k : Fin 12) (x : Option Slot) : (setSlot k x p).atu = p.atu := rfl
@[simp] theorem setSlot_ldm (k : Fin 12) (x : Option Slot) : (setSlot k x p).ldm = p.ldm := rfl
@[simp] theorem setSlot_anu (k : Fin 12) (x : Option Slot) : (setSlot k x p).anu = p.anu := rfl
@[simp] theorem setSlot_ssu (k : Fin 12) (x : Option Slot) : (setSlot k x p).ssu = p.ssu := rfl
@[simp] theorem setSlot_aru (k : Fin 12) (x : Option Slot) : (setSlot k x p).aru = p.aru := rfl
@[simp] theorem setSlot_hou (k : Fin 12) (x : Option Slot) : (setSlot k x p).hou = p.hou := rfl
@[simp] theorem setSlot_cnp (k : Fin 12) (x : Option Slot) : (setSlot k x p).cnp = p.cnp := rfl

/-! ### modSession -/
@[simp] theorem modSession_stc (f : Session → Session) : (modSession f p).stc = p.stc := rfl
@[simp] theorem modSession_lif (f : Session → Session) : (modSession f p).lif = p.lif := rfl
@[simp] theorem modSession_atu (f : Session → Session) : (modSession f p).atu = p.atu := rfl
@[simp] theorem modSession_ldm (f : Session → Session) : (modSession f p).ldm = p.ldm := rfl
@[simp] theorem modSession_anu (f : Session → Session) : (modSession f p).anu = p.anu := rfl
@[simp] theorem modSession_ssu (f : Session → Session) : (modSession f p).ssu = { p.ssu with session := p.ssu.session.map f } := rfl
@[simp] theorem modSession_aru (f : Session → Session) : (modSession f p).aru = p.aru := rfl
@[simp] theorem modSession_hou (f : Session → Session) : (modSession f p).hou = p.hou := rfl
@[simp] theorem modSession_cnp (f : Session → Session) : (modSession f p).cnp = p.cnp := rfl

/-! ### modInput -/
@[simp] theorem modInput_stc (i : Fin 8) (f : InputRecord → InputRecord) : (modInput i f p).stc = p.stc := rfl
@[simp] theorem modInput_lif (i : Fin 8) (f : InputRecord → InputRecord) : (modInput i f p).lif = p.lif := rfl
@[simp] theorem modInput_atu (i : Fin 8) (f : InputRecord → InputRecord) : (modInput i f p).atu = p.atu := rfl
@[simp] theorem modInput_ldm (i : Fin 8) (f : InputRecord → InputRecord) : (modInput i f p).ldm = p.ldm := rfl
@[simp] theorem modInput_anu (i : Fin 8) (f : InputRecord → InputRecord) : (modInput i f p).anu = { p.anu with inputs := setAt p.anu.inputs i (f (p.anu.inputs.get i)) } := rfl
@[simp] theorem modInput_ssu (i : Fin 8) (f : InputRecord → InputRecord) : (modInput i f p).ssu = p.ssu := rfl
@[simp] theorem modInput_aru (i : Fin 8) (f : InputRecord → InputRecord) : (modInput i f p).aru = p.aru := rfl
@[simp] theorem modInput_hou (i : Fin 8) (f : InputRecord → InputRecord) : (modInput i f p).hou = p.hou := rfl
@[simp] theorem modInput_cnp (i : Fin 8) (f : InputRecord → InputRecord) : (modInput i f p).cnp = p.cnp := rfl

/-! ### modKey -/
@[simp] theorem modKey_stc (k : Fin 4) (f : KeyRecord → KeyRecord) : (modKey k f p).stc = p.stc := rfl
@[simp] theorem modKey_lif (k : Fin 4) (f : KeyRecord → KeyRecord) : (modKey k f p).lif = p.lif := rfl
@[simp] theorem modKey_atu (k : Fin 4) (f : KeyRecord → KeyRecord) : (modKey k f p).atu = p.atu := rfl
@[simp] theorem modKey_ldm (k : Fin 4) (f : KeyRecord → KeyRecord) : (modKey k f p).ldm = p.ldm := rfl
@[simp] theorem modKey_anu (k : Fin 4) (f : KeyRecord → KeyRecord) : (modKey k f p).anu = { p.anu with keys := setAt p.anu.keys k (f (p.anu.keys.get k)) } := rfl
@[simp] theorem modKey_ssu (k : Fin 4) (f : KeyRecord → KeyRecord) : (modKey k f p).ssu = p.ssu := rfl
@[simp] theorem modKey_aru (k : Fin 4) (f : KeyRecord → KeyRecord) : (modKey k f p).aru = p.aru := rfl
@[simp] theorem modKey_hou (k : Fin 4) (f : KeyRecord → KeyRecord) : (modKey k f p).hou = p.hou := rfl
@[simp] theorem modKey_cnp (k : Fin 4) (f : KeyRecord → KeyRecord) : (modKey k f p).cnp = p.cnp := rfl

/-! ### Views, inputs and keys read back -/
@[simp] theorem view_modView_self (a : Area) (f : View → View) : view (modView a f p) a = f (view p a) := by simp [view]
@[simp] theorem view_modView_other (a b : Area) (f : View → View) (h : b ≠ a) : view (modView a f p) b = view p b := by
  simp [view, h]
theorem view_modView (a b : Area) (f : View → View) : view (modView a f p) b = if b = a then f (view p a) else view p b := by
  by_cases h : b = a <;> simp [h]
@[simp] theorem input_modInput_self (i : Fin 8) (f : InputRecord → InputRecord) :
    input (modInput i f p) i = f (input p i) := by simp [input]
@[simp] theorem input_modInput_other (i j : Fin 8) (f : InputRecord → InputRecord) (h : j ≠ i) :
    input (modInput i f p) j = input p j := by simp [input, h]
@[simp] theorem key_modKey_self (k : Fin 4) (f : KeyRecord → KeyRecord) : key (modKey k f p) k = f (key p k) := by
  simp [key]
@[simp] theorem key_modKey_other (k j : Fin 4) (f : KeyRecord → KeyRecord) (h : j ≠ k) :
    key (modKey k f p) j = key p j := by simp [key, h]

end Sys2Proof.Machine
end

