-- ==== Sys2Proof/Laws/Frames.lean ====
section
/-! SUPPORT. Which blocks each shared operation leaves as they were: `<operation>_frame`, a simp lemma with one equation per block it does not touch. -/

namespace Sys2Proof.Machine

variable (p : Part)

theorem foldl_stc {α : Type} (l : List α) (f : Part → α → Part) (h : ∀ q a, (f q a).stc = q.stc) (p : Part) :
    (l.foldl f p).stc = p.stc := by
  induction l generalizing p with
  | nil => rfl
  | cons x xs ih => simp [ih, h]

theorem foldl_lif {α : Type} (l : List α) (f : Part → α → Part) (h : ∀ q a, (f q a).lif = q.lif) (p : Part) :
    (l.foldl f p).lif = p.lif := by
  induction l generalizing p with
  | nil => rfl
  | cons x xs ih => simp [ih, h]

theorem foldl_atu {α : Type} (l : List α) (f : Part → α → Part) (h : ∀ q a, (f q a).atu = q.atu) (p : Part) :
    (l.foldl f p).atu = p.atu := by
  induction l generalizing p with
  | nil => rfl
  | cons x xs ih => simp [ih, h]

theorem foldl_ldm {α : Type} (l : List α) (f : Part → α → Part) (h : ∀ q a, (f q a).ldm = q.ldm) (p : Part) :
    (l.foldl f p).ldm = p.ldm := by
  induction l generalizing p with
  | nil => rfl
  | cons x xs ih => simp [ih, h]

theorem foldl_anu {α : Type} (l : List α) (f : Part → α → Part) (h : ∀ q a, (f q a).anu = q.anu) (p : Part) :
    (l.foldl f p).anu = p.anu := by
  induction l generalizing p with
  | nil => rfl
  | cons x xs ih => simp [ih, h]

theorem foldl_ssu {α : Type} (l : List α) (f : Part → α → Part) (h : ∀ q a, (f q a).ssu = q.ssu) (p : Part) :
    (l.foldl f p).ssu = p.ssu := by
  induction l generalizing p with
  | nil => rfl
  | cons x xs ih => simp [ih, h]

theorem foldl_aru {α : Type} (l : List α) (f : Part → α → Part) (h : ∀ q a, (f q a).aru = q.aru) (p : Part) :
    (l.foldl f p).aru = p.aru := by
  induction l generalizing p with
  | nil => rfl
  | cons x xs ih => simp [ih, h]

theorem foldl_hou {α : Type} (l : List α) (f : Part → α → Part) (h : ∀ q a, (f q a).hou = q.hou) (p : Part) :
    (l.foldl f p).hou = p.hou := by
  induction l generalizing p with
  | nil => rfl
  | cons x xs ih => simp [ih, h]

theorem foldl_cnp {α : Type} (l : List α) (f : Part → α → Part) (h : ∀ q a, (f q a).cnp = q.cnp) (p : Part) :
    (l.foldl f p).cnp = p.cnp := by
  induction l generalizing p with
  | nil => rfl
  | cons x xs ih => simp [ih, h]

theorem ite_stc (c : Prop) [Decidable c] (p q : Part) :
    (if c then p else q).stc = if c then p.stc else q.stc := apply_ite Part.stc c p q

theorem ite_lif (c : Prop) [Decidable c] (p q : Part) :
    (if c then p else q).lif = if c then p.lif else q.lif := apply_ite Part.lif c p q

theorem ite_atu (c : Prop) [Decidable c] (p q : Part) :
    (if c then p else q).atu = if c then p.atu else q.atu := apply_ite Part.atu c p q

theorem ite_ldm (c : Prop) [Decidable c] (p q : Part) :
    (if c then p else q).ldm = if c then p.ldm else q.ldm := apply_ite Part.ldm c p q

theorem ite_anu (c : Prop) [Decidable c] (p q : Part) :
    (if c then p else q).anu = if c then p.anu else q.anu := apply_ite Part.anu c p q

theorem ite_ssu (c : Prop) [Decidable c] (p q : Part) :
    (if c then p else q).ssu = if c then p.ssu else q.ssu := apply_ite Part.ssu c p q

theorem ite_aru (c : Prop) [Decidable c] (p q : Part) :
    (if c then p else q).aru = if c then p.aru else q.aru := apply_ite Part.aru c p q

theorem ite_hou (c : Prop) [Decidable c] (p q : Part) :
    (if c then p else q).hou = if c then p.hou else q.hou := apply_ite Part.hou c p q

theorem ite_cnp (c : Prop) [Decidable c] (p q : Part) :
    (if c then p else q).cnp = if c then p.cnp else q.cnp := apply_ite Part.cnp c p q

@[simp] theorem produce_frame (e : Event) :
    (produce e p).stc = p.stc ∧ (produce e p).lif = p.lif ∧ (produce e p).atu = p.atu ∧ (produce e p).ldm = p.ldm ∧ (produce e p).anu = p.anu ∧ (produce e p).ssu = p.ssu ∧ (produce e p).aru = p.aru ∧ (produce e p).hou = p.hou := by
  simp only [produce]; simp

@[simp] theorem countStaleCondition_frame :
    (countStaleCondition p).stc = p.stc ∧ (countStaleCondition p).lif = p.lif ∧ (countStaleCondition p).atu = p.atu ∧ (countStaleCondition p).ldm = p.ldm ∧ (countStaleCondition p).anu = p.anu ∧ (countStaleCondition p).ssu = p.ssu ∧ (countStaleCondition p).aru = p.aru ∧ (countStaleCondition p).hou = p.hou := by
  simp [countStaleCondition]

@[simp] theorem countStaleAck_frame :
    (countStaleAck p).stc = p.stc ∧ (countStaleAck p).lif = p.lif ∧ (countStaleAck p).atu = p.atu ∧ (countStaleAck p).ldm = p.ldm ∧ (countStaleAck p).anu = p.anu ∧ (countStaleAck p).ssu = p.ssu ∧ (countStaleAck p).aru = p.aru ∧ (countStaleAck p).hou = p.hou := by
  simp only [countStaleAck]; simp

@[simp] theorem countDuplicateAck_frame :
    (countDuplicateAck p).stc = p.stc ∧ (countDuplicateAck p).lif = p.lif ∧ (countDuplicateAck p).atu = p.atu ∧ (countDuplicateAck p).ldm = p.ldm ∧ (countDuplicateAck p).anu = p.anu ∧ (countDuplicateAck p).ssu = p.ssu ∧ (countDuplicateAck p).aru = p.aru ∧ (countDuplicateAck p).hou = p.hou := by
  simp only [countDuplicateAck]; simp

@[simp] theorem countUnmapped_frame :
    (countUnmapped p).stc = p.stc ∧ (countUnmapped p).lif = p.lif ∧ (countUnmapped p).atu = p.atu ∧ (countUnmapped p).ldm = p.ldm ∧ (countUnmapped p).anu = p.anu ∧ (countUnmapped p).ssu = p.ssu ∧ (countUnmapped p).aru = p.aru ∧ (countUnmapped p).hou = p.hou := by
  simp only [countUnmapped]; simp

@[simp] theorem countTableOverflow_frame :
    (countTableOverflow p).stc = p.stc ∧ (countTableOverflow p).lif = p.lif ∧ (countTableOverflow p).atu = p.atu ∧ (countTableOverflow p).ldm = p.ldm ∧ (countTableOverflow p).anu = p.anu ∧ (countTableOverflow p).ssu = p.ssu ∧ (countTableOverflow p).aru = p.aru ∧ (countTableOverflow p).hou = p.hou := by
  simp only [countTableOverflow]; simp

@[simp] theorem countFailed_frame :
    (countFailed p).stc = p.stc ∧ (countFailed p).lif = p.lif ∧ (countFailed p).atu = p.atu ∧ (countFailed p).ldm = p.ldm ∧ (countFailed p).anu = p.anu ∧ (countFailed p).ssu = p.ssu ∧ (countFailed p).aru = p.aru ∧ (countFailed p).hou = p.hou := by
  simp only [countFailed]; simp

@[simp] theorem countMerged_frame (n : Nat) :
    (countMerged n p).stc = p.stc ∧ (countMerged n p).lif = p.lif ∧ (countMerged n p).atu = p.atu ∧ (countMerged n p).ldm = p.ldm ∧ (countMerged n p).anu = p.anu ∧ (countMerged n p).ssu = p.ssu ∧ (countMerged n p).aru = p.aru ∧ (countMerged n p).hou = p.hou := by
  simp only [countMerged]; simp

@[simp] theorem setOverflow_frame (a : Area) :
    (setOverflow a p).stc = p.stc ∧ (setOverflow a p).lif = p.lif ∧ (setOverflow a p).ldm = p.ldm ∧ (setOverflow a p).anu = p.anu ∧ (setOverflow a p).ssu = p.ssu ∧ (setOverflow a p).aru = p.aru ∧ (setOverflow a p).hou = p.hou ∧ (setOverflow a p).cnp = p.cnp := by
  simp only [setOverflow]; simp

@[simp] theorem putEntry_frame (e : Entry) :
    (putEntry e p).stc = p.stc ∧ (putEntry e p).lif = p.lif ∧ (putEntry e p).ldm = p.ldm ∧ (putEntry e p).anu = p.anu ∧ (putEntry e p).ssu = p.ssu ∧ (putEntry e p).aru = p.aru ∧ (putEntry e p).hou = p.hou ∧ (putEntry e p).cnp = p.cnp := by
  simp only [putEntry]; simp

@[simp] theorem keepEntries_frame (f : Entry → Bool) :
    (keepEntries f p).stc = p.stc ∧ (keepEntries f p).lif = p.lif ∧ (keepEntries f p).ldm = p.ldm ∧ (keepEntries f p).anu = p.anu ∧ (keepEntries f p).ssu = p.ssu ∧ (keepEntries f p).aru = p.aru ∧ (keepEntries f p).hou = p.hou ∧ (keepEntries f p).cnp = p.cnp := by
  simp only [keepEntries]; simp

@[simp] theorem removeEntry_frame (t : Tag) :
    (removeEntry t p).stc = p.stc ∧ (removeEntry t p).lif = p.lif ∧ (removeEntry t p).ldm = p.ldm ∧ (removeEntry t p).anu = p.anu ∧ (removeEntry t p).ssu = p.ssu ∧ (removeEntry t p).aru = p.aru ∧ (removeEntry t p).hou = p.hou ∧ (removeEntry t p).cnp = p.cnp := by
  simp only [removeEntry]; simp

@[simp] theorem applyRemoval_frame (t : Tag) :
    (applyRemoval t p).stc = p.stc ∧ (applyRemoval t p).lif = p.lif ∧ (applyRemoval t p).ldm = p.ldm ∧ (applyRemoval t p).anu = p.anu ∧ (applyRemoval t p).ssu = p.ssu ∧ (applyRemoval t p).aru = p.aru ∧ (applyRemoval t p).hou = p.hou ∧ (applyRemoval t p).cnp = p.cnp := by
  simp only [applyRemoval]; (repeat' split) <;> simp

@[simp] theorem placeTelegram_frame (o : Owner) (t : Telegram) :
    (placeTelegram o t p).stc = p.stc ∧ (placeTelegram o t p).atu = p.atu ∧ (placeTelegram o t p).ldm = p.ldm ∧ (placeTelegram o t p).anu = p.anu ∧ (placeTelegram o t p).ssu = p.ssu ∧ (placeTelegram o t p).aru = p.aru ∧ (placeTelegram o t p).hou = p.hou ∧ (placeTelegram o t p).cnp = p.cnp := by
  simp only [placeTelegram]; (repeat' split) <;> simp

@[simp] theorem modAnswer_frame (n : Nat) (f : AnswerItem → AnswerItem) :
    (modAnswer n f p).stc = p.stc ∧ (modAnswer n f p).lif = p.lif ∧ (modAnswer n f p).atu = p.atu ∧ (modAnswer n f p).ldm = p.ldm ∧ (modAnswer n f p).anu = p.anu ∧ (modAnswer n f p).ssu = p.ssu ∧ (modAnswer n f p).aru = p.aru ∧ (modAnswer n f p).cnp = p.cnp := by
  simp only [modAnswer]; simp

@[simp] theorem modOffer_frame (r : Fin 4) (n : Nat) (f : Offer → Offer) :
    (modOffer r n f p).stc = p.stc ∧ (modOffer r n f p).lif = p.lif ∧ (modOffer r n f p).atu = p.atu ∧ (modOffer r n f p).ldm = p.ldm ∧ (modOffer r n f p).anu = p.anu ∧ (modOffer r n f p).ssu = p.ssu ∧ (modOffer r n f p).aru = p.aru ∧ (modOffer r n f p).cnp = p.cnp := by
  simp only [modOffer]; (repeat' split) <;> simp

@[simp] theorem modReception_frame (r : Fin 4) (n : Nat) (f : Reception → Reception) :
    (modReception r n f p).stc = p.stc ∧ (modReception r n f p).lif = p.lif ∧ (modReception r n f p).atu = p.atu ∧ (modReception r n f p).ldm = p.ldm ∧ (modReception r n f p).anu = p.anu ∧ (modReception r n f p).ssu = p.ssu ∧ (modReception r n f p).aru = p.aru ∧ (modReception r n f p).cnp = p.cnp := by
  simp only [modReception]; (repeat' split) <;> simp

@[simp] theorem markEntered_frame (o : Owner) :
    (markEntered o p).stc = p.stc ∧ (markEntered o p).lif = p.lif ∧ (markEntered o p).atu = p.atu ∧ (markEntered o p).ldm = p.ldm ∧ (markEntered o p).ssu = p.ssu := by
  simp only [markEntered]; (repeat' split) <;> simp

@[simp] theorem markOwed_frame (o : Owner) :
    (markOwed o p).stc = p.stc ∧ (markOwed o p).lif = p.lif ∧ (markOwed o p).atu = p.atu ∧ (markOwed o p).ldm = p.ldm ∧ (markOwed o p).anu = p.anu ∧ (markOwed o p).ssu = p.ssu ∧ (markOwed o p).cnp = p.cnp := by
  simp only [markOwed]; (repeat' split) <;> simp

@[simp] theorem markAttempt_frame (o : Owner) :
    (markAttempt o p).stc = p.stc ∧ (markAttempt o p).lif = p.lif ∧ (markAttempt o p).atu = p.atu ∧ (markAttempt o p).ldm = p.ldm ∧ (markAttempt o p).anu = p.anu ∧ (markAttempt o p).ssu = p.ssu ∧ (markAttempt o p).cnp = p.cnp := by
  simp only [markAttempt]; (repeat' split) <;> simp

@[simp] theorem markReturned_frame (o : Owner) :
    (markReturned o p).stc = p.stc ∧ (markReturned o p).lif = p.lif ∧ (markReturned o p).atu = p.atu ∧ (markReturned o p).ldm = p.ldm ∧ (markReturned o p).anu = p.anu ∧ (markReturned o p).ssu = p.ssu ∧ (markReturned o p).cnp = p.cnp := by
  simp only [markReturned]; (repeat' split) <;> simp

@[simp] theorem joinWaiting_frame (o : Owner) :
    (joinWaiting o p).stc = p.stc ∧ (joinWaiting o p).atu = p.atu ∧ (joinWaiting o p).ldm = p.ldm ∧ (joinWaiting o p).anu = p.anu ∧ (joinWaiting o p).ssu = p.ssu ∧ (joinWaiting o p).aru = p.aru ∧ (joinWaiting o p).hou = p.hou ∧ (joinWaiting o p).cnp = p.cnp := by
  simp only [joinWaiting]; simp

@[simp] theorem leaveWaiting_frame (o : Owner) :
    (leaveWaiting o p).stc = p.stc ∧ (leaveWaiting o p).atu = p.atu ∧ (leaveWaiting o p).ldm = p.ldm ∧ (leaveWaiting o p).anu = p.anu ∧ (leaveWaiting o p).ssu = p.ssu ∧ (leaveWaiting o p).aru = p.aru ∧ (leaveWaiting o p).hou = p.hou ∧ (leaveWaiting o p).cnp = p.cnp := by
  simp only [leaveWaiting]; simp

@[simp] theorem serveWaiting_frame :
    (serveWaiting p).stc = p.stc ∧ (serveWaiting p).atu = p.atu ∧ (serveWaiting p).ldm = p.ldm ∧ (serveWaiting p).ssu = p.ssu := by
  simp only [serveWaiting]; (repeat' split) <;> simp

@[simp] theorem placeLogin_frame (x : Session) :
    (placeLogin x p).stc = p.stc ∧ (placeLogin x p).atu = p.atu ∧ (placeLogin x p).ldm = p.ldm ∧ (placeLogin x p).anu = p.anu ∧ (placeLogin x p).ssu = p.ssu ∧ (placeLogin x p).aru = p.aru ∧ (placeLogin x p).hou = p.hou ∧ (placeLogin x p).cnp = p.cnp := by
  simp only [placeLogin]; simp

@[simp] theorem placeOwedLogin_frame :
    (placeOwedLogin p).stc = p.stc ∧ (placeOwedLogin p).atu = p.atu ∧ (placeOwedLogin p).ldm = p.ldm ∧ (placeOwedLogin p).anu = p.anu ∧ (placeOwedLogin p).aru = p.aru ∧ (placeOwedLogin p).hou = p.hou ∧ (placeOwedLogin p).cnp = p.cnp := by
  simp only [placeOwedLogin]; (repeat' split) <;> simp

@[simp] theorem freeSlot_frame (k : Fin 12) :
    (freeSlot k p).stc = p.stc ∧ (freeSlot k p).atu = p.atu ∧ (freeSlot k p).ldm = p.ldm := by
  simp only [freeSlot]; simp

@[simp] theorem pushTelegram_frame (o : Owner) :
    (pushTelegram o p).stc = p.stc ∧ (pushTelegram o p).atu = p.atu ∧ (pushTelegram o p).ldm = p.ldm ∧ (pushTelegram o p).ssu = p.ssu := by
  simp only [pushTelegram]; (repeat' split) <;> simp

@[simp] theorem withdrawTelegram_frame (o : Owner) :
    (withdrawTelegram o p).stc = p.stc ∧ (withdrawTelegram o p).atu = p.atu ∧ (withdrawTelegram o p).ldm = p.ldm := by
  simp only [withdrawTelegram]; (repeat' split) <;> simp

@[simp] theorem queueRequest_frame (d : StationNo) (x : Payload) :
    (queueRequest d x p).stc = p.stc ∧ (queueRequest d x p).atu = p.atu ∧ (queueRequest d x p).ldm = p.ldm ∧ (queueRequest d x p).anu = p.anu ∧ (queueRequest d x p).ssu = p.ssu ∧ (queueRequest d x p).aru = p.aru ∧ (queueRequest d x p).hou = p.hou ∧ (queueRequest d x p).cnp = p.cnp := by
  simp only [queueRequest]; simp

@[simp] theorem callBeacon_frame :
    (callBeacon p).stc = p.stc ∧ (callBeacon p).atu = p.atu ∧ (callBeacon p).ldm = p.ldm ∧ (callBeacon p).ssu = p.ssu := by
  simp only [callBeacon]; (repeat' split) <;> simp

@[simp] theorem deriveHorn_frame :
    (deriveHorn p).stc = p.stc ∧ (deriveHorn p).lif = p.lif ∧ (deriveHorn p).atu = p.atu ∧ (deriveHorn p).ldm = p.ldm ∧ (deriveHorn p).ssu = p.ssu ∧ (deriveHorn p).aru = p.aru ∧ (deriveHorn p).hou = p.hou ∧ (deriveHorn p).cnp = p.cnp := by
  simp only [deriveHorn]; simp

@[simp] theorem silenceHorn_frame :
    (silenceHorn p).stc = p.stc ∧ (silenceHorn p).lif = p.lif ∧ (silenceHorn p).atu = p.atu ∧ (silenceHorn p).ldm = p.ldm ∧ (silenceHorn p).ssu = p.ssu ∧ (silenceHorn p).aru = p.aru ∧ (silenceHorn p).hou = p.hou ∧ (silenceHorn p).cnp = p.cnp := by
  simp only [silenceHorn]; simp

@[simp] theorem raiseDemand_frame (l : Level) :
    (raiseDemand l p).stc = p.stc ∧ (raiseDemand l p).lif = p.lif ∧ (raiseDemand l p).atu = p.atu ∧ (raiseDemand l p).ldm = p.ldm ∧ (raiseDemand l p).ssu = p.ssu ∧ (raiseDemand l p).aru = p.aru ∧ (raiseDemand l p).hou = p.hou ∧ (raiseDemand l p).cnp = p.cnp := by
  simp only [raiseDemand]; (repeat' split) <;> simp

@[simp] theorem noticeOccurrence_frame (e : Entry) :
    (noticeOccurrence e p).stc = p.stc ∧ (noticeOccurrence e p).lif = p.lif ∧ (noticeOccurrence e p).atu = p.atu ∧ (noticeOccurrence e p).ldm = p.ldm ∧ (noticeOccurrence e p).ssu = p.ssu ∧ (noticeOccurrence e p).aru = p.aru ∧ (noticeOccurrence e p).hou = p.hou ∧ (noticeOccurrence e p).cnp = p.cnp := by
  simp only [noticeOccurrence]; (repeat' split) <;> simp

@[simp] theorem noticeShelfRelease_frame (e : Entry) :
    (noticeShelfRelease e p).stc = p.stc ∧ (noticeShelfRelease e p).lif = p.lif ∧ (noticeShelfRelease e p).atu = p.atu ∧ (noticeShelfRelease e p).ldm = p.ldm ∧ (noticeShelfRelease e p).ssu = p.ssu ∧ (noticeShelfRelease e p).aru = p.aru ∧ (noticeShelfRelease e p).hou = p.hou ∧ (noticeShelfRelease e p).cnp = p.cnp := by
  simp only [noticeShelfRelease]; (repeat' split) <;> simp

@[simp] theorem noticeEmergency_frame (a : Area) :
    (noticeEmergency a p).stc = p.stc ∧ (noticeEmergency a p).lif = p.lif ∧ (noticeEmergency a p).atu = p.atu ∧ (noticeEmergency a p).ldm = p.ldm ∧ (noticeEmergency a p).ssu = p.ssu ∧ (noticeEmergency a p).aru = p.aru ∧ (noticeEmergency a p).hou = p.hou ∧ (noticeEmergency a p).cnp = p.cnp := by
  simp only [noticeEmergency]; (repeat' split) <;> simp

@[simp] theorem raiseStanding_frame (a : Area) :
    (raiseStanding a p).stc = p.stc ∧ (raiseStanding a p).lif = p.lif ∧ (raiseStanding a p).atu = p.atu ∧ (raiseStanding a p).ldm = p.ldm ∧ (raiseStanding a p).ssu = p.ssu ∧ (raiseStanding a p).aru = p.aru ∧ (raiseStanding a p).hou = p.hou ∧ (raiseStanding a p).cnp = p.cnp := by
  simp only [raiseStanding]; simp

@[simp] theorem judgeFlood_frame (a : Area) :
    (judgeFlood a p).stc = p.stc ∧ (judgeFlood a p).lif = p.lif ∧ (judgeFlood a p).atu = p.atu ∧ (judgeFlood a p).anu = p.anu ∧ (judgeFlood a p).ssu = p.ssu ∧ (judgeFlood a p).aru = p.aru ∧ (judgeFlood a p).hou = p.hou := by
  simp only [judgeFlood]; (repeat' split) <;> simp

@[simp] theorem setLoad_frame (a : Area) (n : Nat) :
    (setLoad a n p).stc = p.stc ∧ (setLoad a n p).lif = p.lif ∧ (setLoad a n p).atu = p.atu ∧ (setLoad a n p).anu = p.anu ∧ (setLoad a n p).ssu = p.ssu ∧ (setLoad a n p).aru = p.aru ∧ (setLoad a n p).hou = p.hou := by
  simp only [setLoad]; (repeat' split) <;> simp

@[simp] theorem accrue_frame (a : Area) (x : Priority) :
    (accrue a x p).stc = p.stc ∧ (accrue a x p).lif = p.lif ∧ (accrue a x p).atu = p.atu ∧ (accrue a x p).anu = p.anu ∧ (accrue a x p).ssu = p.ssu ∧ (accrue a x p).aru = p.aru ∧ (accrue a x p).hou = p.hou := by
  simp only [accrue]; simp

@[simp] theorem takeMaximum_frame (a : Area) (x : Word16) :
    (takeMaximum a x p).stc = p.stc ∧ (takeMaximum a x p).lif = p.lif ∧ (takeMaximum a x p).atu = p.atu ∧ (takeMaximum a x p).anu = p.anu ∧ (takeMaximum a x p).ssu = p.ssu ∧ (takeMaximum a x p).aru = p.aru ∧ (takeMaximum a x p).hou = p.hou := by
  simp only [takeMaximum]; simp

@[simp] theorem decayArea_frame (a : Area) :
    (decayArea p a).stc = p.stc ∧ (decayArea p a).lif = p.lif ∧ (decayArea p a).atu = p.atu ∧ (decayArea p a).anu = p.anu ∧ (decayArea p a).ssu = p.ssu ∧ (decayArea p a).aru = p.aru ∧ (decayArea p a).hou = p.hou := by
  simp only [decayArea]; (repeat' split) <;> simp

@[simp] theorem reportOverflow_frame (a : Area) (t : Tag) (r : Reason) :
    (reportOverflow a t r p).stc = p.stc ∧ (reportOverflow a t r p).lif = p.lif ∧ (reportOverflow a t r p).ldm = p.ldm ∧ (reportOverflow a t r p).anu = p.anu ∧ (reportOverflow a t r p).ssu = p.ssu ∧ (reportOverflow a t r p).aru = p.aru ∧ (reportOverflow a t r p).hou = p.hou := by
  simp only [reportOverflow]; simp

@[simp] theorem storeNew_frame (e : Entry) :
    (storeNew e p).2.stc = p.stc ∧ (storeNew e p).2.lif = p.lif ∧ (storeNew e p).2.ldm = p.ldm ∧ (storeNew e p).2.ssu = p.ssu ∧ (storeNew e p).2.aru = p.aru ∧ (storeNew e p).2.hou = p.hou := by
  simp only [storeNew]; (repeat' split) <;> simp

@[simp] theorem newOccurrence_frame (e : Entry) :
    (newOccurrence e p).stc = p.stc ∧ (newOccurrence e p).lif = p.lif ∧ (newOccurrence e p).ssu = p.ssu ∧ (newOccurrence e p).aru = p.aru ∧ (newOccurrence e p).hou = p.hou := by
  simp only [newOccurrence]; (repeat' split) <;> simp

@[simp] theorem storeOccurrence_frame (e : Entry) :
    (storeOccurrence e p).stc = p.stc ∧ (storeOccurrence e p).lif = p.lif ∧ (storeOccurrence e p).ssu = p.ssu ∧ (storeOccurrence e p).aru = p.aru ∧ (storeOccurrence e p).hou = p.hou := by
  simp only [storeOccurrence]; (repeat' split) <;> simp

@[simp] theorem removeShelf_frame (e : Entry) :
    (removeShelf e p).stc = p.stc ∧ (removeShelf e p).lif = p.lif ∧ (removeShelf e p).ldm = p.ldm ∧ (removeShelf e p).ssu = p.ssu ∧ (removeShelf e p).aru = p.aru ∧ (removeShelf e p).hou = p.hou ∧ (removeShelf e p).cnp = p.cnp := by
  simp only [removeShelf]; (repeat' split) <;> simp

@[simp] theorem repeatActive_frame (e : Entry) (x : Priority) :
    (repeatActive e x p).stc = p.stc ∧ (repeatActive e x p).lif = p.lif ∧ (repeatActive e x p).ldm = p.ldm ∧ (repeatActive e x p).ssu = p.ssu ∧ (repeatActive e x p).aru = p.aru ∧ (repeatActive e x p).hou = p.hou ∧ (repeatActive e x p).cnp = p.cnp := by
  simp only [repeatActive]; (repeat' split) <;> simp

@[simp] theorem clearEqual_frame (e : Entry) :
    (clearEqual e p).stc = p.stc ∧ (clearEqual e p).lif = p.lif ∧ (clearEqual e p).ldm = p.ldm ∧ (clearEqual e p).ssu = p.ssu ∧ (clearEqual e p).aru = p.aru ∧ (clearEqual e p).hou = p.hou ∧ (clearEqual e p).cnp = p.cnp := by
  simp only [clearEqual]; (repeat' split) <;> simp

@[simp] theorem applyCondition_frame (t : Tag) (x : Priority) (b : Bool) (n : Occurrence) :
    (applyCondition t x b n p).stc = p.stc ∧ (applyCondition t x b n p).lif = p.lif ∧ (applyCondition t x b n p).ssu = p.ssu ∧ (applyCondition t x b n p).aru = p.aru ∧ (applyCondition t x b n p).hou = p.hou := by
  simp only [applyCondition]; (repeat' split) <;> simp

@[simp] theorem applyAcknowledge_frame (t : Tag) (n : Occurrence) (c : Credential) :
    (applyAcknowledge t n c p).stc = p.stc ∧ (applyAcknowledge t n c p).lif = p.lif ∧ (applyAcknowledge t n c p).ldm = p.ldm ∧ (applyAcknowledge t n c p).ssu = p.ssu ∧ (applyAcknowledge t n c p).aru = p.aru ∧ (applyAcknowledge t n c p).hou = p.hou := by
  simp only [applyAcknowledge]; (repeat' split) <;> simp

@[simp] theorem applyShelve_frame (t : Tag) (w : Word16) (c : Credential) (x : StationNo) :
    (applyShelve t w c x p).stc = p.stc ∧ (applyShelve t w c x p).lif = p.lif ∧ (applyShelve t w c x p).ldm = p.ldm ∧ (applyShelve t w c x p).ssu = p.ssu ∧ (applyShelve t w c x p).aru = p.aru ∧ (applyShelve t w c x p).hou = p.hou := by
  simp only [applyShelve]; (repeat' split) <;> simp

@[simp] theorem applyUnshelve_frame (t : Tag) :
    (applyUnshelve t p).stc = p.stc ∧ (applyUnshelve t p).lif = p.lif ∧ (applyUnshelve t p).ldm = p.ldm ∧ (applyUnshelve t p).ssu = p.ssu ∧ (applyUnshelve t p).aru = p.aru ∧ (applyUnshelve t p).hou = p.hou := by
  simp only [applyUnshelve]; (repeat' split) <;> simp

@[simp] theorem clearQuiet_frame (a : Area) :
    (clearQuiet a p).stc = p.stc ∧ (clearQuiet a p).lif = p.lif ∧ (clearQuiet a p).ldm = p.ldm ∧ (clearQuiet a p).ssu = p.ssu ∧ (clearQuiet a p).aru = p.aru ∧ (clearQuiet a p).hou = p.hou ∧ (clearQuiet a p).cnp = p.cnp := by
  simp only [clearQuiet]; simp

@[simp] theorem removeShelfOf_frame (t : Tag) :
    (removeShelfOf p t).stc = p.stc ∧ (removeShelfOf p t).lif = p.lif ∧ (removeShelfOf p t).ldm = p.ldm ∧ (removeShelfOf p t).ssu = p.ssu ∧ (removeShelfOf p t).aru = p.aru ∧ (removeShelfOf p t).hou = p.hou ∧ (removeShelfOf p t).cnp = p.cnp := by
  simp only [removeShelfOf]; (repeat' split) <;> simp

@[simp] theorem flushArea_frame (a : Area) :
    (flushArea a p).stc = p.stc ∧ (flushArea a p).lif = p.lif ∧ (flushArea a p).ldm = p.ldm ∧ (flushArea a p).ssu = p.ssu ∧ (flushArea a p).aru = p.aru ∧ (flushArea a p).hou = p.hou ∧ (flushArea a p).cnp = p.cnp := by
  simp [flushArea, foldl_stc, foldl_lif, foldl_ldm, foldl_ssu, foldl_aru, foldl_hou, foldl_cnp, ite_stc, ite_lif, ite_ldm, ite_ssu, ite_aru, ite_hou, ite_cnp]

@[simp] theorem storeSummary_frame (a : Area) (x : StationNo) (d : Summary) :
    (storeSummary a x d p).stc = p.stc ∧ (storeSummary a x d p).lif = p.lif ∧ (storeSummary a x d p).ldm = p.ldm ∧ (storeSummary a x d p).ssu = p.ssu ∧ (storeSummary a x d p).aru = p.aru ∧ (storeSummary a x d p).hou = p.hou := by
  simp only [storeSummary]; (repeat' split) <;> simp

@[simp] theorem mergeSummary_frame (a : Area) (x : StationNo) (d : Summary) :
    (mergeSummary a x p d).stc = p.stc ∧ (mergeSummary a x p d).lif = p.lif ∧ (mergeSummary a x p d).ldm = p.ldm ∧ (mergeSummary a x p d).ssu = p.ssu ∧ (mergeSummary a x p d).aru = p.aru ∧ (mergeSummary a x p d).hou = p.hou := by
  simp only [mergeSummary]; (repeat' split) <;> simp

@[simp] theorem replaceSummary_frame (a : Area) (x : StationNo) (d : Summary) :
    (replaceSummary a x p d).stc = p.stc ∧ (replaceSummary a x p d).lif = p.lif ∧ (replaceSummary a x p d).ldm = p.ldm ∧ (replaceSummary a x p d).ssu = p.ssu ∧ (replaceSummary a x p d).aru = p.aru ∧ (replaceSummary a x p d).hou = p.hou := by
  simp only [replaceSummary]; (repeat' split) <;> simp

@[simp] theorem replaceArea_frame (a : Area) (x : StationNo) (ds : List Summary) :
    (replaceArea a x ds p).stc = p.stc ∧ (replaceArea a x ds p).lif = p.lif ∧ (replaceArea a x ds p).ldm = p.ldm ∧ (replaceArea a x ds p).ssu = p.ssu ∧ (replaceArea a x ds p).aru = p.aru ∧ (replaceArea a x ds p).hou = p.hou := by
  simp [replaceArea, foldl_stc, foldl_lif, foldl_ldm, foldl_ssu, foldl_aru, foldl_hou]

@[simp] theorem purgeUnfollowed_frame :
    (purgeUnfollowed p).stc = p.stc ∧ (purgeUnfollowed p).lif = p.lif ∧ (purgeUnfollowed p).ssu = p.ssu ∧ (purgeUnfollowed p).aru = p.aru ∧ (purgeUnfollowed p).hou = p.hou ∧ (purgeUnfollowed p).cnp = p.cnp := by
  simp only [purgeUnfollowed]; simp

@[simp] theorem expireShelf_frame (e : Entry) :
    (expireShelf e p).stc = p.stc ∧ (expireShelf e p).lif = p.lif ∧ (expireShelf e p).ldm = p.ldm ∧ (expireShelf e p).ssu = p.ssu ∧ (expireShelf e p).aru = p.aru ∧ (expireShelf e p).hou = p.hou := by
  simp only [expireShelf]; simp

@[simp] theorem addAnswer_frame (x : Option ReplyReason) (a : Area) (d : StationNo) (h : Byte) (w : Bool) :
    (addAnswer x a d h w p).stc = p.stc ∧ (addAnswer x a d h w p).atu = p.atu ∧ (addAnswer x a d h w p).ldm = p.ldm ∧ (addAnswer x a d h w p).ssu = p.ssu := by
  simp only [addAnswer]; (repeat' split) <;> simp

@[simp] theorem dropOffer_frame (r : Fin 4) :
    (dropOffer r p).stc = p.stc ∧ (dropOffer r p).atu = p.atu ∧ (dropOffer r p).ldm = p.ldm := by
  simp only [dropOffer]; (repeat' split) <;> simp

@[simp] theorem dropReception_frame (r : Fin 4) :
    (dropReception r p).stc = p.stc ∧ (dropReception r p).atu = p.atu ∧ (dropReception r p).ldm = p.ldm := by
  simp only [dropReception]; (repeat' split) <;> simp

@[simp] theorem closeOffer_frame (r : Fin 4) (x : Reason) (b : Bool) :
    (closeOffer r x b p).stc = p.stc ∧ (closeOffer r x b p).atu = p.atu ∧ (closeOffer r x b p).ldm = p.ldm := by
  simp only [closeOffer]; (repeat' split) <;> simp

@[simp] theorem closeReception_frame (r : Fin 4) (x : Reason) :
    (closeReception r x p).stc = p.stc ∧ (closeReception r x p).atu = p.atu ∧ (closeReception r x p).ldm = p.ldm := by
  simp only [closeReception]; (repeat' split) <;> simp

@[simp] theorem closeOfferFor_frame (a : Area) (x : Reason) (b : Bool) :
    (closeOfferFor a x b p).stc = p.stc ∧ (closeOfferFor a x b p).atu = p.atu ∧ (closeOfferFor a x b p).ldm = p.ldm := by
  simp only [closeOfferFor]; (repeat' split) <;> simp

@[simp] theorem tripOffer_frame (a : Area) (r : Fin 4) :
    (tripOffer a p r).stc = p.stc ∧ (tripOffer a p r).atu = p.atu ∧ (tripOffer a p r).ldm = p.ldm := by
  simp only [tripOffer]; (repeat' split) <;> simp

@[simp] theorem tripReception_frame (a : Area) (r : Fin 4) :
    (tripReception a p r).stc = p.stc ∧ (tripReception a p r).atu = p.atu ∧ (tripReception a p r).ldm = p.ldm := by
  simp only [tripReception]; (repeat' split) <;> simp

@[simp] theorem tripRecords_frame (a : Area) :
    (tripRecords a p).stc = p.stc ∧ (tripRecords a p).atu = p.atu ∧ (tripRecords a p).ldm = p.ldm := by
  simp [tripRecords, foldl_stc, foldl_atu, foldl_ldm]

@[simp] theorem dropForeignSync_frame (a : Area) (x : StationNo) :
    (dropForeignSync a x p).stc = p.stc ∧ (dropForeignSync a x p).atu = p.atu ∧ (dropForeignSync a x p).ldm = p.ldm := by
  simp only [dropForeignSync]; (repeat' split) <;> simp

@[simp] theorem changeRole_frame (a : Area) (x : Role) :
    (changeRole a x p).stc = p.stc ∧ (changeRole a x p).lif = p.lif ∧ (changeRole a x p).atu = p.atu ∧ (changeRole a x p).ldm = p.ldm ∧ (changeRole a x p).ssu = p.ssu ∧ (changeRole a x p).hou = p.hou ∧ (changeRole a x p).cnp = p.cnp := by
  simp only [changeRole]; (repeat' split) <;> simp

@[simp] theorem refreshRole_frame (a : Area) :
    (refreshRole p a).stc = p.stc ∧ (refreshRole p a).lif = p.lif ∧ (refreshRole p a).atu = p.atu ∧ (refreshRole p a).ldm = p.ldm ∧ (refreshRole p a).ssu = p.ssu ∧ (refreshRole p a).hou = p.hou ∧ (refreshRole p a).cnp = p.cnp := by
  simp only [refreshRole]; (repeat' split) <;> simp

@[simp] theorem refreshRoles_frame :
    (refreshRoles p).stc = p.stc ∧ (refreshRoles p).lif = p.lif ∧ (refreshRoles p).atu = p.atu ∧ (refreshRoles p).ldm = p.ldm ∧ (refreshRoles p).ssu = p.ssu ∧ (refreshRoles p).hou = p.hou ∧ (refreshRoles p).cnp = p.cnp := by
  simp [refreshRoles, foldl_stc, foldl_lif, foldl_atu, foldl_ldm, foldl_ssu, foldl_hou, foldl_cnp]

@[simp] theorem settleAreas_frame :
    (settleAreas p).stc = p.stc ∧ (settleAreas p).lif = p.lif ∧ (settleAreas p).ssu = p.ssu ∧ (settleAreas p).hou = p.hou ∧ (settleAreas p).cnp = p.cnp := by
  simp only [settleAreas]; simp

@[simp] theorem startClaimDelay_frame (a : Area) :
    (startClaimDelay a p).stc = p.stc ∧ (startClaimDelay a p).lif = p.lif ∧ (startClaimDelay a p).atu = p.atu ∧ (startClaimDelay a p).ldm = p.ldm ∧ (startClaimDelay a p).anu = p.anu ∧ (startClaimDelay a p).ssu = p.ssu ∧ (startClaimDelay a p).hou = p.hou ∧ (startClaimDelay a p).cnp = p.cnp := by
  simp only [startClaimDelay]; (repeat' split) <;> simp

@[simp] theorem stopGrace_frame :
    (stopGrace p).stc = p.stc ∧ (stopGrace p).lif = p.lif ∧ (stopGrace p).atu = p.atu ∧ (stopGrace p).ldm = p.ldm ∧ (stopGrace p).anu = p.anu ∧ (stopGrace p).ssu = p.ssu ∧ (stopGrace p).hou = p.hou ∧ (stopGrace p).cnp = p.cnp := by
  simp only [stopGrace]; simp

@[simp] theorem startGrace_frame :
    (startGrace p).stc = p.stc ∧ (startGrace p).lif = p.lif ∧ (startGrace p).atu = p.atu ∧ (startGrace p).ldm = p.ldm ∧ (startGrace p).anu = p.anu ∧ (startGrace p).ssu = p.ssu ∧ (startGrace p).hou = p.hou ∧ (startGrace p).cnp = p.cnp := by
  simp only [startGrace]; simp

@[simp] theorem disarmRelief_frame :
    (disarmRelief p).stc = p.stc ∧ (disarmRelief p).lif = p.lif ∧ (disarmRelief p).atu = p.atu ∧ (disarmRelief p).ldm = p.ldm ∧ (disarmRelief p).aru = p.aru ∧ (disarmRelief p).hou = p.hou ∧ (disarmRelief p).cnp = p.cnp := by
  simp only [disarmRelief]; simp

@[simp] theorem cancelRelief_frame (x : Reason) (a : Option Area) :
    (cancelRelief x a p).stc = p.stc ∧ (cancelRelief x a p).lif = p.lif ∧ (cancelRelief x a p).atu = p.atu ∧ (cancelRelief x a p).ldm = p.ldm ∧ (cancelRelief x a p).aru = p.aru ∧ (cancelRelief x a p).hou = p.hou := by
  simp only [cancelRelief]; (repeat' split) <;> simp

@[simp] theorem afterLoss_frame :
    (afterLoss p).stc = p.stc ∧ (afterLoss p).lif = p.lif ∧ (afterLoss p).atu = p.atu ∧ (afterLoss p).ldm = p.ldm ∧ (afterLoss p).hou = p.hou := by
  simp only [afterLoss]; (repeat' split) <;> simp

@[simp] theorem dropOwedSync_frame (a : Area) :
    (dropOwedSync a p).stc = p.stc ∧ (dropOwedSync a p).atu = p.atu ∧ (dropOwedSync a p).ldm = p.ldm ∧ (dropOwedSync a p).anu = p.anu ∧ (dropOwedSync a p).ssu = p.ssu ∧ (dropOwedSync a p).hou = p.hou ∧ (dropOwedSync a p).cnp = p.cnp := by
  simp only [dropOwedSync]; simp

@[simp] theorem clearHolder_frame (a : Area) :
    (clearHolder a p).stc = p.stc ∧ (clearHolder a p).atu = p.atu ∧ (clearHolder a p).ldm = p.ldm ∧ (clearHolder a p).anu = p.anu ∧ (clearHolder a p).ssu = p.ssu ∧ (clearHolder a p).hou = p.hou ∧ (clearHolder a p).cnp = p.cnp := by
  simp only [clearHolder]; simp

@[simp] theorem loseArea_frame (a : Area) (f : View → View) (e : Event) (x : Reason) (b : Bool) :
    (loseArea a f e x b p).stc = p.stc ∧ (loseArea a f e x b p).atu = p.atu ∧ (loseArea a f e x b p).ldm = p.ldm := by
  simp only [loseArea]; simp

@[simp] theorem gainArea_frame (a : Area) :
    (gainArea a p).stc = p.stc ∧ (gainArea a p).atu = p.atu ∧ (gainArea a p).ldm = p.ldm ∧ (gainArea a p).ssu = p.ssu := by
  simp only [gainArea]; (repeat' split) <;> simp

@[simp] theorem claimArea_frame (a : Area) :
    (claimArea p a).stc = p.stc ∧ (claimArea p a).atu = p.atu ∧ (claimArea p a).ldm = p.ldm ∧ (claimArea p a).ssu = p.ssu := by
  simp only [claimArea]; (repeat' split) <;> simp

@[simp] theorem judgeClaims_frame :
    (judgeClaims p).stc = p.stc ∧ (judgeClaims p).atu = p.atu ∧ (judgeClaims p).ldm = p.ldm ∧ (judgeClaims p).ssu = p.ssu := by
  simp [judgeClaims, foldl_stc, foldl_atu, foldl_ldm, foldl_ssu]

@[simp] theorem afterReceptionFreed_frame :
    (afterReceptionFreed p).stc = p.stc ∧ (afterReceptionFreed p).ssu = p.ssu := by
  simp only [afterReceptionFreed]; simp

@[simp] theorem issueSync_frame (a : Area) :
    (issueSync a p).stc = p.stc ∧ (issueSync a p).atu = p.atu ∧ (issueSync a p).ldm = p.ldm ∧ (issueSync a p).ssu = p.ssu := by
  simp only [issueSync]; simp

@[simp] theorem judgeStartupArea_frame (a : Area) :
    (judgeStartupArea p a).stc = p.stc ∧ (judgeStartupArea p a).atu = p.atu ∧ (judgeStartupArea p a).ldm = p.ldm ∧ (judgeStartupArea p a).ssu = p.ssu := by
  simp only [judgeStartupArea]; (repeat' split) <;> simp

@[simp] theorem judgeStartup_frame :
    (judgeStartup p).stc = p.stc ∧ (judgeStartup p).atu = p.atu ∧ (judgeStartup p).ldm = p.ldm ∧ (judgeStartup p).ssu = p.ssu := by
  simp [judgeStartup, foldl_stc, foldl_atu, foldl_ldm, foldl_ssu, ite_stc, ite_atu, ite_ldm, ite_ssu]

@[simp] theorem conflict_frame (x : StationNo) (c : PeriodCode) (i : BeaconItem) :
    (conflict x c i p).stc = p.stc ∧ (conflict x c i p).atu = p.atu ∧ (conflict x c i p).ldm = p.ldm := by
  simp only [conflict]; (repeat' split) <;> simp

@[simp] theorem takeItem_frame (x : StationNo) (c : PeriodCode) (i : BeaconItem) :
    (takeItem x c p i).stc = p.stc ∧ (takeItem x c p i).atu = p.atu ∧ (takeItem x c p i).ldm = p.ldm := by
  simp only [takeItem]; (repeat' split) <;> simp

@[simp] theorem omitArea_frame (x : StationNo) (c : BeaconContent) (a : Area) :
    (omitArea x c p a).stc = p.stc ∧ (omitArea x c p a).atu = p.atu ∧ (omitArea x c p a).ldm = p.ldm ∧ (omitArea x c p a).anu = p.anu ∧ (omitArea x c p a).ssu = p.ssu ∧ (omitArea x c p a).hou = p.hou := by
  simp only [omitArea]; (repeat' split) <;> simp

@[simp] theorem compareItem_frame (x : StationNo) (i : BeaconItem) :
    (compareItem x p i).stc = p.stc ∧ (compareItem x p i).atu = p.atu ∧ (compareItem x p i).ldm = p.ldm ∧ (compareItem x p i).ssu = p.ssu := by
  simp only [compareItem]; (repeat' split) <;> simp

@[simp] theorem enterEmergency_frame (a : Area) (x : StationNo) (r : Reason) :
    (enterEmergency a x r p).stc = p.stc := by
  simp only [enterEmergency]; (repeat' split) <;> simp

@[simp] theorem tripArea_frame (a : Area) (x : StationNo) :
    (tripArea a x p).stc = p.stc := by
  simp only [tripArea]; (repeat' split) <;> simp

@[simp] theorem leaveEmergency_frame (a : Area) (x : StationNo) :
    (leaveEmergency a x p).stc = p.stc ∧ (leaveEmergency a x p).atu = p.atu ∧ (leaveEmergency a x p).ldm = p.ldm ∧ (leaveEmergency a x p).ssu = p.ssu := by
  simp only [leaveEmergency]; (repeat' split) <;> simp

@[simp] theorem tripFromItem_frame (x : StationNo) (i : BeaconItem) :
    (tripFromItem x p i).stc = p.stc := by
  simp only [tripFromItem]; (repeat' split) <;> simp

@[simp] theorem applyBeacon_frame (x : StationNo) (c : BeaconContent) :
    (applyBeacon x c p).stc = p.stc := by
  simp [applyBeacon, foldl_stc, ite_stc]

@[simp] theorem forgetHolder_frame (a : Area) :
    (forgetHolder a p).stc = p.stc ∧ (forgetHolder a p).ssu = p.ssu := by
  simp only [forgetHolder]; (repeat' split) <;> simp

@[simp] theorem startView_frame (a : Area) :
    (startView p a).stc = p.stc ∧ (startView p a).lif = p.lif ∧ (startView p a).atu = p.atu ∧ (startView p a).ldm = p.ldm ∧ (startView p a).anu = p.anu ∧ (startView p a).ssu = p.ssu ∧ (startView p a).hou = p.hou ∧ (startView p a).cnp = p.cnp := by
  simp only [startView]; simp

@[simp] theorem loseForIsolation_frame (a : Area) :
    (loseForIsolation p a).stc = p.stc ∧ (loseForIsolation p a).atu = p.atu ∧ (loseForIsolation p a).ldm = p.ldm := by
  simp only [loseForIsolation]; (repeat' split) <;> simp

@[simp] theorem aruStarting_frame :
    (aruStarting p).stc = p.stc ∧ (aruStarting p).ssu = p.ssu := by
  simp [aruStarting, foldl_stc, foldl_ssu]

@[simp] theorem aruRunning_frame :
    (aruRunning p).stc = p.stc ∧ (aruRunning p).ssu = p.ssu := by
  simp [aruRunning]

@[simp] theorem aruIsolated_frame :
    (aruIsolated p).stc = p.stc ∧ (aruIsolated p).atu = p.atu ∧ (aruIsolated p).ldm = p.ldm := by
  simp [aruIsolated, foldl_stc, foldl_atu, foldl_ldm]

@[simp] theorem installSession_frame (c : Credential) (r : Fin 48) :
    (installSession c r p).stc = p.stc ∧ (installSession c r p).atu = p.atu ∧ (installSession c r p).ldm = p.ldm ∧ (installSession c r p).anu = p.anu ∧ (installSession c r p).aru = p.aru ∧ (installSession c r p).hou = p.hou ∧ (installSession c r p).cnp = p.cnp := by
  simp only [installSession]; simp

@[simp] theorem clearRelinquished_frame :
    (clearRelinquished p).stc = p.stc ∧ (clearRelinquished p).lif = p.lif ∧ (clearRelinquished p).atu = p.atu ∧ (clearRelinquished p).ldm = p.ldm ∧ (clearRelinquished p).anu = p.anu ∧ (clearRelinquished p).ssu = p.ssu ∧ (clearRelinquished p).hou = p.hou ∧ (clearRelinquished p).cnp = p.cnp := by
  simp [clearRelinquished]

@[simp] theorem releaseForRights_frame (a : Area) :
    (releaseForRights p a).stc = p.stc ∧ (releaseForRights p a).atu = p.atu ∧ (releaseForRights p a).ldm = p.ldm := by
  simp only [releaseForRights]; (repeat' split) <;> simp

@[simp] theorem releaseForGrace_frame (a : Area) :
    (releaseForGrace p a).stc = p.stc ∧ (releaseForGrace p a).atu = p.atu ∧ (releaseForGrace p a).ldm = p.ldm := by
  simp only [releaseForGrace]; (repeat' split) <;> simp

@[simp] theorem login_frame (c : Credential) (r : Fin 48) :
    (login c r p).stc = p.stc := by
  simp [login, foldl_stc, ite_stc]

@[simp] theorem closeForSession_frame (r : Fin 4) :
    (closeForSession p r).stc = p.stc ∧ (closeForSession p r).atu = p.atu ∧ (closeForSession p r).ldm = p.ldm := by
  simp only [closeForSession]; (repeat' split) <;> simp

@[simp] theorem endSession_frame (x : Reason) (y : Option StationNo) :
    (endSession x y p).stc = p.stc ∧ (endSession x y p).atu = p.atu ∧ (endSession x y p).ldm = p.ldm := by
  simp only [endSession]; split <;> simp [foldl_stc, foldl_atu, foldl_ldm, ite_stc, ite_atu, ite_ldm]

@[simp] theorem applyLogin_frame (x : StationNo) (c : Credential) :
    (applyLogin x c p).stc = p.stc ∧ (applyLogin x c p).atu = p.atu ∧ (applyLogin x c p).ldm = p.ldm := by
  simp only [applyLogin]; (repeat' split) <;> simp

@[simp] theorem armRelief_frame :
    (armRelief p).stc = p.stc ∧ (armRelief p).lif = p.lif ∧ (armRelief p).atu = p.atu ∧ (armRelief p).ldm = p.ldm ∧ (armRelief p).aru = p.aru ∧ (armRelief p).hou = p.hou := by
  simp only [armRelief]; simp

@[simp] theorem relieve_frame (c : Credential) (r : Fin 48) :
    (relieve c r p).stc = p.stc := by
  cases h : p.ssu.session <;> simp [relieve, h, ite_stc]

@[simp] theorem attemptRelief_frame (c : Credential) :
    (attemptRelief c p).stc = p.stc := by
  simp only [attemptRelief]; (repeat' split) <;> simp

@[simp] theorem presentBadge_frame (c : Credential) :
    (presentBadge c p).stc = p.stc := by
  simp only [presentBadge, refuseBadge]; (repeat' split) <;> simp

@[simp] theorem badgeBurst_frame (bits : List Bool) :
    (badgeBurst bits p).stc = p.stc := by
  simp only [badgeBurst]; (repeat' split) <;> simp

@[simp] theorem reliefWindowRun_frame :
    (reliefWindowRun p).stc = p.stc ∧ (reliefWindowRun p).lif = p.lif ∧ (reliefWindowRun p).atu = p.atu ∧ (reliefWindowRun p).ldm = p.ldm ∧ (reliefWindowRun p).aru = p.aru ∧ (reliefWindowRun p).hou = p.hou := by
  simp only [reliefWindowRun]; (repeat' split) <;> simp

@[simp] theorem expireGrace_frame :
    (expireGrace p).stc = p.stc := by
  simp [expireGrace, foldl_stc]

@[simp] theorem graceRun_frame :
    (graceRun p).stc = p.stc := by
  simp only [graceRun]; (repeat' split) <;> simp

@[simp] theorem createOffer_frame (r : Fin 4) (o : Offer) :
    (createOffer r o p).stc = p.stc ∧ (createOffer r o p).lif = p.lif ∧ (createOffer r o p).atu = p.atu ∧ (createOffer r o p).ldm = p.ldm ∧ (createOffer r o p).ssu = p.ssu ∧ (createOffer r o p).aru = p.aru ∧ (createOffer r o p).cnp = p.cnp := by
  simp only [createOffer]; simp

@[simp] theorem startOffer_frame (a : Area) (b : Byte) :
    (startOffer a b p).stc = p.stc ∧ (startOffer a b p).atu = p.atu ∧ (startOffer a b p).ldm = p.ldm ∧ (startOffer a b p).ssu = p.ssu ∧ (startOffer a b p).aru = p.aru ∧ (startOffer a b p).cnp = p.cnp := by
  simp only [startOffer]; (repeat' split) <;> simp

@[simp] theorem enterOffered_frame (r : Fin 4) (n : Nat) :
    (enterOffered r n p).stc = p.stc ∧ (enterOffered r n p).lif = p.lif ∧ (enterOffered r n p).atu = p.atu ∧ (enterOffered r n p).ldm = p.ldm ∧ (enterOffered r n p).anu = p.anu ∧ (enterOffered r n p).ssu = p.ssu ∧ (enterOffered r n p).aru = p.aru ∧ (enterOffered r n p).cnp = p.cnp := by
  simp only [enterOffered]; simp

@[simp] theorem offerCompleted_frame (r : Fin 4) (n : Nat) :
    (offerCompleted r n p).stc = p.stc ∧ (offerCompleted r n p).atu = p.atu ∧ (offerCompleted r n p).ldm = p.ldm ∧ (offerCompleted r n p).ssu = p.ssu := by
  simp only [offerCompleted]; (repeat' split) <;> simp

@[simp] theorem segmentCompleted_frame (r : Fin 4) (n : Nat) :
    (segmentCompleted r n p).stc = p.stc ∧ (segmentCompleted r n p).atu = p.atu ∧ (segmentCompleted r n p).ldm = p.ldm := by
  simp only [segmentCompleted]; (repeat' split) <;> simp

@[simp] theorem startSync_frame (a : Area) :
    (startSync a p).stc = p.stc ∧ (startSync a p).atu = p.atu ∧ (startSync a p).ldm = p.ldm ∧ (startSync a p).ssu = p.ssu := by
  simp only [startSync]; (repeat' split) <;> simp

@[simp] theorem createReception_frame (r : Fin 4) (x : Reception) :
    (createReception r x p).stc = p.stc ∧ (createReception r x p).lif = p.lif ∧ (createReception r x p).atu = p.atu ∧ (createReception r x p).ldm = p.ldm ∧ (createReception r x p).anu = p.anu ∧ (createReception r x p).ssu = p.ssu ∧ (createReception r x p).aru = p.aru ∧ (createReception r x p).cnp = p.cnp := by
  simp only [createReception]; simp

@[simp] theorem enterReview_frame (r : Fin 4) :
    (enterReview r p).stc = p.stc ∧ (enterReview r p).lif = p.lif ∧ (enterReview r p).ssu = p.ssu ∧ (enterReview r p).aru = p.aru := by
  simp only [enterReview]; split <;> simp [foldl_stc, foldl_lif, foldl_ssu, foldl_aru]

@[simp] theorem applyOffer_frame (x : StationNo) (c : OfferContent) :
    (applyOffer x c p).stc = p.stc := by
  simp only [applyOffer]; (repeat' split) <;> simp

@[simp] theorem discardReception_frame (r : Fin 4) (b : Bool) :
    (discardReception r b p).stc = p.stc := by
  simp only [discardReception]; (repeat' split) <;> simp

@[simp] theorem itemReady_frame (n : Nat) :
    (itemReady n p).stc = p.stc ∧ (itemReady n p).atu = p.atu ∧ (itemReady n p).ldm = p.ldm ∧ (itemReady n p).ssu = p.ssu := by
  simp only [itemReady]; simp

@[simp] theorem applyHandoverDigest_frame (x : StationNo) (d : DigestContent) :
    (applyHandoverDigest x d p).stc = p.stc := by
  simp only [applyHandoverDigest]; (repeat' split) <;> simp

@[simp] theorem applySync_frame (r : Fin 4) (x : Reception) :
    (applySync r x p).stc = p.stc := by
  simp only [applySync]; simp

@[simp] theorem feedSync_frame (r : Fin 4) (d : DigestContent) :
    (feedSync r d p).stc = p.stc := by
  simp only [feedSync]; (repeat' split) <;> simp

@[simp] theorem applySyncDigest_frame (x : StationNo) (d : DigestContent) :
    (applySyncDigest x d p).stc = p.stc := by
  simp only [applySyncDigest]; (repeat' split) <;> simp

@[simp] theorem queueReply_frame (r : Fin 4) (x : ReplyReason) :
    (queueReply r x p).stc = p.stc ∧ (queueReply r x p).atu = p.atu ∧ (queueReply r x p).ldm = p.ldm ∧ (queueReply r x p).ssu = p.ssu := by
  simp only [queueReply]; (repeat' split) <;> simp

@[simp] theorem tryAccept_frame (x : Option (Fin 4)) :
    (tryAccept x p).2.stc = p.stc ∧ (tryAccept x p).2.atu = p.atu ∧ (tryAccept x p).2.ldm = p.ldm ∧ (tryAccept x p).2.ssu = p.ssu := by
  simp only [tryAccept]; (repeat' split) <;> simp

@[simp] theorem tryDecline_frame (x : Option (Fin 4)) :
    (tryDecline x p).2.stc = p.stc ∧ (tryDecline x p).2.atu = p.atu ∧ (tryDecline x p).2.ldm = p.ldm ∧ (tryDecline x p).2.ssu = p.ssu := by
  simp only [tryDecline]; (repeat' split) <;> simp

theorem refusedStarting_cases (r : ResultCode × Part) :
    (starting p = true ∧ refusedStarting p r = (.notRunning, p)) ∨ (starting p = false ∧ refusedStarting p r = r) := by
  unfold refusedStarting; cases starting p <;> simp

@[simp] theorem replyCompleted_frame (r : Fin 4) (n : Nat) :
    (replyCompleted r n p).stc = p.stc := by
  simp only [replyCompleted]; (repeat' split) <;> simp

@[simp] theorem applyReply_frame (x : StationNo) (a : Area) (h : Byte) (b : Bool) (y : ReplyReason) :
    (applyReply x a h b y p).stc = p.stc ∧ (applyReply x a h b y p).atu = p.atu ∧ (applyReply x a h b y p).ldm = p.ldm := by
  simp only [applyReply, protocolError]; (repeat' split) <;> simp

@[simp] theorem releaseCompleted_frame (r : Fin 4) (n : Nat) :
    (releaseCompleted r n p).stc = p.stc := by
  simp only [releaseCompleted]; (repeat' split) <;> simp

@[simp] theorem applyRelease_frame (x : StationNo) (a : Area) (h : Byte) :
    (applyRelease x a h p).stc = p.stc := by
  simp only [applyRelease]; (repeat' split) <;> simp

@[simp] theorem applyWithdraw_frame (x : StationNo) (a : Area) (h : Byte) :
    (applyWithdraw x a h p).stc = p.stc := by
  simp only [applyWithdraw]; (repeat' split) <;> simp

@[simp] theorem answerCompleted_frame (n : Nat) :
    (answerCompleted n p).stc = p.stc ∧ (answerCompleted n p).lif = p.lif ∧ (answerCompleted n p).atu = p.atu ∧ (answerCompleted n p).ldm = p.ldm ∧ (answerCompleted n p).anu = p.anu ∧ (answerCompleted n p).ssu = p.ssu ∧ (answerCompleted n p).aru = p.aru ∧ (answerCompleted n p).cnp = p.cnp := by
  simp only [answerCompleted]; simp

@[simp] theorem answerGapRun_frame (i : Fin 4) :
    (answerGapRun i p).stc = p.stc ∧ (answerGapRun i p).atu = p.atu ∧ (answerGapRun i p).ldm = p.ldm ∧ (answerGapRun i p).ssu = p.ssu := by
  simp only [answerGapRun]; (repeat' split) <;> simp

@[simp] theorem gapRun_frame (r : Fin 4) :
    (gapRun r p).stc = p.stc := by
  simp only [gapRun]; (repeat' split) <;> simp

@[simp] theorem reviewRun_frame (r : Fin 4) :
    (reviewRun r p).stc = p.stc := by
  simp only [reviewRun]; (repeat' split) <;> simp

@[simp] theorem replyRun_frame (r : Fin 4) :
    (replyRun r p).stc = p.stc ∧ (replyRun r p).atu = p.atu ∧ (replyRun r p).ldm = p.ldm := by
  simp only [replyRun]; (repeat' split) <;> simp

@[simp] theorem releaseRun_frame (r : Fin 4) :
    (releaseRun r p).stc = p.stc := by
  simp only [releaseRun]; (repeat' split) <;> simp

end Sys2Proof.Machine
end

