-- ==== Sys2Proof/Laws/Table.lean ====
section
/-! SUPPORT. The table's operations, each said once: what a tag's entry is after an entry is put or removed, that the order by tag is kept, what producing an event does to the queue, and when a lamp is on. -/

namespace Sys2Proof.Machine

/-! ## Putting an entry -/

theorem insertEntry_find (e : Entry) (l : List Entry) (t : Tag) :
    (insertEntry e l).find? (fun x => decide (x.tag = t)) =
      if t = e.tag then some e else l.find? fun x => decide (x.tag = t) := by
  induction l with
  | nil => by_cases h : t = e.tag <;> simp [insertEntry, h, eq_comm]
  | cons x xs ih =>
    unfold insertEntry
    split
    · by_cases h : t = e.tag
      · simp [h]
      · simp [h, List.find?_cons, Ne.symm h]
    · split
      · next h =>
        by_cases g : t = e.tag
        · simp [g]
        · simp [g, Ne.symm g, h ▸ Ne.symm g]
      · next h =>
        by_cases g : t = e.tag
        · rw [if_pos g] at ih ⊢
          rw [List.find?_cons, ih]
          simp [g, Ne.symm h]
        · rw [if_neg g] at ih ⊢
          rw [List.find?_cons, List.find?_cons, ih]

theorem insertEntry_mem {e x : Entry} {l : List Entry} (h : x ∈ insertEntry e l) : x = e ∨ x ∈ l := by
  induction l with
  | nil => simpa [insertEntry] using h
  | cons y ys ih =>
    unfold insertEntry at h
    split at h
    · simpa using h
    · split at h
      · rcases List.mem_cons.1 h with h | h
        · exact .inl h
        · exact .inr (List.mem_cons_of_mem _ h)
      · rcases List.mem_cons.1 h with h | h
        · exact .inr (h ▸ List.mem_cons_self ..)
        · exact (ih h).imp_right (List.mem_cons_of_mem _)

theorem insertEntry_length (e : Entry) (l : List Entry) : (insertEntry e l).length ≤ l.length + 1 := by
  induction l with
  | nil => simp [insertEntry]
  | cons x xs ih => unfold insertEntry; split <;> [simp; (split <;> simp; omega)]

theorem insertEntry_tagsRise {e : Entry} {l : List Entry} (h : TagsRise l) : TagsRise (insertEntry e l) := by
  induction l with
  | nil => exact ⟨fun _ h => absurd h List.not_mem_nil, trivial⟩
  | cons x xs ih =>
    obtain ⟨hx, hs⟩ := h
    unfold insertEntry
    split
    · next a =>
      refine ⟨fun y hy => ?_, hx, hs⟩
      rcases List.mem_cons.1 hy with rfl | hy
      · exact a
      · exact Nat.lt_trans a (hx y hy)
    · next a =>
      split
      · next b => exact ⟨fun y hy => b ▸ hx y hy, hs⟩
      · next b =>
        refine ⟨fun y hy => ?_, ih hs⟩
        rcases insertEntry_mem hy with rfl | hy
        · have : y.tag.toNat ≠ x.tag.toNat := fun c => b (BitVec.eq_of_toNat_eq c)
          omega
        · exact hx y hy

/-- An entry put for a tag that has one replaces it: the length stays. -/
theorem insertEntry_length_of_mem {e y : Entry} {l : List Entry} (h : TagsRise l) (m : y ∈ l) (t : y.tag = e.tag) :
    (insertEntry e l).length = l.length := by
  induction l with
  | nil => exact absurd m List.not_mem_nil
  | cons x xs ih =>
    obtain ⟨hx, hs⟩ := h
    unfold insertEntry
    rcases List.mem_cons.1 m with rfl | m
    · simp [t]
    · have := hx y m
      rw [t] at this
      split
      · omega
      · split
        · simp
        · simp [ih hs m]

@[simp] theorem findEntry_putEntry (e : Entry) (p : Part) (t : Tag) :
    findEntry (putEntry e p) t = if t = e.tag then some e else findEntry p t := insertEntry_find e p.atu.table t

/-! ## Removing entries -/

theorem filter_tagsRise {f : Entry → Bool} {l : List Entry} (h : TagsRise l) : TagsRise (l.filter f) := by
  induction l with
  | nil => exact h
  | cons x xs ih =>
    obtain ⟨hx, hs⟩ := h
    rw [List.filter_cons]
    split
    · exact ⟨fun y hy => hx y (List.mem_of_mem_filter hy), ih hs⟩
    · exact ih hs

@[simp] theorem keepEntries_table (f : Entry → Bool) (p : Part) :
    (keepEntries f p).atu.table = p.atu.table.filter f := rfl

@[simp] theorem findEntry_removeEntry (p : Part) (t y : Tag) :
    findEntry (removeEntry t p) y = if y = t then none else findEntry p y := by
  unfold findEntry removeEntry
  rw [keepEntries_table, List.find?_filter]
  by_cases h : y = t
  · subst h
    rw [if_pos rfl, List.find?_eq_none]
    simp
  · rw [if_neg h]
    congr 1
    funext e
    by_cases g : e.tag = y <;> simp [g, h]

theorem findEntry_tag {p : Part} {t : Tag} {e : Entry} (h : findEntry p t = some e) : e.tag = t := by
  simpa using List.find?_some h

theorem findEntry_mem {p : Part} {t : Tag} {e : Entry} (h : findEntry p t = some e) : e ∈ p.atu.table :=
  List.mem_of_find?_eq_some h

/-! ## The presentation order -/

theorem presentInto_length (e : Entry) (l : List Entry) : (presentInto e l).length = l.length + 1 := by
  induction l with
  | nil => rfl
  | cons x xs ih => unfold presentInto; split <;> simp [ih]

@[simp] theorem presentation_length (l : List Entry) : (presentation l).length = l.length := by
  induction l with
  | nil => rfl
  | cons x xs ih =>
    rw [presentation, List.foldr_cons, presentInto_length]
    simpa [presentation] using ih

@[simp] theorem latchSummaries_length (p : Part) (a : Area) : (latchSummaries p a).length = areaCount p a := by
  simp [latchSummaries, areaCount]

/-! ## Producing an event (R167) -/

@[simp] theorem produce_cnp (e : Event) (p : Part) : (produce e p).cnp = p.cnp.storing (now p) e := rfl

theorem storing_prefix (c : Cnp) (n : Seconds) (e : Event) : c.events <+: (c.storing n e).events := by
  unfold Cnp.storing
  split
  · exact List.prefix_append ..
  · exact List.prefix_refl _

theorem storing_length {c : Cnp} (h : c.events.length ≤ 64) (n : Seconds) (e : Event) :
    (c.storing n e).events.length ≤ 64 := by
  unfold Cnp.storing
  split
  · simp; omega
  · exact h

@[simp] theorem storing_stats (c : Cnp) (n : Seconds) (e : Event) : (c.storing n e).stats = c.stats := by
  unfold Cnp.storing
  split <;> rfl

/-! ## Tables of fixed size -/

@[simp] theorem setAt_setAt {α : Type} {n : Nat} (v : Vector α n) (i : Fin n) (x y : α) :
    setAt (setAt v i x) i y = setAt v i y := by
  unfold setAt
  congr 1
  funext j
  split
  · rfl
  · next h => simp [h]

/-! ## Lamp levels -/

/-- A lamp is on at the positions of the lamp phase counter that R52 gives its pattern. -/
theorem lampLevel_iff (p : Part) (x : LampPattern) :
    lampLevel p x = true ↔
      match x with
      | .flicker => p.anu.phase / 10 % 2 = 0
      | .fast => p.anu.phase / 50 % 2 = 0
      | .slow => p.anu.phase < 200
      | .steady => True
      | .off => False := by
  cases x <;> simp [lampLevel, lampOn]

/-- After a sample tick's counting a lamp is as its pattern has it at the next position (R52). -/
theorem lampLevel_advanceCounters (p : Part) (x : LampPattern) :
    lampLevel (advanceCounters p) x = lampOn x ((p.anu.phase + 1) % 400) := rfl

end Sys2Proof.Machine
end

