-- ==== Sys2Proof/WellFormed.lean ====
section
/-! DEFINITION. Which commands are well-formed: operands that the events they stand for can have. -/

namespace Sys2Proof

/-- A telegram's bytes on the line: at least one, at most a header of 4, a payload of 80 and a check of 2 (R147). -/
def lineFits (bytes : List Byte) : Bool := decide (1 ≤ bytes.length) && decide (bytes.length ≤ 86)

/-- A frame of the Console Port: a parameter length counts what follows it, so none follows an absent one (R161). -/
def frameFits (f : Frame) : Bool := f.declared.isSome || f.params.isEmpty

/-- A command whose operands its event can have. -/
def Instr.wellFormed : Instr → Bool
  | .imageReadComplete _ bytes => decide (bytes.length ≤ 738)
  | .voidTransaction first => decide (first ≠ 0x57) && decide (first ≠ 0x52)
  | .badRequest code f => (decide (code.toNat < 1) || decide (19 < code.toNat)) && frameFits f
  | .telegramReceived bytes => lineFits bytes
  | .stationUnheard x => decide (1 ≤ x.toNat) && decide (x.toNat ≤ 62)
  | .badgePresentation bits => decide (1 ≤ bits.length)
  | .status f | .readEntry f | .readList f | .readArea f | .readReception f | .readEvents f | .readStats f | .ack f
  | .shelve f | .unshelve f | .silence f | .offer f | .accept f | .decline f | .relief f | .logout f | .declareTrip f
  | .restore f | .restart f => frameFits f
  | .powerOnReset _ | .consoleReset _ | .settleEnd | .isolationEnd | .readTransaction _ | .keySilencePress
  | .keyAcceptPress | .keyDeclinePress | .keyReliefPress | .alarmInputChange _ | .tripInputActivation _ | .takeCondition
  | .takeAcknowledge | .takeShelve | .takeUnshelve | .shelfExpiry _ | .meteringTick | .takeBeacon | .holderAged _
  | .claimDelayRun _ | .beaconScheduleDue | .takeSyncRequest | .takeTrip | .takeRestore | .takeLogin | .takeOffer
  | .takeHandoverDigest | .takeSyncDigest | .takeReply | .takeRelease | .takeWithdraw | .sendAttempt | .arbitrationLost
  | .lineCompletion | .transmitError | .busyFault | .conditionCompletion | .acknowledgeCompletion | .shelveCompletion
  | .tripCompletion | .restoreCompletion | .loginCompletion | .beaconCompletion | .syncRequestCompletion
  | .offerCompletion | .digestSegmentCompletion | .syncSegmentCompletion | .replyCompletion | .releaseCompletion
  | .answerItemCompletion | .answerGapExpiry _ | .gapTimeout _ | .reviewTimeout _ | .releaseTimeout _ | .replyTimeout _
  | .graceExpiry | .reliefWindowExpiry | .keyReleaseEdge _ | .keyFirstSettling _ _ | .inputFirstSettling _ _
  | .tripInputDeactivation _ | .sampleTick _ _ => true

end Sys2Proof
end

