-- ==== Sys2Proof/Tests/Slice0.lean ====
section
/-! SUPPORT. The model's own tests: the well-formedness checks, figures the manual works out, and for each statement that has hypotheses a state and operands that meet them. -/

namespace Sys2Proof.Tests

-- One test at a time: each waits for the kernel's check of all before it, and waiting tasks each hold a thread.
set_option Elab.async false

open Sys2Proof.Machine

/-! ## Well-formedness refuses (WellFormed.lean) -/

theorem test_refuses_long_image : (Instr.imageReadComplete true (List.replicate 739 0)).wellFormed = false := by
  decide +kernel
theorem test_refuses_read_and_write_as_void :
    (Instr.voidTransaction 0x57).wellFormed = false ∧ (Instr.voidTransaction 0x52).wellFormed = false ∧
      (Instr.voidTransaction 0x00).wellFormed = true := by decide
theorem test_refuses_named_code_as_bad_request :
    (Instr.badRequest 1 (Frame.of [])).wellFormed = false ∧ (Instr.badRequest 19 (Frame.of [])).wellFormed = false ∧
      (Instr.badRequest 0 (Frame.of [])).wellFormed = true ∧ (Instr.badRequest 20 (Frame.of [])).wellFormed = true := by
  decide
theorem test_refuses_bad_request_without_length :
    (Instr.badRequest 20 { declared := none, params := [0] }).wellFormed = false := by decide
theorem test_refuses_empty_and_long_telegram :
    (Instr.telegramReceived []).wellFormed = false ∧
      (Instr.telegramReceived (List.replicate 87 0)).wellFormed = false ∧
      (Instr.telegramReceived (List.replicate 86 0)).wellFormed = true := by decide +kernel
theorem test_refuses_station_out_of_range :
    (Instr.stationUnheard 0).wellFormed = false ∧ (Instr.stationUnheard 63).wellFormed = false ∧
      (Instr.stationUnheard 62).wellFormed = true := by decide
theorem test_refuses_empty_burst : (Instr.badgePresentation []).wellFormed = false := by decide
theorem test_refuses_parameters_without_length :
    (Instr.ack { declared := none, params := [0] }).wellFormed = false ∧
      (Instr.ack { declared := none, params := [] }).wellFormed = true := by decide

/-! ## Figures the manual gives -/

/-- R149: the check over the nine characters 1 to 9 is 29B1h. -/
theorem test_check_of_nine_digits :
    crc16 [0x31, 0x32, 0x33, 0x34, 0x35, 0x36, 0x37, 0x38, 0x39] = 0x29B1#16 := by decide +kernel

/-! ## Small states -/

/-- Tags 0..15 belong to area 1; area 1 is home, 2 standby, 3 watch; operator record 0 (credential 7) is a SUPERVISOR with
every right, record 1 (credential 8) has none; input 0 is an ALARM input, input 1 a TRIP input. -/
def cfg : Settings :=
  { home := 0x0002, standby := 0x0004, watch := 0x0008,
    windows := setAt (tabulate fun _ => {}) 0 { area := 1, start := 0, size := 1, enabled := true },
    operators := setAt (setAt (tabulate fun _ => {}) 0
      { credential := 7, role := .supervisor, cls := 3, ackAreas := 0xFFFF, shelveAreas := 0xFFFF, holdAreas := 0xFFFF,
        enabled := true }) 1 { credential := 8, enabled := true },
    inputs := setAt (setAt (tabulate fun _ => {}) 0 { use := .alarm, tag := 3, priority := .p2 }) 1
      { use := .trip, tripArea := 1 } }

/-- Station 5 in a station state, at 100 s. -/
def part (x : StationState) : Part :=
  { stc := { strapPins := 5, number := 5, cause := .powerOn, station := some x, settings := cfg, seconds := 100 } }

/-- The machine with no command waiting. -/
def ready (p : Part) : State := { part := p, pending := [] }

/-- The part after one command. -/
def after (c : Instr) (p : Part) : Part :=
  match Machine.exec c (ready p) with
  | .next u => u.part
  | _ => p

/-- With operator `r`'s session ACTIVE, its LOGIN complete. -/
def session (c : Credential) (r : Fin 48) (p : Part) : Part :=
  { p with ssu := { p.ssu with
      session := some { credential := c, record := r, start := 0, mark := .none, number := 0 }, nextNumber := 1 } }

/-- With area `a` held. -/
def hold (a : Area) : Part → Part := modView a fun v => { v with role := .hold }

/-- With area `a` in EMERGENCY. -/
def trip (a : Area) : Part → Part := modView a fun v => { v with emergency := true }

/-- With one item in the ring. -/
def ring (x : RingItem) : Part → Part := modLif fun l => { l with ring := [x] }

/-- A telegram from station 9, broadcast or addressed to station 5. -/
def broadcast (x : Payload) : Telegram := { source := 9, destination := 0, payload := x }
/-- A telegram from station 9 to station 5. -/
def direct (x : Payload) : Telegram := { source := 9, destination := 5, payload := x }

/-- An urgent ALERTING entry of area 1, raised at 0 s, last changed at 0 s. -/
def entry (t : Tag) : Entry :=
  { tag := t, area := 1, priority := .p2, occurrence := 5, active := true, acknowledged := false, ackCredential := none,
    quiet := false, shelf := none, firstRaised := 0, lastChange := 0 }

/-- A shelf of `n` seconds. -/
def shelf (n : Nat) : Shelf := { seconds := n, credential := 7, station := 9 }

/-- A slot of this station's telegram. -/
def slot (o : Owner) (d : StationNo) (x : Payload) (st : SlotState) : Slot :=
  { telegram := { source := 5, destination := d, payload := x }, owner := o, order := 0, state := st, final := false }

/-- With slot 0 COMPLETE and its mark next in the ring. -/
def completed (o : Owner) (d : StationNo) (x : Payload) (p : Part) : Part :=
  ring (.mark 0) (setSlot 0 (some (slot o d x .complete)) p)

/-- An offer record of area 1 for station 9. -/
def offer (k : TransferKind) (st : OfferState) (n segments index : Nat) : Offer :=
  { kind := k, area := 1, target := 9, number := (match k with | .handover => 4 | .sync => 0), entryCount := n,
    segmentCount := segments, nextIndex := index, state := st, load := 100, signature := 0, credential := 7,
    replyTimer := 1, mark := .queued, summaries := [], serial := 0 }

/-- A reception record of area 1 from station 9. -/
def reception (k : TransferKind) (st : ReceptionState) : Reception :=
  { kind := k, area := 1, releaser := 9, number := (match k with | .handover => 4 | .sync => 0), entryCount := 0,
    segmentCount := 1, load := 0, signature := 0, credential := 7, received := 0, nextIndex := 1, state := st, gap := 1,
    timer := 1, mark := .none, answer := .none, summaries := [], serial := 0 }

/-- With offer record 0. -/
def offering (o : Offer) (p : Part) : Part := modHou (fun h => { h with nextSerial := 1 }) (setOffer 0 (some o) p)
/-- With reception record 0. -/
def receiving (x : Reception) (p : Part) : Part :=
  modHou (fun h => { h with nextSerial := 1 }) (setReception 0 (some x) p)

/-- A property of the thing an Option holds, from a check of it. -/
theorem each {α : Type} {P : α → Prop} [DecidablePred P] {o : Option α} (h : o.all (fun y => decide (P y)) = true) :
    ∀ y, o = some y → P y := by
  intro y e
  subst e
  simpa using h

/-- A property of all that a table of Options holds, from a check of it. -/
theorem eachAt {α : Type} {n : Nat} {P : Fin n → α → Prop} [∀ j, DecidablePred (P j)] {v : Vector (Option α) n}
    (h : ∀ j, (v.get j).all (fun y => decide (P j y)) = true) : ∀ j y, v.get j = some y → P j y := by
  intro j y e
  have := h j
  rw [e] at this
  simpa using this

/-! ## Witnesses: the machine, chapter 11 -/

theorem test_witness_IdleStepIsOneSecondTick :
    let p := modView 1 (fun v => { v with holder := 9, age := 3, resync := 7 }) (part .starting)
    listening p = true ∧ (view p 1).holder ≠ 0 ∧ (view p 1).holderPeriod = 0 ∧ holds (tickStep (ready p)).part 1 = holds p 1 ∧
      listening (part .running) = true ∧ unconfigured (part .unconfigured) = true ∧
      State.reset.part.stc.station = none := by decide +kernel

theorem test_witness_ResetsRestoreEveryBlock :
    (1 : StationNo) ≠ 0 ∧ (1 : StationNo) ≠ 63 ∧ portOpen (part .unconfigured) = true ∧
      (part .unconfigured).stc.strapPins ≠ 0 ∧ (part .unconfigured).stc.strapPins ≠ 63 ∧
      (let q := modStc (fun c => { c with strapPins := 63 }) (part .running)
       portOpen q = true ∧ q.stc.strapPins = 63) := by decide +kernel

/-- A marked image of zeros but for marker and version, its check left 0. -/
def blankImage : List Byte := [0x43, 0x37, 1] ++ List.replicate 735 0

/-- A marked version 1 image of zeros, but for two bytes that bring the running check to 0, with these check bytes. -/
def plainImage (x y : Byte) : List Byte := ([0x43, 0x37, 1, 0x04, 0x42] ++ List.replicate 731 0) ++ [x, y]

theorem plainImage_body (x y : Byte) :
    (plainImage x y).take 736 = [0x43, 0x37, 1, 0x04, 0x42] ++ List.replicate 731 0 := by
  unfold plainImage
  have h : ([0x43, 0x37, 1, 0x04, 0x42] ++ List.replicate 731 (0 : Byte)).length = 736 := by
    rw [List.length_append, List.length_replicate]; rfl
  rw [List.take_append_of_le_length (Nat.le_of_eq h.symm), List.take_of_length_le (Nat.le_of_eq h)]

theorem check_stays_zero (n : Nat) : (List.replicate n (0 : Byte)).foldl crcByte 0#16 = 0#16 := by
  induction n with
  | zero => rfl
  | succ n ih => rw [List.replicate_succ, List.foldl_cons, show crcByte 0#16 0 = 0#16 by decide +kernel, ih]

theorem test_check_of_plain_image : crc16 ([0x43, 0x37, 1, 0x04, 0x42] ++ List.replicate 731 0) = 0#16 := by
  rw [crc16, List.foldl_append, show [0x43, 0x37, 1, 0x04, 0x42].foldl crcByte 0xFFFF#16 = 0#16 by decide +kernel]
  exact check_stays_zero 731

theorem test_witness_ImageIsJudgedAtItsEnd :
    State.reset.part.stc.station = none ∧ (blankImage.length = 738 ∧ imageByte (List.replicate 738 0) 0 ≠ 0x43) ∧
      imageByte [0x43, 0x37, 2] 2 ≠ 1 ∧
      (imageByte (plainImage 0 1) 0 = 0x43 ∧ imageByte (plainImage 0 1) 1 = 0x37 ∧ imageByte (plainImage 0 1) 2 = 1 ∧
        crc16 ((plainImage 0 1).take 736) ≠ imageWord (plainImage 0 1) 736) ∧
      (738 ≤ (plainImage 0 0).length ∧ imageByte (plainImage 0 0) 0 = 0x43 ∧
        imageByte (plainImage 0 0) 1 = 0x37 ∧ imageByte (plainImage 0 0) 2 = 1 ∧
        crc16 ((plainImage 0 0).take 736) = imageWord (plainImage 0 0) 736) := by
  rw [plainImage_body, plainImage_body, test_check_of_plain_image]
  decide +kernel

/-- An image with windows 0 and 1, operator record 0, inputs 0 and 1 and the three area sets in use. -/
def filledImage : List Byte :=
  (List.range 738).map fun i =>
    ([(27, 2), (29, 4), (31, 8), (48, 1), (51, 1), (52, 2), (54, 16), (55, 1), (178, 7), (181, 255), (182, 255),
      (183, 255), (184, 255), (185, 255), (186, 255), (704, 1), (706, 3), (708, 2), (711, 1)].lookup i).getD (0 : Byte)

theorem test_witness_ValidatedConfigurationIsInRange :
    (AreaSet.has (validatedImage filledImage).standby 2 = true ∧ AreaSet.has (validatedImage filledImage).watch 3 = true ∧
      ((validatedImage filledImage).inputs.get 0).use = .alarm ∧
      ((validatedImage filledImage).inputs.get 1).use = .trip) ∧
    (((imageWindows filledImage).get 0).enabled = true ∧ ((imageWindows filledImage).get 1).enabled = true ∧
      windowCovers ((imageWindows filledImage).get 1) 31 = true) ∧
    ((imageOperators filledImage).get 0).enabled = true ∧
      AreaSet.has ((imageOperators filledImage).get 0).shelveAreas 15 = true ∧
      AreaSet.has ((imageOperators filledImage).get 0).holdAreas 15 = true := by decide +kernel

/-- In STARTING with the last second of the settle come. -/
def settling : Part := modStc (fun c => { c with settle := 1 }) (part .starting)
/-- In ISOLATED with the last second come. -/
def isolating : Part := modStc (fun c => { c with isolation := 1 }) (part .isolated)

theorem test_witness_SettleAndIsolationEnd :
    (starting settling = true ∧ settling.stc.settle ≤ 1) ∧ isolated isolating = true ∧ isolating.stc.isolation ≤ 1 := by
  decide +kernel

/-! ## Witnesses: chapter 10 and the requests -/

/-- With an answer in the response buffer. -/
def answered (p : Part) : Part := modCnp (fun c => { c with response := some { result := .done, body := [1, 2] } }) p
/-- With a request outstanding. -/
def asked (p : Part) : Part := modCnp (fun c => { c with outstanding := some 1 }) p

theorem test_witness_RequestsAreJudgedBeforeService :
    (requestOf (.silence (Frame.of [])) = some (11, Frame.of []) ∧ State.reset.part.stc.station = none ∧
      (part .running).stc.station ≠ none ∧ (answered (part .running)).cnp.response.isSome = true ∧
      (asked (part .running)).cnp.outstanding.isSome = true ∧ portOpen (part .running) = true) ∧
    (requestOf (.ack { declared := some 2, params := [1] }) = some (8, { declared := some 2, params := [1] }) ∧
      [(1 : Byte)].length < (2 : Byte).toNat) ∧
    (requestOf (.silence { declared := some 0, params := [1] }) = some (11, { declared := some 0, params := [1] }) ∧
      (0 : Byte).toNat ≤ [(1 : Byte)].length) ∧
    (requestOf (.ack { declared := some 2, params := [16, 0] }) = some (8, { declared := some 2, params := [16, 0] }) ∧
      formPasses 8 [16, 0] = false) ∧
    ((0 : Byte) = 0 ∧ 19 < (20 : Byte).toNat ∧ (0 : Byte).toNat ≤ ([] : List Byte).length) ∧
    (requestOf (.ack (Frame.of [15, 255])) = some (8, Frame.of [15, 255]) ∧ formPasses 8 [15, 255] = true ∧
      servedUnconfigured 8 = false ∧ unconfigured (part .unconfigured) = true ∧ portOpen (part .unconfigured) = true) := by
  decide +kernel

theorem test_witness_ReadTransactionDrivesAnswer :
    ((answered (part .running)).cnp.response = some { result := .done, body := [1, 2] } ∧
      (answered (part .running)).stc.station ≠ none) ∧ State.reset.part.stc.station = none ∧
    ((part .running).cnp.response = none ∧ (part .running).cnp.outstanding = none) ∧
    ((asked (part .running)).cnp.response = none ∧ (asked (part .running)).cnp.outstanding = some 1) := by decide +kernel

theorem test_witness_StatusAndStatsAreAlwaysServed :
    (portOpen (part .unconfigured) = true ∧ (part .unconfigured).stc.station = some .unconfigured) ∧
      portOpen (part .isolated) = true ∧ (part .isolated).stc.station = some .isolated := by decide +kernel

/-- An entry table of two, and an event whose kind carries its reason. -/
theorem test_witness_ReportsAnswerFromTables :
    TagsRise (putEntry (entry 4) (putEntry (entry 3) (part .running))).atu.table ∧
      reasonFits { kind := .review, reason := some .differs } := by
  refine ⟨by simp [putEntry, modAtu, part, insertEntry, entry, TagsRise], fun r h => ?_⟩
  obtain rfl := Option.some.inj h
  exact .inr (.inr (by decide))

/-- Section 12.2, by hand: the entry record of tag 3 of area 1, priority 2, ALERTING, occurrence 5, both times 0. -/
theorem test_entry_record_by_hand :
    laid (entryLayout (entry 3)) = [0x50, 0x03, 0x01, 0x00, 0x05] ++ List.replicate 17 0 ∧
      entryBytes (entry 3) = [0x50, 0x03, 0x01, 0x00, 0x05] ++ List.replicate 17 0 := by decide +kernel

theorem test_witness_served_reports_and_requests :
    (listening (part .running) = true ∧ portOpen (part .running) = true) ∧
      (listening (part .isolated) = true ∧ portOpen (part .isolated) = true) ∧ listening (part .starting) = true := by
  decide +kernel

theorem test_witness_admitted_requests :
    let p := putEntry (entry 3) (hold 1 (session 7 0 (part .running)))
    (running p = true ∧ sessionActive p = true ∧ findEntry p 3 = some (entry 3) ∧ acting p 1 = true ∧ ackRight p 1 = true ∧
      shelveRight p 1 = true ∧ occupied p < 8 ∧ supervisor p = true ∧ emergency p 1 = false) := by decide +kernel

/-- In RUNNING, the SILENCE, ACCEPT, DECLINE and RELIEF keys UP. -/
def keysUp (p : Part) : Part := modAnu (fun n => { n with keys := tabulate fun _ => { state := .up } }) p

theorem test_witness_SilenceClearsDemands :
    listening (keysUp (part .running)) = true ∧ portOpen (keysUp (part .running)) = true ∧
      (key (keysUp (part .running)) 0).state = .up := by decide +kernel

/-- The STATION lamp, SLOW in STARTING, goes off at position 200 and on again at 0; FAST is off at 50 and on at 100. -/
theorem test_lamp_levels_follow_phase :
    let at_ (n : Nat) : Part := modAnu (fun u => { u with phase := n }) (part .starting)
    let tick (n : Nat) : Part := advanceCounters (at_ n)
    (stationLampOutput (at_ 199) = true ∧ stationLampOutput (tick 199) = false ∧ stationLampOutput (tick 399) = true) ∧
      lampLevel (tick 49) .fast = false ∧ lampLevel (tick 99) .fast = true ∧ sessionLampOutput (at_ 0) = false ∧
      handoverLampOutput (at_ 0) = false ∧ areaLampOutput (at_ 0) 0 = false := by decide +kernel

theorem test_witness_OfferRequestIsJudgedInOrder :
    let p := modAru (fun r => { r with stations := [{ station := 9, period := 0, age := 0, credential := 8 }] })
      (hold 1 (session 7 0 (part .running)))
    listening p = true ∧ portOpen p = true ∧ offerRefusal p 1 9 = none := by decide +kernel

/-- With every slot occupied. -/
def full (p : Part) : Part :=
  modLif (fun l => { l with slots := tabulate fun _ => some (slot .request 0 (.shelve 3 0 7) .waiting) }) p

/-- A handover in REVIEW for area 1, with the session that may hold it. -/
def reviewing : Part := keysUp (receiving (reception .handover .review) (session 7 0 (part .running)))

theorem test_witness_AcceptAndDeclineRequestsAreJudged :
    (running (part .running) = true ∧ portOpen (part .running) = true ∧ reviewFor (part .running) 1 = none) ∧
      running reviewing = true ∧ portOpen reviewing = true ∧ reviewFor reviewing 1 = some 0 ∧
      reviewing.hou.receptions.get 0 = some (reception .handover .review) ∧ occupied reviewing < 12 ∧
      mayHold reviewing 1 = true ∧ reviewFor (full reviewing) 1 = some 0 ∧ occupied (full reviewing) = 12 ∧
      mayHold (full reviewing) 1 = true := by decide +kernel

theorem test_witness_HandoverKeysActOnOldestReview :
    (running (keysUp (part .running)) = true ∧
      (∀ r x, (keysUp (part .running)).hou.receptions.get r = some x → ¬(x.kind = .handover ∧ x.state = .review)) ∧
      (key (keysUp (part .running)) 1).state = .up ∧ (key (keysUp (part .running)) 2).state = .up) ∧
    (running reviewing = true ∧ reviewing.hou.receptions.get 0 = some (reception .handover .review) ∧
      (∀ q y, q ≠ 0 → reviewing.hou.receptions.get q = some y → y.kind = .handover → y.state = .review → 0 < y.serial) ∧
      occupied reviewing < 12 ∧ (key reviewing 1).state = .up ∧ sessionActive reviewing = true ∧
      mayHold reviewing 1 = true ∧ emergency reviewing 1 = false ∧ urgentAlerting reviewing 1 = false ∧
      stationCeilingPasses reviewing 0 = true ∧ (key reviewing 2).state = .up ∧ (key (full reviewing) 1).state = .up ∧
      occupied (full reviewing) = 12) ∧ sessionActive (session 8 1 reviewing) = true ∧
    mayHold (session 8 1 reviewing) 1 = false ∧
    ({ reception .handover .review with mark := .queued } : Reception).mark ≠ .none := by
  refine ⟨⟨by decide +kernel, eachAt (by decide +kernel), by decide +kernel, by decide +kernel⟩, ⟨by decide +kernel,
    by decide +kernel, fun q y n h => ?_, by decide +kernel⟩, by decide +kernel⟩
  exact eachAt (P := fun (q : Fin 4) (y : Reception) => q ≠ 0 → y.kind = .handover → y.state = .review → 0 < y.serial)
    (v := reviewing.hou.receptions) (by decide +kernel) q y h n

theorem test_witness_ReliefIsJudgedInOrder :
    let p := keysUp (hold 1 (session 7 0 (part .running)))
    listening p = true ∧ reliefRefusal p = none ∧ portOpen p = true ∧ (key p 3).state = .up ∧
      reliefRefusal (keysUp (part .starting)) = some .notRunning := by decide +kernel

theorem test_witness_SessionEndsByLogoutOrDisplacement :
    let p := ring (.telegram (broadcast (.login 7))) (hold 1 (session 7 0 (part .running)))
    (listening p = true ∧ portOpen p = true ∧ p.ssu.session ≠ none ∧ (part .running).ssu.session = none ∧
      holdsAny p = true) ∧
    (listening p = true ∧ p.lif.ring.head? = some (.telegram (broadcast (.login 7))) ∧
      (∀ x, p.ssu.session = some x → x.credential = 7) ∧ (7 : Credential) ≠ 0) ∧
    (∀ x, (session 8 1 (part .running)).ssu.session = some x → x.credential ≠ 7) := by
  refine ⟨by decide +kernel, ⟨by decide +kernel, by decide +kernel, each (by decide +kernel), by decide⟩,
    each (by decide +kernel)⟩

/-! ## Witnesses: keys, inputs, badges -/

theorem test_witness_KeyEdgesSettleStates :
    let p := modAnu (fun n => { n with keys := setAt (setAt n.keys 0 { state := .down }) 1 { state := .up } })
      (part .unconfigured)
    p.stc.station ≠ none ∧ (key p 0).state = .down ∧ (key p 1).state = .up ∧ (key p 3).state = .unknown ∧
      unconfigured p = true := by decide +kernel

/-- Input 0's record. -/
def inputs (x : InputRecord) (p : Part) : Part := modInput 0 (fun _ => x) p

theorem test_witness_AlarmInputChangePublishes :
    let a := inputs { condition := .clear, publication := .inFlight, unpublished := 65534 } (part .running)
    let b := inputs { condition := .active, publication := .waiting } (part .running)
    let c := inputs { condition := .clear, publication := .settled } (part .running)
    (listening a = true ∧ (inputConfig a 0).use = .alarm ∧ (input a 0).condition ≠ .unknown ∧
      (input a 0).unpublished ≠ 65535) ∧
    ((input b 0).publication = .waiting ∧ (input b 0).condition ≠ .unknown ∧
      (input b 0).published = decide (Contact.clear = .active)) ∧
    ((input c 0).publication = .settled ∧ (input c 0).published = decide ((input c 0).condition = .active) ∧
      running c = true ∧ occupied c < 12) := by decide +kernel

theorem test_witness_InputsTripAndSeed :
    let at1 (x : InputRecord) (p : Part) : Part := modInput 1 (fun _ => x) p
    let a := at1 { condition := .clear, trip := .pending } (part .running)
    let b := at1 { condition := .clear } (part .starting)
    let c := at1 { condition := .clear } (part .running)
    let d := at1 { condition := .active } (part .running)
    let e := putEntry (entry 3) (part .running)
    ((inputConfig a 1).use = .trip ∧ (input a 1).condition = .clear ∧ (input a 1).trip ≠ .idle) ∧
    (listening b = true ∧ (input b 1).trip = .idle ∧ running b = false) ∧
    ((input c 1).trip = .idle ∧ running c = true ∧ occupied c < 12) ∧ (input d 1).condition = .active ∧
    ((input e 0).condition = .unknown ∧ (inputConfig e 0).use = .alarm ∧ (input e 0).publication = .unseeded ∧
      running e = true ∧ findEntry e 3 = some (entry 3) ∧ (entry 3).active = true) ∧
    (findEntry (part .running) 3 = none ∧ (input (part .running) 0).published = false ∧
      running (part .starting) = false) := by decide +kernel

/-- The station with inputs unused. -/
def noInputs (p : Part) : Part :=
  modStc (fun c => { c with settings := { c.settings with inputs := tabulate fun _ => {} } }) p

/-- The station with input 0 alone, an ALARM input. -/
def oneInput (p : Part) : Part :=
  modStc (fun c => { c with settings := { c.settings with
    inputs := setAt (tabulate fun _ => {}) 0 { use := .alarm, tag := 3 } } }) p

/-- One tick takes a SILENCE press, a DECLINE release, a settling of RELIEF and a change of ALARM input 0, and counts ACCEPT;
another takes none; none passes while a reset is in progress. -/
theorem test_witness_SampleTickCountsAndActs :
    let k (st : KeyState) (n : Nat) : KeyRecord := { state := st, run := n, sample := true }
    let ks : Vector KeyRecord 4 := tabulate fun j => [k .up 3, k .up 1, k .down 3, k .unknown 3].getD j.val {}
    let p := modAnu (fun a => { a with keys := ks })
      (inputs { condition := .clear, run := 3 } (oneInput (part .running)))
    (p.stc.station ≠ none ∧
      edgesDue p 0xB 1 = [.keySilencePress, .keyReleaseEdge 2, .keyFirstSettling 3 true, .alarmInputChange 0] ∧
      (after (.sampleTick 0xB 1) p).anu.keys.get 1 = k .up 2 ∧ (after (.sampleTick 0xB 1) p).anu.keys.get 2 = k .up 0) ∧
    (edgesDue p 0x4 0 = [] ∧ (after (.sampleTick 0x4 0) p).anu.keys.get 3 = { state := .unknown, run := 1, sample := false }) ∧
    edgesDue (modInput 1 (fun x => { x with condition := .active, run := 3 }) (part .starting)) 0 0
      = [.tripInputDeactivation 1] ∧ State.reset.part.stc.station = none := by decide +kernel

/-- The 24 bits of credential `c`. -/
def bitsOf (c : Credential) : List Bool := List.ofFn fun i : Fin 24 => c.getMsbD i.val

theorem test_credential_is_read_high_bit_first :
    credentialOfBits (bitsOf 7) = 7 ∧ credentialOfBits (true :: List.replicate 23 false) = 0x800000#24 := by decide +kernel

/-- With eight slots occupied. -/
def crowded (p : Part) : Part :=
  let full (k : Fin 12) := if k.val < 8 then some (slot .request 0 (.shelve 3 0 7) .waiting) else none
  modLif (fun l => { l with slots := tabulate full }) p

theorem test_witness_BadgeIsTakenByFirstLine :
    ((bitsOf 7).length = 24 ∧ listening (part .running) = true ∧
      ¬(0 < (part .running).ssu.holdOff ∧ (part .running).ssu.lastBadge = some 7) ∧ (part .running).ssu.armed = false) ∧
    (knownOperator (part .running) 9 = none ∧
      ∀ x, (session 7 0 (part .running)).ssu.session = some x → x.credential ≠ 9) ∧
    ((∀ x, (session 7 0 (part .running)).ssu.session = some x → x.credential ≠ 8) ∧
      knownOperator (part .running) 8 ≠ none) ∧
    (isolated (part .isolated) = true ∧ (part .isolated).ssu.session = none ∧ knownOperator (part .isolated) 7 ≠ none) ∧
    (isolated (crowded (part .running)) = false ∧ 8 ≤ occupied (crowded (part .running)) ∧
      knownOperator (crowded (part .running)) 7 ≠ none) ∧
    (∀ x, (session 7 0 (part .running)).ssu.session = some x → x.credential = credentialOfBits (bitsOf 7)) := by
  refine ⟨by decide +kernel, ⟨by decide +kernel, each (by decide +kernel)⟩,
    ⟨each (by decide +kernel), by decide +kernel⟩, by decide +kernel, by decide +kernel, each (by decide +kernel)⟩

theorem test_witness_BadgeLoginStartsSession :
    (bitsOf 7).length = 24 ∧ sendingOpen (hold 1 (part .running)) = true ∧ (hold 1 (part .running)).ssu.session = none ∧
      (hold 1 (part .running)).ssu.armed = false ∧ occupied (hold 1 (part .running)) < 8 ∧
      ¬(0 < (part .running).ssu.holdOff ∧ (part .running).ssu.lastBadge = some (credentialOfBits (bitsOf 7))) ∧
      knownOperator (hold 1 (part .running)) (credentialOfBits (bitsOf 7)) = some 0 ∧
      holdsAny (part .running) = false := by decide +kernel

/-- With the relief record ARMED, one second left. -/
def armed (p : Part) : Part := { p with ssu := { p.ssu with armed := true, window := 1 } }

theorem test_witness_ReliefBadgeReplacesSession :
    let p := armed (hold 1 (session 7 0 (part .running)))
    let q := armed (hold 1 (session 8 1 (part .running)))
    (listening p = true ∧ p.ssu.armed = true ∧ ¬(0 < p.ssu.holdOff ∧ p.ssu.lastBadge = some 8) ∧
      ∀ x, p.ssu.session = some x → x.credential = 7) ∧
    (credentialOfBits (bitsOf 9) ≠ 7 ∧ knownOperator p 9 = none) ∧
    (knownOperator p 8 = some 1 ∧ holds p 1 = true ∧ operatorMayHold p (p.stc.settings.operators.get 1) 1 = false ∧
      ∀ b, b < 1 → holds p b = true → operatorMayHold p (p.stc.settings.operators.get 1) b = true) ∧
    (q.ssu.armed = true ∧ knownOperator q 7 = some 0 ∧ sendingOpen q = true ∧ occupied q < 8 ∧
      ∀ a, holds q a = true → operatorMayHold q (q.stc.settings.operators.get 0) a = true ∧ urgentAlerting q a = false) := by
  refine ⟨⟨by decide +kernel, by decide +kernel, by decide +kernel, each (by decide +kernel)⟩, by decide +kernel,
    by decide +kernel, by decide +kernel⟩

/-- With the unattended grace timer at its last second. -/
def graced (p : Part) : Part := { p with aru := { p.aru with graceRunning := true, grace := 1 } }

theorem test_witness_ReliefWindowAndGraceExpire :
    ((armed (part .running)).ssu.armed = true ∧ (armed (part .running)).ssu.window ≤ 1) ∧
      (graced (hold 1 (part .running))).aru.graceRunning = true ∧ (graced (hold 1 (part .running))).aru.grace ≤ 1 ∧
      holds (graced (hold 1 (part .running))) 1 = true := by decide +kernel

/-! ## Witnesses: the Station Link -/

theorem test_witness_ReceivedTelegramIsCommittedOrCounted :
    let t := broadcast (.login 7)
    (listening (part .starting) = true ∧ telegramFits t = true ∧ 1 ≤ t.source.toNat ∧ t.source.toNat ≤ 62 ∧
      t.source ≠ (part .starting).stc.number) ∧
    (({ t with destination := 6 } : Telegram).destination ≠ 0 ∧ (6 : StationNo) ≠ (part .starting).stc.number) ∧
    (ringUsed (part .starting) + markReserve (part .starting) + (encodeTelegram t).length ≤ 1024) ∧
    (1024 < ringUsed (modLif (fun l => { l with ring := List.replicate 146 (.telegram t) }) (part .starting))
        + markReserve (part .starting) + (encodeTelegram t).length) ∧
    ([0, 0] : List Byte) ≠ be16 (crc16 (encodeTelegram t)) := by decide +kernel

/-- A beacon WAITING behind a request of class 2, and the same in transmission. -/
def queued (st : SlotState) (p : Part) : Part :=
  setSlot 3 (some (slot .beacon 0 (.beacon {}) .waiting)) (setSlot 0 (some (slot .request 0 (.shelve 3 0 7) st)) p)

/-- A beacon alone in the queue. -/
def beaconOnly (p : Part) : Part := setSlot 3 (some (slot .beacon 0 (.beacon {}) .waiting)) p

theorem test_witness_AttemptsMoveTelegrams :
    (sendingOpen (queued .waiting (part .running)) = true ∧
      (∀ j y, (queued .waiting (part .running)).lif.slots.get j = some y → y.state ≠ .sending) ∧
      (queued .waiting (part .running)).lif.slots.get 0 = some (slot .request 0 (.shelve 3 0 7) .waiting) ∧
      (∀ j y, j ≠ 0 → (queued .waiting (part .running)).lif.slots.get j = some y → y.state = .waiting →
        (payloadClass (.shelve 3 0 7)).toNat < (payloadClass y.telegram.payload).toNat ∨
          ((payloadClass (.shelve 3 0 7)).toNat = (payloadClass y.telegram.payload).toNat ∧ 0 < y.order))) ∧
    ((beaconOnly (part .running)).lif.slots.get 3 = some (slot .beacon 0 (.beacon {}) .waiting) ∧
      (slot .beacon 0 (.beacon {}) .waiting).owner = .beacon) ∧
    (sendingSlot (queued .sending (part .running)) = some 0 ∧
      (queued .sending (part .running)).lif.slots.get 0 = some (slot .request 0 (.shelve 3 0 7) .sending) ∧
      (slot .request 0 (.shelve 3 0 7) .sending).final = false ∧ (queued .sending (part .running)).lif.errors < 15) ∧
    (let x : Slot := { slot .beacon 0 (.beacon {}) .sending with final := true }
     let p := setSlot 3 (some x) (part .running)
     sendingSlot p = some 3 ∧ p.lif.slots.get 3 = some x ∧ x.final = true ∧ noneWaiting p) := by
  refine ⟨⟨by decide +kernel, eachAt (by decide +kernel), by decide +kernel, fun j y n h => ?_⟩, by decide +kernel,
    by decide +kernel, by decide +kernel, by decide +kernel, rfl, rfl, fun y h => by cases h⟩
  exact eachAt (P := fun (j : Fin 12) (y : Slot) => j ≠ 0 → y.state = .waiting →
      (payloadClass (.shelve 3 0 7)).toNat < (payloadClass y.telegram.payload).toNat ∨
        ((payloadClass (.shelve 3 0 7)).toNat = (payloadClass y.telegram.payload).toNat ∧ 0 < y.order))
    (v := (queued .waiting (part .running)).lif.slots) (by decide +kernel) j y h n

theorem test_witness_SixteenthErrorIsolatesStation :
    let a := queued .waiting (modLif (fun l => { l with errors := 14 }) (part .running))
    let b := queued .waiting (modLif (fun l => { l with errors := 15 }) (part .starting))
    let c := queued .sending (modLif (fun l => { l with errors := 15 }) (part .running))
    (sendingOpen a = true ∧ sendingSlot a = none ∧ (queueHead a).isSome = true ∧ a.lif.errors < 15) ∧
    (b.lif.errors = 15 ∧ sendingOpen b = true ∧ sendingSlot b = none ∧ (queueHead b).isSome = true) ∧
    (c.lif.errors = 15 ∧ (sendingSlot c).isSome = true) := by decide +kernel

/-- The entry to ISOLATED makes a QUEUED LOGIN mark OWED, its LOGIN WAITING or COMPLETE; the completion makes it NONE (R87). -/
theorem test_isolation_owes_login :
    let marked (q : Part) : Part := modSession (fun y => { y with mark := .queued }) q
    let waiting := marked (queued .waiting (session 7 0 (modLif (fun l => { l with errors := 15 }) (part .running))))
    let done := marked (completed (.session 0) 0 (.login 7)
      (session 7 0 (modLif (fun l => { l with errors := 15 }) (part .running))))
    (enterIsolated waiting).ssu.session.map Session.mark = some .owed ∧
      (enterIsolated done).ssu.session.map Session.mark = some .owed ∧
      (takeMark completedLogin (enterIsolated done)).ssu.session.map Session.mark = some .none := by decide +kernel

/-- `nextMark` and `noneWaiting`, from their checks. -/
theorem marked {p : Part} {k : Fin 12} {x : Slot} (l : listening p = true) (r : p.lif.ring.head? = some (.mark k))
    (s : p.lif.slots.get k = some x) (c : x.state = .complete) (w : p.lif.waiting = [])
    (m : p.ssu.session.all (fun y => decide (y.mark ≠ .owed)) = true) : nextMark p k x ∧ noneWaiting p :=
  ⟨⟨l, r, s, c⟩, w, each m⟩

/-- The completion's mark is next and nothing waits. -/
theorem marked_completed {o : Owner} {d : StationNo} {x : Payload} {p : Part} (l : listening p = true)
    (w : p.lif.waiting = []) (m : p.ssu.session.all (fun y => decide (y.mark ≠ .owed)) = true) :
    nextMark (completed o d x p) 0 (slot o d x .complete) ∧ noneWaiting (completed o d x p) :=
  ⟨⟨l, rfl, by simp [completed, ring, setSlot, modLif], rfl⟩, w, each m⟩

theorem test_witness_OwnCompletionAppliesTelegram :
    (∀ o x, nextMark (completed o 0 x (part .running)) 0 (slot o 0 x .complete) ∧
      noneWaiting (completed o 0 x (part .running))) ∧
    (let p := completed (.input 0) 0 (.condition 3 .p2 true 1) (inputs { condition := .active } (part .running))
     (input p 0).condition = (if true then .active else .clear)) ∧
    (emergency (completed .request 0 (.trip false 1 7) (part .running)) 1 = false) ∧
    (let p := completed (.input 1) 0 (.trip false 1 0) (trip 1 (part .running))
     emergency p 1 = true ∧ p.lif.slots.get 0 = some (slot (.input 1) 0 (.trip false 1 0) .complete)) := by
  refine ⟨fun o x => marked_completed (by decide +kernel) rfl rfl, by decide +kernel⟩

theorem test_witness_MarksClearAtCompletion :
    (∀ o x, nextMark (completed o 9 x (part .isolated)) 0 (slot o 9 x .complete) ∧
      noneWaiting (completed o 9 x (part .isolated))) ∧
    slotOfOwner (.syncRequest 1) (completed (.syncRequest 1) 9 (.syncRequest 1) (part .isolated)) = none := by
  refine ⟨fun o x => marked_completed (by decide +kernel) rfl rfl, by decide +kernel⟩

/-- With a beacon and area 1's SYNC-REQUEST waiting for a slot, the one joined first. -/
def waitingOwners (p : Part) : Part :=
  modLif (fun l => { l with waiting := [.beacon, .syncRequest 1] }) (modView 1 (fun v => { v with syncMark := .owed, holder := 9 }) p)

theorem test_witness_slot_freed_serves_lowest_class :
    let p := completed (.session 7) 0 (.login 7) (waitingOwners (part .running))
    let t : Telegram := { source := 5, destination := 9, payload := .syncRequest 1 }
    nextMark p 0 (slot (.session 7) 0 (.login 7) .complete) ∧
      p.lif.waiting = [.beacon] ++ .syncRequest 1 :: [] ∧ p.ssu.session = none ∧
      ownerMayQueue p (.syncRequest 1) = true ∧ ownerTelegram p (.syncRequest 1) = some t ∧
      (ownerTelegram p .beacon).all fun z => (payloadClass t.payload).toNat < (payloadClass z.payload).toNat := by
  refine ⟨⟨by decide +kernel, rfl, by simp [completed, ring, setSlot, modLif], rfl⟩, by decide +kernel⟩

theorem test_witness_slot_freed_places_owed_login :
    let y : Session := { credential := 7, record := 0, start := 0, mark := .owed, number := 1 }
    let p := completed (.session 0) 0 (.login 7) (modSsu (fun u => { u with session := some y }) (part .running))
    nextMark p 0 (slot (.session 0) 0 (.login 7) .complete) ∧ p.lif.waiting = [] ∧ p.ssu.session = some y ∧
      y.number ≠ 0 ∧ sendingOpen p = true ∧ occupied p ≤ 8 := by
  refine ⟨⟨by decide +kernel, rfl, by simp [completed, ring, setSlot, modLif], rfl⟩, by decide +kernel⟩

/-- With the beacon mark, the beacon owed or not, and the last second of the schedule come. -/
def beacons (m : BeaconMark) (owed : Bool) (p : Part) : Part :=
  modAru (fun r => { r with beaconMark := m, beaconOwed := owed, schedule := 1 }) p

theorem test_witness_BeaconIsCalledAndCompletes :
    (running (beacons .idle false (part .running)) = true ∧ (beacons .idle false (part .running)).aru.schedule ≤ 1 ∧
      occupied (beacons .idle false (part .running)) < 12 ∧ occupied (full (beacons .idle false (part .running))) = 12 ∧
      (beacons .queued false (part .running)).aru.beaconMark = .queued ∧
      (beacons .sending false (part .running)).aru.beaconMark = .sending) ∧
    (let p := completed .beacon 0 (.beacon {}) (beacons .sending true (part .running))
     (nextMark p 0 (slot .beacon 0 (.beacon {}) .complete) ∧ noneWaiting p) ∧ slotOfOwner .beacon p = none ∧
       p.aru.beaconOwed = true ∧ running p = true ∧ occupied p < 12 ∧
       (beacons .sending false (part .running)).aru.beaconOwed = false) := by
  refine ⟨by decide +kernel, marked_completed (by decide +kernel) rfl rfl, by decide +kernel⟩

/-! ## Witnesses: table, shelves, meter -/

/-- R8: the ends of each range. -/
theorem test_occurrence_ranges :
    compareOccurrence 5 5 = .equal ∧ compareOccurrence 0 255 = .newer ∧ compareOccurrence 127 0 = .newer ∧
      compareOccurrence 128 0 = .older ∧ compareOccurrence 255 0 = .older := by decide

theorem test_witness_ConditionWithoutEffectIsDropped :
    let t (tag : Tag) (act : Bool) (n : Occurrence) := broadcast (.condition tag .p2 act n)
    let p (t : Telegram) := ring (.telegram t) (putEntry { entry 4 with active := false } (putEntry (entry 3) (part .starting)))
    (listening (p (t 16 true 1)) = true ∧ (p (t 16 true 1)).lif.ring.head? = some (.telegram (t 16 true 1)) ∧
      tagArea (p (t 16 true 1)) 16 = none) ∧
    (let q := modStc (fun c => { c with settings := { c.settings with home := 0 } }) (part .starting)
     tagArea q 15 = some 1 ∧ followed q 1 = false) ∧
    (tagArea (p (t 3 true 4)) 3 = some 1 ∧ followed (p (t 3 true 4)) 1 = true ∧
      findEntry (p (t 3 true 4)) 3 = some (entry 3) ∧ compareOccurrence 4 (entry 3).occurrence = .older ∧
      compareOccurrence 5 (entry 3).occurrence = .equal ∧ (entry 3).priority = .p2) ∧
    findEntry (p (t 4 false 5)) 4 = some { entry 4 with active := false } ∧ EntryFine (entry 3) := by
  refine ⟨by decide +kernel, by decide +kernel, by decide +kernel, by decide +kernel, ?_⟩
  simp [EntryFine, entry]

theorem test_witness_ConditionTelegramUpdatesEntry :
    let t := broadcast (.condition 3 .p1 true 5)
    let p (e : Entry) := ring (.telegram t) (putEntry e (part .isolated))
    let shelved : Entry := { entry 3 with shelf := some (shelf 60), active := false, acknowledged := true }
    (listening (p (entry 3)) = true ∧ (p (entry 3)).lif.ring.head? = some (.telegram t) ∧
      tagArea (p (entry 3)) 3 = some 1 ∧ followed (p (entry 3)) 1 = true) ∧
    (findEntry (p (entry 3)) 3 = some (entry 3) ∧ compareOccurrence 132 (entry 3).occurrence = .newer ∧
      compareOccurrence 5 (entry 3).occurrence = .equal ∧ Priority.p1 ≠ (entry 3).priority ∧ (entry 3).shelf = none ∧
      (entry 3).active = true) ∧
    (findEntry (p shelved) 3 = some shelved ∧ shelved.shelf ≠ none) ∧
    (findEntry (part .isolated) 3 = none ∧ (part .isolated).atu.table.length < 512) := by decide +kernel

/-- A table of 512 STANDING entries: tags 0 and on, all of area 1 by their field, the first of priority 4. -/
def fullTable : List Entry :=
  { entry 100 with priority := .p4, acknowledged := true } ::
    (List.range 511).map fun n => { entry (BitVec.ofNat 12 (n + 101)) with acknowledged := true }

/-- With that table, and a new tag's CONDITION next. -/
def crammed (x : Priority) (es : List Entry) : Part :=
  ring (.telegram (broadcast (.condition 3 x true 1))) (modAtu (fun _ => { table := es }) (part .running))

theorem test_witness_FullTableEvictsOrDrops :
    (listening (crammed .p3 fullTable) = true ∧ tagArea (crammed .p3 fullTable) 3 = some 1 ∧
      followed (crammed .p3 fullTable) 1 = true ∧ findEntry (crammed .p3 fullTable) 3 = none ∧
      (crammed .p3 fullTable).atu.table.length = 512 ∧ levelOf .p3 = .routine) ∧
    (let y : Entry := { entry 100 with priority := .p4, acknowledged := true }
     levelOf .p2 = .urgent ∧ y ∈ (crammed .p2 fullTable).atu.table ∧ entryState y = some .standing ∧
     ∀ z ∈ (crammed .p2 fullTable).atu.table, entryState z = some .standing → z ≠ y →
       priorityNumber z.priority < priorityNumber y.priority ∨ (priorityNumber z.priority = priorityNumber y.priority ∧
         (y.firstRaised.toNat < z.firstRaised.toNat ∨
           (y.firstRaised = z.firstRaised ∧ y.tag.toNat < z.tag.toNat)))) := by
  have table (x : Priority) : (crammed x fullTable).atu.table = fullTable := rfl
  have big : fullTable.length = 512 := by
    rw [fullTable, List.length_cons, List.length_map, List.length_range]
  have others : ∀ z ∈ fullTable, z ≠ { entry 100 with priority := .p4, acknowledged := true } → z.priority = .p2 := by
    intro z h n
    rcases List.mem_cons.1 h with h | h
    · exact absurd h n
    · obtain ⟨_, -, rfl⟩ := List.mem_map.1 h
      rfl
  have no3 : ∀ z ∈ fullTable, z.tag ≠ 3 := by
    intro z h
    rcases List.mem_cons.1 h with rfl | h
    · decide
    · obtain ⟨n, r, rfl⟩ := List.mem_map.1 h
      have := List.mem_range.1 r
      intro e
      have := congrArg BitVec.toNat e
      simp [entry] at this
      omega
  refine ⟨⟨by decide +kernel, by decide +kernel, by decide +kernel, ?_, big, rfl⟩, rfl, List.mem_cons_self ..,
    by decide, fun z h _ n => .inl ?_⟩
  · rw [findEntry, table, List.find?_eq_none]
    exact fun z h => by simpa using no3 z h
  · rw [others z h n]
    decide

theorem test_witness_AcknowledgeAndShelveAreApplied :
    let p := putEntry { entry 4 with acknowledged := true } (putEntry (entry 3) (part .running))
    let q := ring (.telegram (broadcast (.acknowledge 3 5 7))) p
    let r := ring (.telegram (broadcast (.shelve 3 59 7))) p
    (listening q = true ∧ q.lif.ring.head? = some (.telegram (broadcast (.acknowledge 3 5 7))) ∧
      r.lif.ring.head? = some (.telegram (broadcast (.shelve 3 59 7))) ∧ (59 : Word16) ≠ 0) ∧
    (tagArea p 16 = none ∧ tagArea p 5 = some 1 ∧ followed p 1 = true ∧ findEntry p 5 = none) ∧
    (findEntry p 3 = some (entry 3) ∧ (6 : Occurrence) ≠ (entry 3).occurrence ∧ (5 : Occurrence) = (entry 3).occurrence ∧
      (entry 3).acknowledged = false ∧ findEntry p 4 = some { entry 4 with acknowledged := true }) ∧
    ((entry 3).priority ≠ .p1 ∧ emergency p 1 = false ∧ emergency (trip 1 p) 1 = true) ∧
    (let x := slot .request 0 (.shelve 3 28801 0) .complete
     let o := completed .request 0 (.shelve 3 28801 0) p
     (nextMark o 0 x ∧ noneWaiting o) ∧ tagArea o 3 = some 1 ∧ followed o 1 = true ∧ findEntry o 3 = some (entry 3) ∧
       emergency o 1 = false) ∧
    ({ shelf 60 with credential := 0 } : Shelf).credential = 0 := by
  refine ⟨by decide +kernel, by decide +kernel, by decide +kernel, by decide +kernel,
    ⟨marked_completed (by decide +kernel) rfl rfl, by decide +kernel⟩, rfl⟩

theorem test_witness_ShelfRemovalUncoversEntry :
    let e : Entry := { entry 3 with shelf := some (shelf 1) }
    let t := broadcast (.shelve 3 0 7)
    let p := ring (.telegram t) (putEntry (entry 4) (putEntry e (part .running)))
    (findEntry p 3 = some e ∧ e.shelf = some (shelf 1) ∧ (shelf 1).seconds ≤ 1 ∧ listening p = true) ∧
    (p.lif.ring.head? = some (.telegram t) ∧ tagArea p 3 = some 1 ∧ followed p 1 = true) ∧
    (tagArea p 16 = none ∧ tagArea p 5 = some 1 ∧ findEntry p 5 = none ∧ findEntry p 4 = some (entry 4) ∧
      (entry 4).shelf = none) := by decide +kernel

/-- Area 1's figure at 1,100 and in FLOOD, area 2's at 1. -/
def metered : Part :=
  modLdm (fun l => { load := setAt (setAt l.load 1 1030) 2 1, flood := 0x0002 }) (part .running)

theorem test_witness_MeteringTickDecaysFigures :
    listening metered = true ∧
      (∀ a, inFlood metered a = false → (loadOf metered a).toNat < metered.stc.settings.floodOn) ∧
      inFlood metered 1 = true ∧ inFlood (meterTick metered) 1 = false ∧ metered.cnp.events = [] := by decide +kernel


/-! ## Witnesses: responsibility -/

/-- With the holder of area `a` recorded, its age at the end of three periods of 1 s. -/
def held (a : Area) (x : StationNo) : Part → Part :=
  modView a fun v => { v with holder := x, attended := true, holderPeriod := 0, age := 3 }

/-- An item of a beacon. -/
def item (a : Area) (e : Bool) : BeaconItem :=
  { area := a, attended := true, emergency := e, flood := false, count := 0, signature := 0, load := 0 }

theorem test_witness_BeaconUpdatesViews :
    let c : BeaconContent := { complete := true, items := [item 1 true, item 2 false] }
    let p := ring (.telegram (broadcast (.beacon c))) (held 3 9 (held 2 10 (hold 1 (part .running))))
    (listening p = true ∧ p.lif.ring.head? = some (.telegram (broadcast (.beacon c))) ∧
      1 ≤ (broadcast (.beacon c)).source.toNat ∧ (broadcast (.beacon c)).source.toNat ≤ 62 ∧ c.state = .running ∧
      c.items.Pairwise (fun i j => i.area ≠ j.area) ∧ ({ c with state := .starting } : BeaconContent).state ≠ .running) ∧
    (holds p 2 = false ∧ (view p 2).holder ≠ 0 ∧ (9 : StationNo).toNat < (view p 2).holder.toNat ∧
      (item 1 true).emergency = true) ∧
    (holds p 1 = true ∧ p.stc.number.toNat < (9 : StationNo).toNat ∧ (4 : StationNo).toNat < p.stc.number.toNat ∧
      (view p 1).emergency = false ∧ annunciated p 1 = true) ∧
    (view (held 2 8 p) 2).holder.toNat < (9 : StationNo).toNat ∧
    (covered c 3 = true ∧ (∀ i ∈ c.items, i.area ≠ 3) ∧ (view p 3).holder = 9) := by decide +kernel

/-- Stations 1 and 62, the ends of the range, and 63, past it: each beacon is the next telegram; 62's names area 1. -/
theorem test_witness_beacon_sources :
    let p (x : StationNo) (c : BeaconContent) := ring (.telegram { source := x, destination := 0, payload := .beacon c }) (part .running)
    let after (x : StationNo) := applyBeacon x { items := [item 1 false] } (part .running)
    (∀ c, (p 63 c).lif.ring.head? = some (.telegram { source := 63, destination := 0, payload := .beacon c })) ∧
      (1 : StationNo).toNat = 1 ∧ (62 : StationNo).toNat = 62 ∧ (view (after 1) 1).holder = 1 ∧
      (view (after 62) 1).holder = 62 ∧ after 63 = part .running ∧ after 0 = part .running := by
  refine ⟨fun c => rfl, by decide +kernel⟩

/-- R99 and R46: a COVER area listed by the same beacon that makes it WATCH sets T when it is tripped. -/
theorem test_trip_from_beacon_sets_demand :
    let p := modView 2 (fun v => { v with role := .cover }) (part .running)
    annunciated p 2 = true ∧ (applyBeacon 9 { items := [item 2 true] } p).anu.trip = true := by decide +kernel

/-- R104 and R105: area 1 of holder 9 differs for the second time; in STARTING its start-up request stands. -/
theorem test_witness_beacon_issues_sync_request :
    let i : BeaconItem := { item 1 false with count := 1 }
    let p (x : StationState) := modView 1 (fun v => { v with holder := 9, mismatch := 1, startup := true }) (part x)
    holds (p .running) 1 = false ∧ inHome (p .running) 1 = true ∧ (view (p .running) 1).holder = 9 ∧
      (view (p .running) 1).syncMark = .none ∧ Owner.syncRequest 1 ∉ (p .running).lif.waiting ∧
      i.count.toNat ≠ areaCount (p .running) 1 ∧ (view (p .running) 1).resync = 0 ∧ occupied (p .running) < 12 ∧
      sendingOpen (p .running) = true ∧ isolated (p .isolated) = true ∧ starting (p .starting) = true ∧
      (view (p .starting) 1).startup = true ∧
      (item 1 false).count.toNat = areaCount (p .starting) 1 ∧ (item 1 false).signature = areaSignature (p .starting) 1 := by
  decide +kernel

theorem test_witness_SilentHolderAndRunDelay :
    let p := held 1 9 (session 7 0 (part .running))
    let h : Heard := { station := 9, period := 0, age := 3, credential := 0 }
    let q := modAru (fun r => { r with stations := [h] }) (part .isolated)
    let r := modView 2 (fun v => { v with claimDelay := 1 }) (session 7 0 (part .running))
    (listening p = true ∧ holds p 1 = false ∧ (view p 1).holder ≠ 0 ∧
      3 * 2 ^ (view p 1).holderPeriod.toNat < (view p 1).age + 1 ∧ followed p 1 = true ∧ inHome p 1 = true ∧
      (view p 1).relinquished = false ∧ running p = true ∧ mayHold p 1 = true ∧ receptionFor p 1 = none ∧
      annunciated p 1 = false) ∧
    (listening q = true ∧ heardRecord q 9 = some h ∧ 3 * 2 ^ h.period.toNat < h.age + 1) ∧
    (listening r = true ∧ orphaned r 2 = true ∧ (view r 2).claimDelay ≤ 1 ∧ running r = true ∧ mayHold r 2 = true ∧
      inStandby r 2 = true ∧ (view r 2).relinquished = false ∧ receptionFor r 2 = none ∧ r.cnp.events = [] ∧
      annunciated r 2 = false) ∧
    (let q := modView 2 (fun v => { v with claimDelay := 1 }) (part .starting)
     listening q = true ∧ orphaned q 2 = true ∧ (view q 2).claimDelay ≤ 1 ∧ running q = false) := by decide +kernel

theorem test_witness_SyncRequestStartsSync :
    let t := direct (.syncRequest 1)
    let p := ring (.telegram t) (hold 1 (part .running))
    (listening p = true ∧ p.lif.ring.head? = some (.telegram t)) ∧
    ((broadcast (.syncRequest 1)).destination = 0 ∧ holds p 2 = false ∧ emergency (trip 1 p) 1 = true) ∧
    (t.destination ≠ 0 ∧ holds p 1 = true ∧ emergency p 1 = false ∧ offerFor p 1 = none ∧
      freeOfferRecord p = some 0 ∧ areaCount p 1 + storeReserved p ≤ 512 ∧ running p = true ∧ occupied p < 12) := by
  decide +kernel

theorem test_witness_TripAndRestoreTelegramsApply :
    let p := ring (.telegram (broadcast (.trip false 1 7))) (putEntry { entry 3 with shelf := some (shelf 60) } (hold 1 (part .running)))
    let q := ring (.telegram (broadcast (.trip true 1 7))) (trip 1 (hold 1 (part .running)))
    (listening p = true ∧ p.lif.ring.head? = some (.telegram (broadcast (.trip false 1 7))) ∧ emergency p 1 = false ∧
      TableFine p ∧ holds p 1 = true ∧ p.stc.settings.keepShelves = false ∧ annunciated p 1 = true) ∧
    (emergency q 1 = true ∧ listening q = true ∧ q.lif.ring.head? = some (.telegram (broadcast (.trip true 1 7))) ∧
      holds q 1 = true ∧ running q = true ∧ q.aru.beaconMark = .idle ∧ occupied q < 12) ∧
    holds (trip 2 q) 2 = false := by
  refine ⟨⟨by decide +kernel, by decide +kernel, by decide +kernel, ⟨by decide +kernel, ?_, ?_⟩, by decide +kernel⟩,
    by decide +kernel⟩
  · exact ⟨fun _ h => absurd h (List.not_mem_nil), trivial⟩
  · intro e h
    obtain rfl := List.mem_singleton.1 h
    simp [EntryFine, entry, shelf]

/-- An ALERTING urgent entry under a shelf, as the flush of a tripped area uncovers. -/
theorem test_witness_flush_uncovers :
    let e : Entry := { entry 3 with shelf := some (shelf 60) }
    e.area = 1 ∧ e.shelf ≠ none ∧ e.active = true ∧ e.acknowledged = false ∧ levelOf e.priority = .urgent := by decide

/-! ## Witnesses: transfers -/

/-- The content of an OFFER of area `a` for one entry. -/
def offered (a : Area) : OfferContent :=
  { area := a, number := 4, entryCount := 1, segmentCount := 1, load := 0, signature := 0, credential := 8 }

theorem test_witness_OfferTelegramIsJudgedInOrder :
    let t (a : Area) := direct (.offer (offered a))
    let p (a : Area) := ring (.telegram (t a)) (hold 1 (part .running))
    let one : AnswerItem :=
      { refusal := some .holds, area := 1, addressee := 9, number := 1, state := .waitingEnd, gap := 1, serial := 0 }
    let four (q : Part) := modHou (fun h => { h with answers := List.replicate 4 one }) q
    (listening (p 1) = true ∧ (p 1).lif.ring.head? = some (.telegram (t 1)) ∧ (t 1).destination ≠ 0 ∧
      handoverFrom (p 1) 9 1 = none ∧ (offered 1).segmentCount ≠ 0 ∧ receiveRefusal (p 1) (offered 1) = some .holds ∧
      (p 1).hou.answers.length < 4) ∧ 4 ≤ (four (p 1)).hou.answers.length ∧
    (handoverFrom (p 4) 9 4 = none ∧ receiveRefusal (p 4) (offered 4) = none ∧
      (p 4).lif.ring.head? = some (.telegram (t 4))) := by decide +kernel

/-- An OFFER of no segments, refused out of RUNNING and in it, and taken; and one that follows an earlier offer of number
3 of the same releaser for the area. -/
theorem test_witness_OfferTelegram_of_no_segments_and_earlier_offer :
    let none0 : OfferContent := { offered 1 with entryCount := 0, segmentCount := 0 }
    (receiveRefusal (hold 1 (part .running)) none0 = some .holds ∧ none0.segmentCount = 0 ∧
      occupied (hold 1 (part .running)) < 12 ∧ (∀ j ∈ (part .running).hou.answers, j.serial < 0)) ∧
    receiveRefusal (part .starting) none0 = some .notRunning ∧ receiveRefusal (part .running) none0 = none ∧
    (let y : Reception := { reception .handover .receiving with area := 4, number := 3 }
     let p := ring (.telegram (direct (.offer (offered 4)))) (receiving y (part .running))
     handoverFrom p 9 4 = some 0 ∧ p.hou.receptions.get 0 = some y ∧ y.number ≠ (offered 4).number ∧ running p = true ∧
       holds p 4 = false ∧ (∀ q z, q ≠ 0 → p.hou.receptions.get q = some z → z.area ≠ 4) ∧ emergency p 4 = false ∧
       (offered 4).segmentCount.toNat = ((offered 4).entryCount.toNat + 7) / 8 ∧
       (offered 4).entryCount.toNat + storeReserved p ≤ 512 + y.entryCount) := by
  refine ⟨by decide +kernel, by decide +kernel, by decide +kernel, by decide +kernel, by decide +kernel,
    by decide +kernel, by decide +kernel, by decide +kernel, fun q z n h => ?_, by decide +kernel⟩
  exact eachAt (P := fun (q : Fin 4) (z : Reception) => q ≠ 0 → z.area ≠ 4)
    (v := (receiving { reception .handover .receiving with area := 4, number := 3 } (part .running)).hou.receptions)
    (by decide +kernel) q z h n

/-- A first and last segment of area 1 with no summary. -/
def segment (n : Byte) (last : Bool) : DigestContent :=
  { area := 1, number := n, entryCount := 0, index := 1, first := true, last := last, load := 0, summaries := [] }

/-- A refusal that waits for its digest's end, its last second come. -/
def waitingRefusal : AnswerItem :=
  { refusal := some .busy, area := 1, addressee := 9, number := 4, state := .waitingEnd, gap := 1, serial := 3 }

/-- A summary of a tag of area 1. -/
def summary (t : Tag) : Summary :=
  { tag := t, priority := .p2, active := true, acknowledged := false, occurrence := 5, shelfSeconds := 60, age := 9 }

/-- A table of one entry is in order. -/
theorem tableFine_one {p : Part} (h : p.atu.table = [entry 3]) : TableFine p := by
  refine ⟨by rw [h]; decide, by rw [h]; exact ⟨fun _ h => absurd h (List.not_mem_nil), trivial⟩, fun e m => ?_⟩
  obtain rfl := List.mem_singleton.1 (h ▸ m)
  simp [EntryFine, entry, levelOf]

theorem test_witness_HandoverSegment_of_refusal_and_merge :
    (let p (x : StationState) := ring (.telegram (direct (.digest (segment 4 true))))
       (modHou (fun h => { h with answers := [waitingRefusal] }) (part x))
     waitingItem (p .running) 9 1 4 = some waitingRefusal ∧ waitingRefusal.refusal = some .busy ∧
       (∀ j ∈ (p .running).hou.answers, j.serial = waitingRefusal.serial → j = waitingRefusal) ∧
       running (p .running) = true ∧ occupied (p .running) < 12 ∧ running (p .isolated) = false ∧
       waitingItem (p .isolated) 9 1 4 = some waitingRefusal) ∧
    (let ds := [summary 3, summary 4]
     let d : DigestContent := { segment 4 true with entryCount := 2, summaries := ds }
     let x : Reception := { reception .handover .receiving with entryCount := 2 }
     let p := { receiving x (part .running) with atu := { table := [entry 3] } }
     segmentPasses x d = true ∧ TableFine p ∧ ds.Pairwise (fun y z => y.tag ≠ z.tag) ∧
       p.atu.table.length + ds.length ≤ 512 ∧ tagArea p 3 = some 1 ∧ findEntry p 3 = some (entry 3)) := by
  refine ⟨by decide +kernel, by decide +kernel, tableFine_one rfl, by decide +kernel⟩

theorem test_witness_HandoverSegmentIsChecked :
    let t := direct (.digest (segment 4 true))
    let p (x : Reception) := ring (.telegram t) (receiving x (part .running))
    let x := reception .handover .receiving
    let two : Reception := { x with segmentCount := 2 }
    (listening (p x) = true ∧ (p x).lif.ring.head? = some (.telegram t) ∧ (segment 4 true).number ≠ 0 ∧
      t.destination ≠ 0 ∧ waitingItem (p x) 9 1 4 = none ∧ handoverFrom (part .running) 9 1 = none) ∧
    (handoverFrom (p x) 9 1 = some 0 ∧ (p x).hou.receptions.get 0 = some x ∧ segmentPasses x (segment 4 true) = true) ∧
    (handoverFrom (p two) 9 1 = some 0 ∧ segmentPasses two (segment 4 true) = false ∧
      segmentPasses two (segment 4 false) = true ∧ (p two).hou.answers.length < 4) ∧
    (reception .handover .review).state ≠ .receiving := by decide +kernel

theorem test_witness_SyncSegmentReplacesEntries :
    let t := broadcast (.digest (segment 0 true))
    let x := reception .sync .receiving
    let p (x : Reception) := ring (.telegram t) (held 1 9 (receiving x (part .running)))
    (listening (p x) = true ∧ (p x).lif.ring.head? = some (.telegram t) ∧ (segment 0 true).number = 0 ∧
      (direct (.digest (segment 0 true))).destination ≠ 0) ∧
    (syncFrom (part .running) 9 1 = none ∧ (view (part .running) 1).holder ≠ 9) ∧
    (t.destination = 0 ∧ syncFrom (p x) 9 1 = some 0 ∧ (p x).hou.receptions.get 0 = some x ∧
      segmentPasses x (segment 0 true) = true ∧ (segment 0 true).load = x.load) ∧
    (segmentPasses { x with segmentCount := 2 } (segment 0 false) = true ∧
      segmentPasses { x with segmentCount := 2 } (segment 0 true) = false) := by decide +kernel

/-- A first and last sync segment of two summaries. -/
def oneSegment : DigestContent := { segment 0 true with entryCount := 2, summaries := [summary 3, summary 4] }

/-- A station whose area 1, of the home set, has holder 9 and one entry; its orphaned area 2 is COVER. -/
def copied : Part :=
  { modView 2 (fun v => { v with role := .cover }) (held 1 9 (part .running)) with atu := { table := [entry 3] } }

/-- What the last segment of a sync digest asks of the tables, with a record for it and without one. -/
theorem test_witness_SyncSegment_tables (p : Part) (h : p = copied ∨ p = receiving { reception .sync .receiving with entryCount := 2 } copied) :
    TableFine p ∧ FollowFine p ∧ inHome p 1 = true ∧ oneSegment.summaries.Pairwise (fun y z => y.tag ≠ z.tag) ∧
      p.atu.table.length + oneSegment.summaries.length ≤ 512 ∧
      ∀ a, annunciated (after .takeSyncDigest (ring (.telegram (broadcast (.digest oneSegment))) p)) a = annunciated p a := by
  rcases h with rfl | rfl <;>
    exact ⟨tableFine_one rfl, ⟨by decide +kernel, by decide +kernel, fun h => absurd h (by decide +kernel)⟩,
      by decide +kernel⟩

/-- A first segment that may create a record, for more segments and for one; and a segment that completes a record. -/
theorem test_witness_SyncSegment_first :
    let more : DigestContent := { segment 0 false with entryCount := 9, summaries := [summary 3, summary 4] }
    let x : Reception := { reception .sync .receiving with entryCount := 2 }
    (syncFrom copied 9 1 = none ∧ followed copied 1 = true ∧ holds copied 1 = false ∧ (view copied 1).holder = 9 ∧
      emergency copied 1 = false ∧ receptionFor copied 1 = none ∧ freeReceptionRecord copied ≠ none ∧
      storeReserved copied = 0) ∧
    (max 1 ((more.entryCount.toNat + 7) / 8) ≠ 1 ∧ more.summaries.length ≤ more.entryCount.toNat ∧
      max 1 ((oneSegment.entryCount.toNat + 7) / 8) = 1 ∧ oneSegment.summaries.length = oneSegment.entryCount.toNat) ∧
    (segmentPasses x oneSegment = true ∧ oneSegment.load = x.load ∧ syncFrom (receiving x copied) 9 1 = some 0) := by
  decide +kernel

theorem test_witness_ReplyTelegramEndsOffer :
    let t (no : Bool) := direct (.reply 1 4 no .busy)
    let p (no : Bool) := ring (.telegram (t no)) (offering (offer .handover .offered 0 0 1) (part .running))
    let q := offering (offer .handover .sending 0 1 1) (part .running)
    (listening (p false) = true ∧ (p false).lif.ring.head? = some (.telegram (t false)) ∧ (t false).destination ≠ 0 ∧
      offerMatching (p false) 9 1 4 = some 0 ∧
      (p false).hou.offers.get 0 = some (offer .handover .offered 0 0 1) ∧ running (p false) = true ∧
      occupied (p false) < 12) ∧
    (slotOfOwner (.offer 0 0) (p true) = none ∧ (p true).lif.ring.head? = some (.telegram (t true))) ∧
    (∀ r o, q.hou.offers.get r = some o → o.kind = .handover → o.target = 9 → o.area = 1 → o.number = 4 →
      o.state ≠ .offered) := by
  refine ⟨by decide +kernel, by decide +kernel, eachAt (by decide +kernel)⟩

theorem test_witness_ReleaseAndWithdrawTelegrams :
    let p (c : Credential) (r : Fin 48) (x : Payload) :=
      ring (.telegram (direct x)) (receiving (reception .handover .accepted) (session c r (part .running)))
    let q := ring (.telegram (direct (.release 1 4))) (receiving (reception .handover .accepted) (part .running))
    (listening (p 7 0 (.release 1 4)) = true ∧
      (p 7 0 (.release 1 4)).lif.ring.head? = some (.telegram (direct (.release 1 4))) ∧
      (direct (.release 1 4)).destination ≠ 0 ∧ handoverMatching (p 7 0 (.release 1 4)) 9 1 4 = some 0 ∧
      handoverMatching (part .running) 9 1 4 = none ∧
      (p 7 0 (.release 1 4)).hou.receptions.get 0 = some (reception .handover .accepted) ∧
      mayHold (p 7 0 (.release 1 4)) 1 = true ∧ (reception .handover .review).state ≠ .accepted) ∧
    (sessionActive q = false ∧ handoverMatching q 9 1 4 = some 0) ∧
    (sessionActive (p 8 1 (.release 1 4)) = true ∧ mayHold (p 8 1 (.release 1 4)) 1 = false ∧
      holds (p 8 1 (.release 1 4)) 1 = false) ∧
    (p 7 0 (.withdraw 1 4)).lif.ring.head? = some (.telegram (direct (.withdraw 1 4))) := by decide +kernel

/-- An OFFER's and a segment's completion, for an offer record. -/
def sent (x : Payload) (o : Offer) : Part := completed (.offer 0 0) 9 x (offering o (part .running))

theorem test_witness_OfferRecordAdvancesAtCompletions :
    (∀ x o, nextMark (sent x o) 0 (slot (.offer 0 0) 9 x .complete) ∧ noneWaiting (sent x o)) ∧
    (∀ x o, (sent x o).hou.offers.get 0 = some o) ∧
    ((offer .handover .sending 0 0 1).state = .sending ∧ (offer .handover .sending 0 0 1).segmentCount = 0 ∧
      (offer .handover .sending 1 1 1).segmentCount ≠ 0 ∧
      (offer .handover .sending 9 2 2).segmentCount = (offer .handover .sending 9 2 2).nextIndex ∧
      (offer .sync .sending 9 2 1).nextIndex < (offer .sync .sending 9 2 1).segmentCount) ∧
    (running (sent (.digest (segment 0 true)) (offer .sync .sending 0 1 1)) = true ∧
      occupied (sent (.digest (segment 0 true)) (offer .sync .sending 0 1 1)) < 12 ∧
      slotOfOwner (.offer 0 0) (sent (.digest (segment 0 true)) (offer .sync .sending 0 1 1)) = none) := by
  refine ⟨fun x o => marked_completed (by rfl) rfl rfl, fun x o => ?_, by decide +kernel⟩
  simp [sent, completed, ring, offering, setOffer, setSlot, modLif, modHou]

theorem test_witness_ReplyAndReleaseCompletions :
    (let p (y : Reception) := completed (.reply 0 0) 9 (.reply 1 4 true y.answer) (receiving y (part .running))
     (∀ y, nextMark (p y) 0 (slot (.reply 0 0) 9 (.reply 1 4 true y.answer) .complete) ∧ noneWaiting (p y)) ∧
      (p (reception .handover .review)).hou.receptions.get 0 = some (reception .handover .review) ∧
      (reception .handover .review).answer = .none) ∧
    (let p := completed (.offer 0 0) 9 (.release 1 4) (offering (offer .handover .releasing 0 0 1) (hold 1 (part .running)))
     nextMark p 0 (slot (.offer 0 0) 9 (.release 1 4) .complete) ∧ noneWaiting p ∧
      p.hou.offers.get 0 = some (offer .handover .releasing 0 0 1) ∧
      (offer .handover .releasing 0 0 1).target ≠ 0) := by
  refine ⟨⟨fun y => marked_completed (by rfl) rfl rfl, by decide +kernel⟩,
    (marked_completed (by rfl) rfl rfl).1, (marked_completed (by rfl) rfl rfl).2, by decide +kernel⟩

theorem test_witness_TransferTimersRunOut :
    (let p (k : TransferKind) (st : ReceptionState) := receiving (reception k st) (part .running)
     ∀ k st, (p k st).hou.receptions.get 0 = some (reception k st) ∧ (reception k st).gap ≤ 1 ∧
      (reception k st).timer ≤ 1 ∧ (reception k st).mark = .none ∧ running (p k st) = true) ∧
    occupied (part .running) < 12 ∧
    (let p := offering (offer .handover .offered 0 0 1) (part .running)
     p.hou.offers.get 0 = some (offer .handover .offered 0 0 1) ∧ (offer .handover .offered 0 0 1).replyTimer ≤ 1 ∧
      slotOfOwner (.offer 0 0) p = none ∧ (∀ j ∈ p.hou.answers, j.serial < p.hou.nextSerial)) ∧
    (let p := modHou (fun h => { h with answers := [waitingRefusal] }) (part .running)
     p.hou.answers[0]? = some waitingRefusal ∧ (∀ j ∈ p.hou.answers, j.serial = waitingRefusal.serial → j = waitingRefusal) ∧
      running p = true ∧ occupied p < 12) := by
  refine ⟨fun k st => ?_, by decide +kernel⟩
  cases k <;> cases st <;> decide +kernel

/-! ## Witnesses: the invariants -/

/-- An item of area 4 with count 2 fits a telegram. -/
theorem test_witness_TelegramRoundTrip :
    let t := broadcast (.beacon { complete := true, first := 4, items := [{ item 4 true with count := 2 }] })
    telegramFits t = true ∧ decodeTelegram (encodeTelegram t) = some t := by decide +kernel

/-- The worked case of section 1.12: area 2's count 3 and signature 2,560; 35,328 with the tag 301 entry acknowledged. -/
theorem test_signature_of_worked_case :
    let e (t : Tag) (n : Occurrence) (act acks : Bool) : Entry :=
      { entry t with area := 2, occurrence := n, active := act, acknowledged := acks }
    let p (acks : Bool) := putEntry (e 1200 250 false false) (putEntry (e 301 1 true acks) (putEntry (e 300 5 true true)
      (part .running)))
    areaCount (p false) 2 = 3 ∧ areaSignature (p false) 2 = 2560#16 ∧ areaSignature (p true) 2 = 35328#16 := by
  decide +kernel

/-- The worked case of section 4.10 (k 3): 2,108 falls to 1,845; a figure of 5 loses 1. Section 4.11: 65,535 with k 6. -/
theorem test_decay_of_worked_cases :
    2108 - decayStep 3 2108 = 1845 ∧ decayStep 3 5 = 1 ∧ 65535 - decayStep 6 65535 = 64512 := by decide

/-- A held area with an entry, in RUNNING: the invariants hold there, and its step gives a next state. -/
theorem test_witness_invariants :
    let s := ready (putEntry (entry 3) (hold 1 (part .running)))
    (EventsFine s.part ∧ TableFine s.part ∧ FollowFine s.part ∧ StoreFine s.part ∧ EmergencyFine s.part ∧ FloodFine s.part ∧
      HolderFine s.part ∧ PanelFine s.part) ∧ ∃ u, step s = .next u := by
  refine ⟨⟨by unfold EventsFine; decide +kernel, ⟨by decide +kernel, ?_, ?_⟩,
    ⟨by decide +kernel, by decide +kernel, fun h => absurd h (by decide +kernel)⟩, by unfold StoreFine; decide +kernel,
    by unfold EmergencyFine; decide +kernel, ?_, by unfold HolderFine; decide +kernel,
    by unfold PanelFine; decide +kernel⟩, _, rfl⟩
  · exact ⟨fun _ h => absurd h (List.not_mem_nil), trivial⟩
  · intro e h
    obtain rfl := List.mem_singleton.1 h
    simp [EntryFine, entry, levelOf]
  · refine ⟨by decide +kernel, by decide +kernel, by decide +kernel⟩


/-! ## Witnesses: roles, claims, denials, floods, indicators -/

/-- Section 12.3: period code 2, W 200 s, relief window left to its default, grace clamped up, home set bit 1. -/
theorem test_image_fields_by_hand :
    let b : List Byte := [0x43, 0x37, 1, 2, 0, 200, 0, 0, 0, 59] ++ List.replicate 17 0 ++ [2]
    (validatedImage b).periodCode = 2 ∧ (validatedImage b).window = 200 ∧ (validatedImage b).reliefWindow = 120 ∧
      (validatedImage b).grace = 60 ∧ (validatedImage b).home = 2 := by decide +kernel

theorem test_witness_role_of_table :
    let s := ready (settleAreas (hold 1 (part .running)))
    RoleFine s.part ∧ (view s.part 2).role = .cover ∧ (view s.part 3).role = .watch ∧ ∃ u, step s = .next u := by
  refine ⟨fun a => ?_, by decide +kernel, by decide +kernel, _, rfl⟩
  revert a
  unfold roleByTable
  decide +kernel

/-- R174: the settled ALARM input 0 differs from CLEAR or agrees with its entry, the TRIP input 1 is PENDING, area 1 is
claimed. -/
theorem test_witness_entry_to_running :
    let p := session 7 0 (modInput 1 (fun x => { x with trip := .pending }) (inputs { condition := .active } settling))
    (starting p = true ∧ p.stc.settle ≤ 1 ∧ claimable p 1 = true ∧ claimable p 2 = false ∧ claimable p 3 = false ∧
      p.cnp.events.length + 2 < 64) ∧
    ((inputConfig p 0).use = .alarm ∧ (input p 0).condition ≠ .unknown ∧ (input p 0).publication = .unseeded ∧
      findEntry (after .settleEnd p) 3 = none ∧ (input p 0).published ≠ decide ((input p 0).condition = .active) ∧
      occupied p ≤ 3 ∧ occupied (full p) = 12) ∧
    (findEntry (after .settleEnd (putEntry (entry 3) p)) 3 = some (entry 3) ∧
      (entry 3).active = decide ((input p 0).condition = .active)) ∧
    ((inputConfig p 1).use = .trip ∧ (input p 1).trip = .pending) := by decide +kernel

/-- R174 and R55: in STARTING an ACCEPT or DECLINE request is refused NOT-RUNNING; a key with no record gives NO-RECORD. -/
theorem test_transfer_requests_in_starting :
    let p := keysUp (part .starting)
    (starting p = true ∧ listening p = true ∧ portOpen p = true ∧ reviewFor (part .isolated) 1 = none ∧
      starting (part .isolated) = false) ∧
    (after (.accept (Frame.of [1])) p).cnp.response = some { result := .notRunning, body := [] } ∧
    (after (.decline (Frame.of [1])) p).cnp.response = some { result := .notRunning, body := [] } ∧
    (after .keyAcceptPress p).cnp.events.map Event.reason = [some (.result .noRecord)] := by decide +kernel

theorem test_witness_offers_at_session_end :
    let p := offering (offer .handover .offered 0 0 1) (hold 1 (session 7 0 (part .running)))
    sessionOffers p = [offer .handover .offered 0 0 1] ∧ p.hou.offers.get 0 = some (offer .handover .offered 0 0 1) ∧
      p.cnp.events.length + 1 + 1 ≤ 64 ∧ p.hou.answers.length ≤ 4 := by decide +kernel

theorem test_witness_relief_denials :
    let p := armed (putEntry (entry 3) (hold 1 (session 8 1 (part .running))))
    let q := crowded (armed (hold 1 (session 8 1 (part .running))))
    (knownOperator p 7 = some 0 ∧
      (∀ a, holds p a = true → operatorMayHold p (p.stc.settings.operators.get 0) a = true) ∧ holds p 1 = true ∧
      urgentAlerting p 1 = true ∧ (∀ b, b < 1 → holds p b = true → urgentAlerting p b = false)) ∧
    (knownOperator q 7 = some 0 ∧
      (∀ a, holds q a = true → operatorMayHold q (q.stc.settings.operators.get 0) a = true) ∧
      (∀ a, holds q a = true → urgentAlerting q a = false) ∧ 8 ≤ occupied q) := by decide +kernel

theorem test_witness_offer_of_area_lost_to_grace :
    let p := graced (offering (offer .handover .offered 0 0 1) (hold 1 (part .running)))
    holds p 1 = true ∧ offerFor p 1 = some 0 ∧ p.hou.offers.get 0 = some (offer .handover .offered 0 0 1) ∧
      p.cnp.events = [] ∧ p.hou.answers = [] := by decide +kernel

/-- FloodFine where no area has a figure. -/
theorem floodFine_calm {p : Part} (o : p.stc.settings.floodOff < p.stc.settings.floodOn) (l : ∀ a, loadOf p a = 0)
    (f : ∀ a, inFlood p a = false) : FloodFine p := by
  refine ⟨o, fun a => ?_, fun _ a => ⟨l a, f a⟩⟩
  rw [f a, l a]
  exact Nat.lt_of_le_of_lt (Nat.zero_le _) o

/-- A new tag, a new occurrence and a repeat, each next: nothing in flood, the table in order. -/
theorem test_witness_condition_floods_and_indicators :
    let p := ring (.telegram (broadcast (.condition 3 .p1 true 6))) (putEntry (entry 3) (part .running))
    let q := ring (.telegram (broadcast (.condition 3 .p1 true 6))) (part .running)
    FloodFine p ∧ FloodFine q ∧ TagsRise p.atu.table ∧ TagsRise q.atu.table ∧ findEntry p 3 ≠ none ∧
      q.atu.table.length < 512 := by
  refine ⟨floodFine_calm (by decide +kernel) (by decide +kernel) (by decide +kernel),
    floodFine_calm (by decide +kernel) (by decide +kernel) (by decide +kernel), ?_, trivial, by decide +kernel⟩
  exact ⟨fun _ h => absurd h (List.not_mem_nil), trivial⟩

/-- Entries of rising tags are in order. -/
theorem tagsRise_range (n s : Nat) (h : s + n ≤ 3995) :
    TagsRise ((List.range' s n).map fun i => { entry (BitVec.ofNat 12 (i + 101)) with acknowledged := true }) := by
  induction n generalizing s with
  | zero => trivial
  | succ n ih =>
    rw [List.range'_succ, List.map_cons]
    refine ⟨fun x m => ?_, ih (s + 1) (by omega)⟩
    obtain ⟨i, r, rfl⟩ := List.mem_map.1 m
    have := List.mem_range'_1.1 r
    simp only [entry, BitVec.toNat_ofNat]
    omega

theorem test_witness_full_table_in_order : TagsRise fullTable := by
  refine ⟨fun x m => ?_, by rw [List.range_eq_range']; exact tagsRise_range 511 0 (by decide)⟩
  obtain ⟨i, r, rfl⟩ := List.mem_map.1 m
  have := List.mem_range.1 r
  show 100 < _
  simp only [entry, BitVec.toNat_ofNat]
  omega

theorem test_witness_tables_of_two_in_order :
    TagsRise (putEntry { entry 4 with acknowledged := true } (putEntry (entry 3) (part .running))).atu.table ∧
      TagsRise (putEntry (entry 4) (putEntry { entry 3 with shelf := some (shelf 1) } (part .running))).atu.table := by
  constructor <;> simp [putEntry, modAtu, part, insertEntry, entry, TagsRise]

/-- Area 1, held with an offer to station 9, listed by station 3; area 3 of holder 9, omitted; area 1 tripped by station
9. -/
theorem test_witness_beacon_events :
    let t (x : StationNo) (is : List BeaconItem) : Telegram :=
      { source := x, destination := 0, payload := .beacon { complete := true, items := is } }
    let p (x : StationNo) (is : List BeaconItem) := ring (.telegram (t x is))
      (held 3 9 (offering (offer .handover .offered 0 0 1) (hold 1 (part .running))))
    (listening (p 3 []) = true ∧ (3 : StationNo).toNat < (p 3 []).stc.number.toNat ∧ holds (p 3 []) 1 = true ∧
      offerFor (p 3 []) 1 = some 0 ∧ (p 3 []).hou.offers.get 0 = some (offer .handover .offered 0 0 1) ∧
      (p 3 []).cnp.events.length + 2 ≤ 64 ∧ (p 3 []).hou.answers.length < 4 ∧ (item 1 false).emergency = false) ∧
    (covered { complete := true, items := [] } 3 = true ∧ (view (p 9 []) 3).holder = 9 ∧ followed (p 9 []) 3 = true) ∧
    (let c : BeaconContent := { complete := false, items := [item 1 true] }
     (p 9 []).stc.number.toNat < (9 : StationNo).toNat ∧ emergency (p 9 []) 1 = false ∧
       ∀ a, a ≠ 1 → covered c a = true → (view (p 9 []) a).holder ≠ 9) ∧
    (∀ x is, (p x is).lif.ring.head? = some (.telegram (t x is))) := by
  refine ⟨by decide +kernel, by decide +kernel, by decide +kernel, fun _ _ => rfl⟩

/-- An OFFER of no segments, a handover's last segment, and the refusal that finds no slot. -/
theorem test_witness_digest_floods :
    let x : Reception := { reception .handover .receiving with entryCount := 2 }
    let p := { receiving x (part .running) with atu := { table := [entry 3] } }
    let q := full (modHou (fun h => { h with answers := [waitingRefusal] }) (part .running))
    FloodFine (part .running) ∧ FloodFine p ∧ FloodFine copied ∧
      waitingItem q 9 1 4 = some waitingRefusal ∧ running q = true ∧ occupied q = 12 := by
  refine ⟨floodFine_calm (by decide +kernel) (by decide +kernel) (by decide +kernel),
    floodFine_calm (by decide +kernel) (by decide +kernel) (by decide +kernel),
    floodFine_calm (by decide +kernel) (by decide +kernel) (by decide +kernel), by decide +kernel⟩

/-- A sync of figure 3,000 raises area 1 into FLOOD; one of no summaries, and the flush of a trip, shorten the table. -/
theorem test_witness_sync_raises_flood_and_shortens :
    let d : DigestContent := { oneSegment with load := 3000 }
    let u (d : DigestContent) := after .takeSyncDigest (ring (.telegram (broadcast (.digest d))) copied)
    let e : Entry := { entry 3 with shelf := some (shelf 60), active := false, acknowledged := true }
    let p := ring (.telegram (broadcast (.trip false 1 7))) (putEntry e (hold 1 (part .running)))
    (inFlood copied 1 = false ∧ inFlood (u d) 1 = true ∧ copied.cnp.events.length < 64) ∧
    ((u (segment 0 true)).atu.table.length < copied.atu.table.length ∧ (u (segment 0 true)).atu.table.length ≤ 448) ∧
    ((after .takeTrip p).atu.table.length < p.atu.table.length ∧ (after .takeTrip p).atu.table.length ≤ 448) := by
  decide +kernel

/-- A sync record that no REPLY's slot belongs to; a first segment that may create a record and fails for its last mark or
its count; a gap timer's last second; a holder whose SYNC-REQUEST is owed, come to its end. -/
theorem test_witness_sync_freed_silently :
    let x : Reception := { reception .sync .receiving with segmentCount := 2 }
    let p := ring (.telegram (broadcast (.digest (segment 0 true)))) (held 1 9 (receiving x (part .running)))
    (slotOfOwner (.reply 0 x.serial) p = none ∧ segmentPasses x (segment 0 true) = false ∧ x.gap ≤ 1) ∧
    ((∀ r, slotOfOwner (.reply r copied.hou.nextSerial) copied = none) ∧
      ((segment 0 false).last = true ↔ max 1 (((segment 0 false).entryCount.toNat + 7) / 8) ≠ 1) ∧
      ({ oneSegment with entryCount := 1 } : DigestContent).entryCount.toNat < oneSegment.summaries.length) ∧
    (let q := modView 1 (fun v => { v with syncMark := .owed }) (held 1 9 (part .running))
     (view (after (.holderAged 1) q) 1).syncMark = .none ∧ (view q 1).syncMark = .owed) := by decide +kernel
end Sys2Proof.Tests
end

section
/-! PROOFS. Sets of areas, the flood judgement and the load figures: what each operation of the meter leaves, said once. -/

namespace Sys2Proof.Machine

/-! ## Sets of areas -/

@[simp] theorem has_zero (a : Area) : AreaSet.has 0#16 a = false := by simp [AreaSet.has]

theorem has_single (a b : Area) : AreaSet.has (AreaSet.single a) b = decide (b = a) := by
  revert a b; decide

@[simp] theorem has_or (x y : AreaSet) (a : Area) :
    AreaSet.has (x ||| y) a = (AreaSet.has x a || AreaSet.has y a) := BitVec.getLsbD_or ..

@[simp] theorem has_and (x y : AreaSet) (a : Area) :
    AreaSet.has (x &&& y) a = (AreaSet.has x a && AreaSet.has y a) := BitVec.getLsbD_and ..

@[simp] theorem has_not (x : AreaSet) (a : Area) : AreaSet.has (~~~x) a = !AreaSet.has x a := by
  simp [AreaSet.has, a.isLt]

theorem has_foldl_areas (f : Area → Bool) (l : List Area) (x : AreaSet) (a : Area) :
    AreaSet.has (l.foldl (fun x a => if f a then x ||| AreaSet.single a else x) x) a =
      (AreaSet.has x a || (decide (a ∈ l) && f a)) := by
  induction l generalizing x with
  | nil => simp
  | cons b l ih =>
    rw [List.foldl_cons, ih]
    by_cases h : a = b
    · subst h; cases hf : f a <;> simp [has_single]
    · cases hf : f b <;> simp [h, has_single]

@[simp] theorem has_areaSetOf (f : Area → Bool) (a : Area) : AreaSet.has (areaSetOf f) a = f a := by
  simp [areaSetOf, has_foldl_areas, allAreas]

/-! ## The flood judgement and the figures (R63, R64) -/

section
variable (p : Part) (a b : Area)

@[simp] theorem loadOf_judgeFlood : loadOf (judgeFlood a p) b = loadOf p b := by
  simp only [judgeFlood]; (repeat' split) <;> simp [loadOf]

theorem inFlood_judgeFlood_other (h : b ≠ a) : inFlood (judgeFlood a p) b = inFlood p b := by
  simp only [judgeFlood]; (repeat' split) <;> simp [inFlood, has_single, h]

/-- A figure that rose or stayed is judged upwards: FLOOD-ON is all that can be stored, when the area enters FLOOD (R64). -/
theorem judgeFlood_above (h : inFlood p a = true → p.stc.settings.floodOff < (loadOf p a).toNat) :
    inFlood (judgeFlood a p) a = (inFlood p a || decide (p.stc.settings.floodOn ≤ (loadOf p a).toNat)) ∧
      (judgeFlood a p).cnp = if inFlood p a = false ∧ p.stc.settings.floodOn ≤ (loadOf p a).toNat
        then p.cnp.storing (now p) { kind := .floodOn, area := some a } else p.cnp := by
  unfold judgeFlood
  cases f : inFlood p a with
  | true => simp [f, Nat.not_le.2 (h f)]
  | false =>
    by_cases g : p.stc.settings.floodOn ≤ (loadOf p a).toNat
    · simp [g, inFlood, has_single]; rfl
    · simp [g, f]

/-- Area `a` given a figure, not yet judged. -/
def withLoad (x : Word16) : Part := modLdm (fun l => { l with load := setAt l.load a x }) p

theorem loadOf_withLoad (x : Word16) : loadOf (withLoad p a x) b = if b = a then x else loadOf p b := setAt_get ..

theorem setLoad_eq (n : Nat) : setLoad a n p =
    if BitVec.ofNat 16 (min 65535 n) = loadOf p a then p
    else judgeFlood a (withLoad p a (BitVec.ofNat 16 (min 65535 n))) := rfl

theorem loadOf_setLoad (n : Nat) :
    loadOf (setLoad a n p) b = if b = a then BitVec.ofNat 16 (min 65535 n) else loadOf p b := by
  rw [setLoad_eq]
  split
  · next h => by_cases g : b = a <;> simp [g, h]
  · rw [loadOf_judgeFlood, loadOf_withLoad]

theorem inFlood_setLoad_other (n : Nat) (h : b ≠ a) : inFlood (setLoad a n p) b = inFlood p b := by
  rw [setLoad_eq]
  split
  · rfl
  · rw [inFlood_judgeFlood_other _ _ _ h]; rfl

/-- Under the invariant of the flood judgement a figure that does not fall can only take its area into FLOOD, with FLOOD-ON
(R64). -/
theorem setLoad_rising {n : Nat} (hf : FloodFine p) (hn : (loadOf p a).toNat ≤ min 65535 n) :
    floodRisen p (setLoad a n p) a ∧ (setLoad a n p).cnp = floodStored p (setLoad a n p) a := by
  have hj := hf.2.1 a
  have hload : (BitVec.ofNat 16 (min 65535 n)).toNat = min 65535 n := by simp
  unfold floodRisen floodStored
  rw [loadOf_setLoad, if_pos rfl, setLoad_eq]
  by_cases h : BitVec.ofNat 16 (min 65535 n) = loadOf p a
  · rw [if_pos h, h]
    cases f : inFlood p a with
    | true => simp
    | false => simpa [f] using hj
  · rw [if_neg h]
    obtain ⟨hflood, hcnp⟩ := judgeFlood_above (withLoad p a (BitVec.ofNat 16 (min 65535 n))) a (by
      intro f
      rw [if_pos (show inFlood p a = true from f)] at hj
      rw [loadOf_withLoad, if_pos rfl, hload]
      exact Nat.lt_of_lt_of_le hj hn)
    rw [loadOf_withLoad, if_pos rfl] at hflood hcnp
    refine ⟨hflood, ?_⟩
    rw [hcnp, hflood]
    have hsame : inFlood (withLoad p a (BitVec.ofNat 16 (min 65535 n))) a = inFlood p a := rfl
    rw [hsame]
    by_cases f : inFlood p a = true <;> simp [f, withLoad, now]

end

end Sys2Proof.Machine
end


section
/-! PROOFS. The alarm table and the horn: what a tag's entry is after the removal rule, what a derivation makes of the demands, and
what a shelf's removal and a new occurrence leave. -/

namespace Sys2Proof.Machine

/-! ## Tags and entries -/

theorem find_of_mem {l : List Entry} (h : TagsRise l) {e : Entry} (m : e ∈ l) :
    l.find? (fun x => decide (x.tag = e.tag)) = some e := by
  induction l with
  | nil => exact absurd m List.not_mem_nil
  | cons x xs ih =>
    obtain ⟨hx, hs⟩ := h
    rcases List.mem_cons.1 m with rfl | m
    · simp
    · have hlt := hx e m
      have hne : ¬x.tag = e.tag := fun c => by rw [c] at hlt; omega
      rw [List.find?_cons_of_neg (by simpa using hne)]
      exact ih hs m

theorem findEntry_of_mem {p : Part} (h : TagsRise p.atu.table) {e : Entry} (m : e ∈ p.atu.table) :
    findEntry p e.tag = some e := find_of_mem h m

theorem findEntry_eq_none {p : Part} {t : Tag} : findEntry p t = none ↔ ∀ e ∈ p.atu.table, e.tag ≠ t := by
  simp [findEntry, List.find?_eq_none]

/-- Whether a tag has an entry, and which, is all in the table. -/
theorem findEntry_congr {p q : Part} (h : q.atu = p.atu) (t : Tag) : findEntry q t = findEntry p t := by
  simp [findEntry, h]

theorem mem_insertEntry_self (e : Entry) (l : List Entry) : e ∈ insertEntry e l := by
  induction l with
  | nil => simp [insertEntry]
  | cons x xs ih => unfold insertEntry; (repeat' split) <;> simp [ih]

/-- An entry put for a tag that has none makes the table one longer. -/
theorem insertEntry_length_of_new {e : Entry} {l : List Entry} (h : ∀ x ∈ l, x.tag ≠ e.tag) :
    (insertEntry e l).length = l.length + 1 := by
  induction l with
  | nil => rfl
  | cons x xs ih =>
    unfold insertEntry
    have hx : e.tag ≠ x.tag := (h x (List.mem_cons_self ..)).symm
    have hs := ih fun y m => h y (List.mem_cons_of_mem _ m)
    split
    · rfl
    · simp [hs]

theorem putEntry_length_of_found {p : Part} (h : TagsRise p.atu.table) {e y : Entry} (f : findEntry p e.tag = some y) :
    (putEntry e p).atu.table.length = p.atu.table.length :=
  insertEntry_length_of_mem h (findEntry_mem f) (findEntry_tag f)

/-- The removal of a tag's entry makes the table one shorter. -/
theorem removeEntry_length {p : Part} (h : TagsRise p.atu.table) {e : Entry} (m : e ∈ p.atu.table) :
    (removeEntry e.tag p).atu.table.length + 1 = p.atu.table.length := by
  unfold removeEntry
  rw [keepEntries_table]
  generalize p.atu.table = l at h m
  induction l with
  | nil => exact absurd m List.not_mem_nil
  | cons x xs ih =>
    obtain ⟨hx, hs⟩ := h
    rcases List.mem_cons.1 m with rfl | m
    · have hall : ∀ y ∈ xs, ¬y.tag = e.tag := fun y hy c => by
        have := hx y hy
        rw [c] at this
        omega
      simpa using hall
    · have hlt := hx e m
      have hne : x.tag ≠ e.tag := fun c => by rw [c] at hlt; omega
      rw [List.filter_cons_of_pos (by simpa using hne), List.length_cons, List.length_cons, ih hs m]

/-! ## The removal rule (R15) -/

/-- An entry put, then judged by the removal rule: it goes when it is CLEAR, acknowledged and without a shelf (R15). -/
theorem applyRemoval_putEntry (e : Entry) (p : Part) : applyRemoval e.tag (putEntry e p) =
    if e.active = false ∧ e.acknowledged = true ∧ e.shelf = none then removeEntry e.tag (putEntry e p)
    else putEntry e p := by
  have hiff : (e.shelf.isNone && !e.active && e.acknowledged) = true ↔
      e.active = false ∧ e.acknowledged = true ∧ e.shelf = none := by
    cases e.active <;> cases e.acknowledged <;> cases e.shelf <;> simp
  simp only [applyRemoval, findEntry_putEntry, if_pos, hiff]

theorem findEntry_applyRemoval_putEntry (e : Entry) (p : Part) (t : Tag) :
    findEntry (applyRemoval e.tag (putEntry e p)) t = if t = e.tag then unlessRemoved e else findEntry p t := by
  rw [applyRemoval_putEntry, unlessRemoved]
  by_cases h : t = e.tag <;> split <;> simp [h]

/-- Where the tag had an entry, the table shrinks only by its removal, and the indicators follow (R18). -/
theorem indicatorsFollow_applyRemoval {p : Part} (h : TagsRise p.atu.table) {e y : Entry}
    (f : findEntry p e.tag = some y) : indicatorsFollow p (applyRemoval e.tag (putEntry e p)) := by
  have hput := putEntry_length_of_found h f
  have hrem := removeEntry_length (p := putEntry e p) (insertEntry_tagsRise h) (mem_insertEntry_self e p.atu.table)
  rw [applyRemoval_putEntry]
  unfold indicatorsFollow
  split
  · rw [← hput]; rfl
  · rw [hput, if_neg (by omega)]; rfl

/-! ## A derivation of the demands (R45, R48) -/

theorem holdsDemand_iff (p : Part) (l : Level) (e : Entry) : holdsDemand p l e = true ↔ sounds p l e := by
  simp [holdsDemand, sounds, alerting, and_assoc]

theorem demandHeld_iff (p : Part) (l : Level) : demandHeld p l = true ↔ demandStands p l := by
  simp [demandHeld, demandStands, holdsDemand_iff]

@[simp] theorem demandStands_deriveHorn (p : Part) (l : Level) : demandStands (deriveHorn p) l ↔ demandStands p l := Iff.rfl

@[simp] theorem tagSounds_deriveHorn (p : Part) (t : Tag) (l : Level) : tagSounds (deriveHorn p) t l ↔ tagSounds p t l :=
  Iff.rfl

@[simp] theorem deriveHorn_urgent (p : Part) : (deriveHorn p).anu.urgent = (p.anu.urgent && demandHeld p .urgent) := rfl

@[simp] theorem deriveHorn_routine (p : Part) : (deriveHorn p).anu.routine = (p.anu.routine && demandHeld p .routine) := rfl

@[simp] theorem deriveHorn_trip (p : Part) : (deriveHorn p).anu.trip = p.anu.trip := rfl

/-- A derivation ends a notice: what stood or was raised stays where an entry sounds for it. -/
theorem demandsDerived_deriveHorn {p q : Part} {raised : Level → Prop}
    (hu : q.anu.urgent = true ↔ p.anu.urgent = true ∨ raised .urgent)
    (hr : q.anu.routine = true ↔ p.anu.routine = true ∨ raised .routine) (ht : q.anu.trip = p.anu.trip) :
    demandsDerived p (deriveHorn q) raised := by
  simp [demandsDerived, ← hu, ← hr, demandHeld_iff, ht]

/-- A change that raises nothing: a demand that no entry sounds for is cleared. -/
theorem demandsDerived_quietly {p q : Part} (h : q.anu = p.anu) {raised : Level → Prop} (hn : ∀ l, ¬raised l) :
    demandsDerived p (deriveHorn q) raised :=
  demandsDerived_deriveHorn (by simp [h, hn]) (by simp [h, hn]) (by rw [h])

theorem sounds_congr {p q : Part} (h : q.aru = p.aru) (l : Level) (e : Entry) : sounds q l e ↔ sounds p l e := by
  unfold sounds annunciated view
  rw [h]

theorem tagSounds_congr {p q : Part} (ha : q.atu = p.atu) (hr : q.aru = p.aru) (t : Tag) :
    tagSounds q t = tagSounds p t := by
  funext l
  simp [tagSounds, findEntry_congr ha, sounds_congr hr]

/-- A notice for the tag's entry `e` that raises the demand of its level exactly when `e` sounds. -/
theorem demandsDerived_notice {p q : Part} (h : q.anu = p.anu) {e : Entry} (f : findEntry q e.tag = some e) {b : Bool}
    (hb : b = true ↔ sounds q (levelOf e.priority) e) {u : Part}
    (hu : u = deriveHorn (if b then raiseDemand (levelOf e.priority) q else q)) :
    demandsDerived p u (tagSounds u e.tag) := by
  have hlevel : ∀ l, tagSounds u e.tag l ↔ b = true ∧ levelOf e.priority = l := fun l => by
    rw [tagSounds_congr (p := q) (by rw [hu]; cases b <;> simp) (by rw [hu]; cases b <;> simp), hb]
    constructor
    · rintro ⟨y, hy, hs⟩
      obtain rfl : e = y := by simpa [f] using hy
      exact ⟨hs.2.2.2 ▸ hs, hs.2.2.2⟩
    · rintro ⟨hs, rfl⟩
      exact ⟨e, f, hs⟩
  rw [funext fun l => propext (hlevel l), hu]
  apply demandsDerived_deriveHorn
  all_goals rw [← h]; cases b <;> cases levelOf e.priority <;> simp [raiseDemand]

/-! ## Shelf removal (R39) -/

/-- The entry that the removal of its shelf leaves, before the removal rule. -/
def unshelved (p : Part) (e : Entry) : Entry := { e with shelf := none, lastChange := now p }

@[simp] theorem unshelved_tag (p : Part) (e : Entry) : (unshelved p e).tag = e.tag := rfl

theorem removeShelf_atu (e : Entry) (p : Part) :
    (removeShelf e p).atu = (applyRemoval (unshelved p e).tag (putEntry (unshelved p e) p)).atu := by
  unfold removeShelf
  simp only
  split <;> simp [unshelved]

theorem findEntry_removeShelf (e : Entry) (p : Part) (t : Tag) :
    findEntry (removeShelf e p) t = if t = e.tag then unlessRemoved (unshelved p e) else findEntry p t := by
  rw [findEntry_congr (removeShelf_atu e p), findEntry_applyRemoval_putEntry, unshelved_tag]

theorem indicatorsFollow_removeShelf {p : Part} (h : TagsRise p.atu.table) {e y : Entry}
    (f : findEntry p e.tag = some y) : indicatorsFollow p (removeShelf e p) := by
  have := indicatorsFollow_applyRemoval (e := unshelved p e) h f
  rwa [indicatorsFollow, ← removeShelf_atu] at this

theorem removeShelf_eq (e : Entry) (p : Part) : removeShelf e p =
    if alerting (unshelved p e) && !(unshelved p e).quiet
    then noticeShelfRelease (unshelved p e) (applyRemoval e.tag (putEntry (unshelved p e) p))
    else deriveHorn (applyRemoval e.tag (putEntry (unshelved p e) p)) := rfl

/-- An entry that the removal rule takes away is not ALERTING. -/
theorem unlessRemoved_of_alerting {e : Entry} (h : entryState e = some .alerting) : unlessRemoved e = some e := by
  unfold unlessRemoved
  rw [if_neg]
  rintro ⟨hc, hk, hs⟩
  simp [entryState, hc, hk, hs] at h

theorem unlessRemoved_eq_some {e y : Entry} (h : unlessRemoved e = some y) : y = e := by
  unfold unlessRemoved at h
  split at h
  · cases h
  · exact (Option.some.inj h).symm

/-- The uncovered entry raises the demand of its level when it sounds (R39, R45). -/
theorem demandsDerived_removeShelf (e : Entry) (p : Part) :
    demandsDerived p (removeShelf e p) (tagSounds (removeShelf e p) e.tag) := by
  have hfind := findEntry_applyRemoval_putEntry (unshelved p e) p e.tag
  rw [unshelved_tag, if_pos rfl] at hfind
  rw [removeShelf_eq]
  by_cases ha : (alerting (unshelved p e) && !(unshelved p e).quiet) = true
  · obtain ⟨hstate, hquiet⟩ : entryState (unshelved p e) = some .alerting ∧ (unshelved p e).quiet = false := by
      simpa [alerting] using ha
    rw [unlessRemoved_of_alerting hstate] at hfind
    rw [if_pos ha]
    refine demandsDerived_notice (e := unshelved p e) (by simp) hfind ?_ rfl
    simp [sounds, hstate, hquiet]
  · rw [if_neg ha]
    refine demandsDerived_quietly (by simp) ?_
    rintro l ⟨y, hy, -, hstate, hquiet, -⟩
    obtain rfl := unlessRemoved_eq_some (hfind.symm.trans hy)
    exact ha (by simp [alerting, hstate, hquiet])

end Sys2Proof.Machine
end


section
/-! PROOFS. New occurrences and the full table: what an accrual, a stored occurrence and an eviction leave. -/

namespace Sys2Proof.Machine

/-! ## New occurrences (R13, R14, R63) -/

/-- LDM's step of a new occurrence: an accrual when the entry carries no shelf (R13). -/
def accrued (e : Entry) (p : Part) : Part := if e.shelf.isNone then accrue e.area e.priority p else p

/-- The entry of a new occurrence, its quiet flag decided after the accrual (R13, R14). -/
def decided (e : Entry) (p : Part) : Entry :=
  { e with quiet := decide (levelOf e.priority = .routine) && inFlood (accrued e p) e.area && !emergency p e.area }

@[simp] theorem decided_tag (e : Entry) (p : Part) : (decided e p).tag = e.tag := rfl

@[simp] theorem accrued_frame (e : Entry) (p : Part) :
    (accrued e p).stc = p.stc ∧ (accrued e p).lif = p.lif ∧ (accrued e p).atu = p.atu ∧ (accrued e p).anu = p.anu ∧
      (accrued e p).ssu = p.ssu ∧ (accrued e p).aru = p.aru ∧ (accrued e p).hou = p.hou := by
  unfold accrued; split <;> simp

theorem emergency_congr {p q : Part} (h : q.aru = p.aru) (a : Area) : emergency q a = emergency p a := by
  unfold emergency view; rw [h]

theorem newOccurrence_eq (e : Entry) (p : Part) :
    newOccurrence e p = noticeOccurrence (decided e p) (putEntry (decided e p) (accrued e p)) := by
  have h : emergency (accrued e p) e.area = emergency p e.area := emergency_congr (by simp) _
  unfold decided
  rw [← h]
  rfl

theorem newOccurrence_atu (e : Entry) (p : Part) : (newOccurrence e p).atu = (putEntry (decided e p) p).atu := by
  rw [newOccurrence_eq]; simp [putEntry]

theorem newOccurrence_ldm (e : Entry) (p : Part) : (newOccurrence e p).ldm = (accrued e p).ldm := by
  rw [newOccurrence_eq]; simp

theorem newOccurrence_cnp (e : Entry) (p : Part) : (newOccurrence e p).cnp = (accrued e p).cnp := by
  rw [newOccurrence_eq]; simp

theorem loadOf_congr {p q : Part} (h : q.ldm = p.ldm) (a : Area) : loadOf q a = loadOf p a := by rw [loadOf, h]; rfl

theorem inFlood_congr {p q : Part} (h : q.ldm = p.ldm) (a : Area) : inFlood q a = inFlood p a := by rw [inFlood, h]; rfl

theorem findEntry_newOccurrence (e : Entry) (p : Part) (t : Tag) : findEntry (newOccurrence e p) t = if t = e.tag
    then some { e with
      quiet := decide (levelOf e.priority = .routine) && inFlood (newOccurrence e p) e.area && !emergency p e.area }
    else findEntry p t := by
  rw [findEntry_congr (newOccurrence_atu e p), findEntry_putEntry, decided_tag, inFlood_congr (newOccurrence_ldm e p)]
  rfl

theorem loadOf_newOccurrence (e : Entry) (p : Part) (b : Area) : loadOf (newOccurrence e p) b = if b = e.area ∧ e.shelf = none
    then BitVec.ofNat 16 (min 65535 ((loadOf p b).toNat + weightOf p e.priority)) else loadOf p b := by
  rw [loadOf_congr (newOccurrence_ldm e p), accrued]
  cases h : e.shelf with
  | some x => simp
  | none =>
    simp only [Option.isNone_none, if_true, and_true, accrue, loadOf_setLoad]
    by_cases g : b = e.area <;> simp [g]

theorem floodRisen_congr {p q r : Part} (h : r.ldm = q.ldm) (a : Area) : floodRisen p r a ↔ floodRisen p q a := by
  rw [floodRisen, inFlood_congr h, loadOf_congr h]; rfl

theorem floodStored_congr {p q r : Part} (h : r.ldm = q.ldm) (a : Area) : floodStored p r a = floodStored p q a := by
  rw [floodStored, inFlood_congr h]; rfl

/-- A figure that stays keeps its area as the flood judgement's invariant has it. -/
theorem floodRisen_refl {p : Part} (h : FloodFine p) (a : Area) : floodRisen p p a := by
  have := h.2.1 a
  unfold floodRisen
  cases f : inFlood p a with
  | true => rfl
  | false => simpa [f] using this

@[simp] theorem floodStored_self (p : Part) (a : Area) : floodStored p p a = p.cnp := by
  unfold floodStored
  cases inFlood p a <;> simp

/-- The accrual of a new occurrence judges its area's flood state alone, and FLOOD-ON is the one event it can store (R64). -/
theorem newOccurrence_flood {p : Part} (h : FloodFine p) (e : Entry) :
    floodRisen p (newOccurrence e p) e.area ∧ (∀ b, b ≠ e.area → inFlood (newOccurrence e p) b = inFlood p b) ∧
      (newOccurrence e p).cnp = floodStored p (newOccurrence e p) e.area := by
  have hl := newOccurrence_ldm e p
  rw [floodRisen_congr hl, floodStored_congr hl, newOccurrence_cnp]
  simp only [inFlood_congr hl]
  unfold accrued
  split
  · have hn : (loadOf p e.area).toNat ≤ min 65535 ((loadOf p e.area).toNat + weightOf p e.priority) := by
      have := (loadOf p e.area).isLt; omega
    obtain ⟨hrisen, hcnp⟩ := setLoad_rising p e.area h hn
    exact ⟨hrisen, fun b hb => inFlood_setLoad_other p e.area b _ hb, hcnp⟩
  · exact ⟨floodRisen_refl h _, fun _ _ => rfl, by simp⟩

/-- The new occurrence's notice raises the demand of the entry's level when the entry sounds (R45). -/
theorem demandsDerived_newOccurrence (e : Entry) (p : Part) :
    demandsDerived p (newOccurrence e p) (tagSounds (newOccurrence e p) e.tag) := by
  refine demandsDerived_notice (e := decided e p) (q := putEntry (decided e p) (accrued e p)) (by simp) (by simp)
    (holdsDemand_iff _ _ _) ?_
  rw [newOccurrence_eq]; rfl

theorem demandsDerived_congr {p q u : Part} (h : q.anu = p.anu) {raised : Level → Prop} :
    demandsDerived q u raised ↔ demandsDerived p u raised := by
  unfold demandsDerived; rw [h]

theorem indicatorsFollow_putEntry {p u : Part} {e : Entry} (h : u.atu = (putEntry e p).atu)
    (hl : p.atu.table.length ≤ (putEntry e p).atu.table.length) : indicatorsFollow p u := by
  unfold indicatorsFollow
  rw [h, if_neg (by omega)]
  rfl

/-! ## A repeat and a CLEAR (R10, R11, R12) -/

theorem compareOccurrence_equal {n m : Occurrence} : compareOccurrence n m = .equal ↔ n = m := by
  unfold compareOccurrence
  (repeat' split)
  · next h => exact ⟨fun _ => by simpa [BitVec.sub_eq_iff_eq_add] using h, fun _ => rfl⟩
  · next h _ => exact ⟨nofun, fun g => absurd (by simp [g]) h⟩
  · next h _ => exact ⟨nofun, fun g => absurd (by simp [g]) h⟩

end Sys2Proof.Machine
end


section
/-! PROOFS. What keeps the alarm table as the manual has it (R6, R12, R14, R15): one lemma for each operation on the table. -/

namespace Sys2Proof.Machine

/-! ## Putting and removing entries -/

theorem tableFine_congr {p q : Part} (h : q.atu = p.atu) : TableFine q ↔ TableFine p := by
  unfold TableFine; rw [h]

theorem tableFine_keepEntries {p : Part} (h : TableFine p) (f : Entry → Bool) : TableFine (keepEntries f p) := by
  obtain ⟨hl, hr, he⟩ := h
  refine ⟨(List.length_filter_le ..).trans hl, filter_tagsRise hr, fun e m => he e ?_⟩
  exact List.mem_of_mem_filter m

/-- There is room for `e`: its tag has an entry, or the table holds fewer than 512. -/
def roomFor (e : Entry) (p : Part) : Prop := (∃ y, findEntry p e.tag = some y) ∨ p.atu.table.length < 512

theorem insertEntry_length_of_room {p : Part} (h : TableFine p) {e : Entry} (hroom : roomFor e p) :
    (insertEntry e p.atu.table).length ≤ 512 := by
  rcases hroom with ⟨y, hy⟩ | hlt
  · exact (putEntry_length_of_found h.2.1 hy).trans_le h.1
  · exact (insertEntry_length ..).trans hlt

theorem tableFine_putEntry {p : Part} (h : TableFine p) {e : Entry} (he : EntryFine e) (hroom : roomFor e p) :
    TableFine (putEntry e p) := by
  refine ⟨insertEntry_length_of_room h hroom, insertEntry_tagsRise h.2.1, fun y m => ?_⟩
  rcases insertEntry_mem m with rfl | m
  · exact he
  · exact h.2.2 y m

/-- An entry put and judged by the removal rule need only be fine when it stays. -/
theorem tableFine_applyRemoval {p : Part} (h : TableFine p) {e : Entry}
    (he : ¬(e.active = false ∧ e.acknowledged = true ∧ e.shelf = none) → EntryFine e) (hroom : roomFor e p) :
    TableFine (applyRemoval e.tag (putEntry e p)) := by
  rw [applyRemoval_putEntry]
  split
  · refine ⟨(List.length_filter_le ..).trans (insertEntry_length_of_room h hroom),
      filter_tagsRise (insertEntry_tagsRise h.2.1), fun y m => ?_⟩
    obtain ⟨m, htag⟩ := List.mem_filter.1 m
    rcases insertEntry_mem m with rfl | m
    · simp at htag
    · exact h.2.2 y m
  · next hstays => exact tableFine_putEntry h (he hstays) hroom

theorem entryFine_of_find {p : Part} (h : TableFine p) {t : Tag} {e : Entry} (f : findEntry p t = some e) : EntryFine e :=
  h.2.2 e (findEntry_mem f)

theorem roomFor_of_find {p : Part} {t : Tag} {e y : Entry} (f : findEntry p t = some y) (ht : e.tag = y.tag) : roomFor e p :=
  .inl ⟨y, by rw [ht, findEntry_tag f]; exact f⟩

/-- What the manual says of an entry's flags and acknowledging credential (R6, R14). -/
def FlagsFine (e : Entry) : Prop :=
  (levelOf e.priority = .urgent → e.quiet = false) ∧ (e.acknowledged = true → e.quiet = false) ∧
    (e.ackCredential.isSome = true → e.acknowledged = true)

theorem EntryFine.flags {e : Entry} (h : EntryFine e) : FlagsFine e := ⟨h.2.2.1, h.2.2.2.1, h.2.2.2.2.1⟩

/-- An entry not acknowledged and without a shelf is fine when it is not quiet at urgent priority. -/
theorem entryFine_of_unacknowledged {e : Entry} (hk : e.acknowledged = false) (hc : e.ackCredential = none)
    (hq : levelOf e.priority = .urgent → e.quiet = false) (hs : e.priority = .p1 → e.shelf = none)
    (hx : ∀ x, e.shelf = some x → 1 ≤ x.seconds ∧ x.seconds ≤ 28800) : EntryFine e :=
  ⟨fun _ g => by simp [hk] at g, hs, hq, fun g => by simp [hk] at g, fun g => by simp [hc] at g, hx⟩

/-! ## The operations on an entry (R10 to R13, R27, R33, R39) -/

theorem tableFine_removeShelf {p : Part} (h : TableFine p) {e : Entry} (he : FlagsFine e) (hroom : roomFor e p) :
    TableFine (removeShelf e p) := by
  rw [tableFine_congr (removeShelf_atu e p)]
  obtain ⟨hu, hk, hc⟩ := he
  exact tableFine_applyRemoval h (fun g => ⟨fun _ c => g ⟨c.1, c.2, rfl⟩, fun _ => rfl, hu, hk, hc, nofun⟩) hroom

theorem tableFine_newOccurrence {p : Part} (h : TableFine p) {e : Entry} (hk : e.acknowledged = false)
    (hc : e.ackCredential = none) (hs : e.priority = .p1 → e.shelf = none)
    (hx : ∀ x, e.shelf = some x → 1 ≤ x.seconds ∧ x.seconds ≤ 28800) (hroom : roomFor e p) :
    TableFine (newOccurrence e p) := by
  rw [tableFine_congr (newOccurrence_atu e p)]
  refine tableFine_putEntry h (entryFine_of_unacknowledged hk hc (fun hu => ?_) hs hx) hroom
  have hu : levelOf e.priority = .urgent := hu
  simp [decided, hu]

theorem tableFine_renew {p : Part} (h : TableFine p) {t : Tag} {e : Entry} (f : findEntry p t = some e) (x : Priority)
    (active : Bool) (n : Occurrence) : TableFine (newOccurrence (renewEntry p e x active n) p) := by
  refine tableFine_newOccurrence h rfl rfl (fun hp => if_pos hp) (fun y hy => ?_)
    (roomFor_of_find f rfl)
  change (if x = .p1 then none else e.shelf) = some y at hy
  split at hy
  · cases hy
  · exact (entryFine_of_find h f).2.2.2.2.2 y hy

/-- The entry of a repeat (R10, R12, R14). -/
def repeated (e : Entry) (x : Priority) (p : Part) : Entry :=
  { e with
    priority := x, quiet := if levelOf x = .urgent then false else e.quiet,
    lastChange := if x = e.priority then e.lastChange else now p }

@[simp] theorem repeated_tag (e : Entry) (x : Priority) (p : Part) : (repeated e x p).tag = e.tag := rfl

theorem repeatActive_eq (e : Entry) (x : Priority) (p : Part) : repeatActive e x p =
    if x = .p1 ∧ e.shelf.isSome = true then removeShelf (repeated e x p) p
    else if repeated e x p = e then p else deriveHorn (putEntry (repeated e x p) p) := rfl

theorem flagsFine_repeated {e : Entry} (h : FlagsFine e) (x : Priority) (p : Part) : FlagsFine (repeated e x p) := by
  obtain ⟨-, hk, hc⟩ := h
  refine ⟨fun g => if_pos g, fun g => ?_, hc⟩
  simp only [repeated]
  split
  · rfl
  · exact hk g

theorem tableFine_repeatActive {p : Part} (h : TableFine p) {t : Tag} {e : Entry} (f : findEntry p t = some e)
    (x : Priority) : TableFine (repeatActive e x p) := by
  have he := entryFine_of_find h f
  have hroom : roomFor (repeated e x p) p := roomFor_of_find f rfl
  rw [repeatActive_eq]
  split
  · exact tableFine_removeShelf h (flagsFine_repeated he.flags x p) hroom
  · next hshelf =>
    split
    · exact h
    · obtain ⟨hu, hk, hc⟩ := flagsFine_repeated he.flags x p
      rw [tableFine_congr (q := deriveHorn _) rfl]
      refine tableFine_putEntry h ⟨he.1, fun hp => ?_, hu, hk, hc, he.2.2.2.2.2⟩ hroom
      cases g : e.shelf with
      | none => exact g
      | some y => exact absurd ⟨hp, by simp [g]⟩ hshelf

theorem tableFine_clearEqual {p : Part} (h : TableFine p) {t : Tag} {e : Entry} (f : findEntry p t = some e) :
    TableFine (clearEqual e p) := by
  have he := entryFine_of_find h f
  unfold clearEqual
  split
  · rw [tableFine_congr (q := deriveHorn _) rfl]
    exact tableFine_applyRemoval (e := { e with active := false, lastChange := now p }) h
      (fun g => ⟨fun hs c => g ⟨c.1, c.2, hs⟩, he.2⟩) (roomFor_of_find f rfl)
  · exact h

theorem tableFine_applyAcknowledge {p : Part} (h : TableFine p) (t : Tag) (n : Occurrence) (c : Credential) :
    TableFine (applyAcknowledge t n c p) := by
  unfold applyAcknowledge
  split
  · exact h
  · split
    · split
      · exact h
      · next e f =>
        have he := entryFine_of_find h f
        have ht := findEntry_tag f
        split
        · split
          · exact h
          · rw [tableFine_congr (q := deriveHorn _) rfl, ← ht]
            exact tableFine_applyRemoval h
              (fun g => ⟨fun hs k => g ⟨k.1, k.2, hs⟩, he.2.1, fun _ => rfl, fun _ => rfl, fun _ => rfl, he.2.2.2.2.2⟩)
              (roomFor_of_find f rfl)
        · exact h
    · exact h

theorem clampShelf_range (s : Word16) : 1 ≤ clampShelf s ∧ clampShelf s ≤ 28800 := by
  unfold clampShelf Config.shelfMax Config.shelfMin
  omega

theorem tableFine_applyShelve {p : Part} (h : TableFine p) (t : Tag) (s : Word16) (c : Credential) (x : StationNo) :
    TableFine (applyShelve t s c x p) := by
  unfold applyShelve
  split
  · exact h
  · split
    · split
      · exact h
      · next e f =>
        obtain ⟨-, -, hu, hk, hc, -⟩ := entryFine_of_find h f
        split
        · exact h
        · next hplain =>
          rw [tableFine_congr (q := deriveHorn _) rfl]
          refine tableFine_putEntry h ⟨nofun, fun hp => absurd (.inl hp) hplain, hu, hk, hc, fun y hy => ?_⟩
            (roomFor_of_find f rfl)
          obtain rfl := Option.some.inj hy
          exact clampShelf_range s
    · exact h

theorem tableFine_applyUnshelve {p : Part} (h : TableFine p) (t : Tag) : TableFine (applyUnshelve t p) := by
  unfold applyUnshelve
  split
  · exact h
  · split
    · split
      · exact h
      · next e f =>
        split
        · exact tableFine_removeShelf h (entryFine_of_find h f).flags (roomFor_of_find f rfl)
        · exact h
    · exact h

theorem tableFine_expireShelf {p : Part} (h : TableFine p) {t : Tag} {e : Entry} (f : findEntry p t = some e) :
    TableFine (expireShelf e p) :=
  tableFine_removeShelf (p := produce _ p) h (entryFine_of_find h f).flags (roomFor_of_find (p := produce _ p) f rfl)

/-! ## Storing a new entry (R16, R17) -/

/-- Entry `x` has been evicted: removed, with TABLE-OVERFLOW (R16). -/
def evicted (x : Entry) (p : Part) : Part := reportOverflow x.area x.tag .evicted (deriveHorn (removeEntry x.tag p))

/-- What the storing of a new entry can do: room, an eviction, or no storing (R16, R17). -/
theorem storeNew_cases (e : Entry) (p : Part) :
    (p.atu.table.length < 512 ∧ storeNew e p = (true, putEntry e p)) ∨
    (512 ≤ p.atu.table.length ∧ ∃ x, levelOf e.priority = .urgent ∧ evictionCandidate p.atu.table = some x ∧
      storeNew e p = (true, putEntry e (evicted x p))) ∨
    (512 ≤ p.atu.table.length ∧ (levelOf e.priority = .routine ∨ evictionCandidate p.atu.table = none) ∧
      storeNew e p = (false, reportOverflow e.area e.tag .notStored p)) := by
  unfold storeNew Config.tableCapacity
  by_cases hroom : p.atu.table.length < 512
  · exact .inl ⟨hroom, if_pos hroom⟩
  · rw [if_neg hroom]
    refine .inr ?_
    cases hl : levelOf e.priority with
    | routine => exact .inr ⟨Nat.le_of_not_lt hroom, .inl rfl, rfl⟩
    | urgent =>
      cases hx : evictionCandidate p.atu.table with
      | none => exact .inr ⟨Nat.le_of_not_lt hroom, .inr rfl, rfl⟩
      | some x => exact .inl ⟨Nat.le_of_not_lt hroom, x, rfl, rfl, rfl⟩

theorem evictionCandidate_mem {l : List Entry} {x : Entry} (h : evictionCandidate l = some x) : x ∈ l := by
  induction l generalizing x with
  | nil => cases h
  | cons e es ih =>
    unfold evictionCandidate at h
    split at h
    · cases hc : evictionCandidate es with
      | none => simp [hc] at h; simp [h]
      | some y =>
        have hy := ih hc
        simp only [hc] at h
        split at h
        · simp [Option.some.inj h]
        · exact List.mem_cons_of_mem _ (Option.some.inj h ▸ hy)
    · exact List.mem_cons_of_mem _ (ih h)

theorem evicted_table (x : Entry) (p : Part) : (evicted x p).atu.table = (removeEntry x.tag p).atu.table := rfl

theorem tableFine_evicted {p : Part} (h : TableFine p) (x : Entry) : TableFine (evicted x p) := by
  unfold TableFine
  rw [evicted_table]
  exact tableFine_keepEntries h _

theorem evicted_length {p : Part} (h : TableFine p) {x : Entry} (m : x ∈ p.atu.table) :
    (evicted x p).atu.table.length < 512 := by
  rw [evicted_table]
  have := removeEntry_length h.2.1 m
  have := h.1
  omega

/-- A new entry is stored in a table that has room for it, left fine, or not at all. -/
theorem tableFine_storeNew_cases {p : Part} (h : TableFine p) (e : Entry) :
    (∃ q, storeNew e p = (true, putEntry e q) ∧ TableFine q ∧ roomFor e q) ∨
    storeNew e p = (false, reportOverflow e.area e.tag .notStored p) := by
  rcases storeNew_cases e p with ⟨hlt, hs⟩ | ⟨-, x, -, hx, hs⟩ | ⟨-, -, hs⟩
  · exact .inl ⟨p, hs, h, .inr hlt⟩
  · exact .inl ⟨_, hs, tableFine_evicted h x, .inr (evicted_length h (evictionCandidate_mem hx))⟩
  · exact .inr hs

theorem tableFine_storeOccurrence {p : Part} (h : TableFine p) {e : Entry} (hk : e.acknowledged = false)
    (hc : e.ackCredential = none) (hs : e.shelf = none) (hq : e.quiet = false) : TableFine (storeOccurrence e p) := by
  unfold storeOccurrence
  rcases tableFine_storeNew_cases h e with ⟨q, hstore, hfine, hroom⟩ | hstore
  · rw [hstore]
    have hput : TableFine (putEntry e q) :=
      tableFine_putEntry hfine (entryFine_of_unacknowledged hk hc (fun _ => hq) (fun _ => hs) (by simp [hs])) hroom
    exact tableFine_newOccurrence hput hk hc (fun _ => hs) (by simp [hs]) (.inl ⟨e, by simp⟩)
  · rw [hstore]
    exact h

theorem tableFine_applyCondition {p : Part} (h : TableFine p) (t : Tag) (x : Priority) (active : Bool) (n : Occurrence) :
    TableFine (applyCondition t x active n p) := by
  unfold applyCondition
  split
  · exact h
  · split
    · split
      · exact tableFine_storeOccurrence h rfl rfl rfl rfl
      · next e f =>
        split
        · exact tableFine_renew h f x active n
        · exact h
        · split
          · exact tableFine_repeatActive h f x
          · exact tableFine_clearEqual h f
    · exact h

/-! ## The emergency flush (R40) -/

/-- A change of every entry that keeps its tag and leaves it fine keeps the table. -/
theorem tableFine_map {p q : Part} (h : TableFine p) (f : Entry → Entry) (hq : q.atu.table = p.atu.table.map f)
    (ht : ∀ e, (f e).tag = e.tag) (hf : ∀ e ∈ p.atu.table, EntryFine e → EntryFine (f e)) : TableFine q := by
  obtain ⟨hl, hr, he⟩ := h
  unfold TableFine
  rw [hq]
  refine ⟨by simpa using hl, ?_, ?_⟩
  · generalize p.atu.table = l at hr
    induction l with
    | nil => trivial
    | cons y ys ih =>
      obtain ⟨hy, hs⟩ := hr
      refine ⟨fun z m => ?_, ih hs⟩
      obtain ⟨w, hw, rfl⟩ := List.mem_map.1 m
      rw [ht, ht]
      exact hy w hw
  · intro z m
    obtain ⟨w, hw, rfl⟩ := List.mem_map.1 m
    exact hf w hw (he w hw)

theorem tableFine_clearQuiet {p : Part} (h : TableFine p) (a : Area) : TableFine (clearQuiet a p) := by
  refine tableFine_map h (fun e => if e.area = a then { e with quiet := false } else e) rfl
    (fun e => by split <;> rfl) fun e _ he => ?_
  split
  · exact ⟨he.1, he.2.1, fun _ => rfl, fun _ => rfl, he.2.2.2.2⟩
  · exact he

theorem tableFine_removeShelfOf {p : Part} (h : TableFine p) (t : Tag) : TableFine (removeShelfOf p t) := by
  unfold removeShelfOf
  split
  · next e f =>
    split
    · exact tableFine_removeShelf h (entryFine_of_find h f).flags (roomFor_of_find f rfl)
    · exact h
  · exact h

/-- What each step of a fold keeps, the fold keeps. -/
theorem foldl_keeps {α : Type} {P : Part → Prop} {f : Part → α → Part} (hf : ∀ q x, P q → P (f q x)) {p : Part} (h : P p)
    (l : List α) : P (l.foldl f p) := by
  induction l generalizing p with
  | nil => exact h
  | cons x xs ih => exact ih (hf p x h)

theorem tableFine_flushArea {p : Part} (h : TableFine p) (a : Area) : TableFine (flushArea a p) := by
  have hq := tableFine_clearQuiet h a
  unfold flushArea
  simp only
  split
  · exact hq
  · exact foldl_keeps (P := TableFine) (fun _ t g => tableFine_removeShelfOf g t) hq _

/-! ## Digest summaries (R42, R124, R136) -/

theorem summaryShelf_range {p : Part} {a : Area} {y : Priority} {s : StationNo} {d : Summary} {x : Shelf}
    (h : summaryShelf p a y s d = some x) : y ≠ .p1 ∧ 1 ≤ x.seconds ∧ x.seconds ≤ 28800 := by
  unfold summaryShelf Config.shelfMax at h
  split at h
  · cases h
  · next g =>
    obtain rfl := Option.some.inj h
    simp only [not_or] at g
    have hpos : d.shelfSeconds.toNat ≠ 0 := fun c => g.1 (BitVec.eq_of_toNat_eq c)
    exact ⟨g.2.1, by simp only; omega, by simp only; omega⟩

/-- An entry with the fields of a summary is fine, unless the removal rule takes it. -/
theorem entryFine_summaryEntry {p : Part} {a : Area} {s : StationNo} {d : Summary} {t : Tag}
    (h : ¬(d.active = false ∧ d.acknowledged = true ∧ summaryShelf p a d.priority s d = none)) :
    EntryFine { summaryEntry p a s d with tag := t } := by
  refine ⟨fun hs c => h ⟨c.1, c.2, hs⟩, fun hp => ?_, fun _ => rfl, fun _ => rfl, nofun,
    fun x hx => (summaryShelf_range hx).2⟩
  cases g : summaryShelf p a d.priority s d with
  | none => exact g
  | some x => exact absurd hp (summaryShelf_range g).1

theorem entryFine_mergeEqual {p : Part} {s : StationNo} {d : Summary} {e : Entry} (he : EntryFine e)
    (h : ¬((mergeEqual p s d e).active = false ∧ (mergeEqual p s d e).acknowledged = true ∧
      (mergeEqual p s d e).shelf = none)) : EntryFine (mergeEqual p s d e) := by
  obtain ⟨-, hp, hu, hk, hc, hs⟩ := he
  have hshelf : ∀ x, (mergeEqual p s d e).shelf = some x →
      e.shelf = some x ∨ summaryShelf p e.area e.priority s d = some x := fun x hx => by
    simp only [mergeEqual] at hx
    split at hx
    · exact .inl hx
    · exact .inr hx
  refine ⟨fun g c => h ⟨c.1, c.2, g⟩, fun g => ?_, fun g => ?_, fun g => ?_, fun g => ?_, fun x hx => ?_⟩
  · cases hx : (mergeEqual p s d e).shelf with
    | none => rfl
    | some x =>
      rcases hshelf x hx with hx | hx
      · rw [hp g] at hx; cases hx
      · exact absurd g (summaryShelf_range hx).1
  · simp only [mergeEqual]
    split
    · rfl
    · exact hu g
  · simp only [mergeEqual] at g ⊢
    cases hek : e.acknowledged with
    | true => simpa [hek] using hk hek
    | false => simp_all
  · simp only [mergeEqual, Bool.or_eq_true]
    exact .inl (hc g)
  · rcases hshelf x hx with hx | hx
    · exact hs x hx
    · exact (summaryShelf_range hx).2

theorem entryFine_replaceEqual {p : Part} {s : StationNo} {d : Summary} {e : Entry} (he : EntryFine e)
    (h : ¬((replaceEqual p s d e).active = false ∧ (replaceEqual p s d e).acknowledged = true ∧
      (replaceEqual p s d e).shelf = none)) : EntryFine (replaceEqual p s d e) := by
  have hk := he.flags.2.1
  have hquiet : (replaceEqual p s d e).quiet = false := by
    cases hek : e.acknowledged with
    | true => simp [replaceEqual, hk hek]
    | false => simp [replaceEqual, hek]
  refine ⟨fun g c => h ⟨c.1, c.2, g⟩, fun g => ?_, fun _ => hquiet, fun _ => hquiet, fun g => ?_,
    fun x hx => (summaryShelf_range hx).2⟩
  · cases hx : (replaceEqual p s d e).shelf with
    | none => rfl
    | some x => exact absurd g (summaryShelf_range hx).1
  · by_contra hn
    have hd : d.acknowledged = false := by simpa [replaceEqual] using hn
    simp [replaceEqual, hd] at g

theorem tableFine_storeNew_removal {p : Part} (h : TableFine p) {a : Area} {s : StationNo} {d : Summary} :
    TableFine (if (storeNew (summaryEntry p a s d) p).1 then applyRemoval d.tag (storeNew (summaryEntry p a s d) p).2
      else (storeNew (summaryEntry p a s d) p).2) := by
  rcases tableFine_storeNew_cases h (summaryEntry p a s d) with ⟨q, hstore, hfine, hroom⟩ | hstore
  · rw [hstore]
    exact tableFine_applyRemoval hfine (fun g => entryFine_summaryEntry (t := d.tag) g) hroom
  · rw [hstore]
    exact h

theorem tableFine_mergeSummary {p : Part} (h : TableFine p) (a : Area) (s : StationNo) (d : Summary) :
    TableFine (mergeSummary a s p d) := by
  unfold mergeSummary
  split
  · split
    · have := tableFine_storeNew_removal h (a := a) (s := s) (d := d)
      unfold storeSummary
      simp only
      split
      · next hst => rw [if_pos hst] at this; exact this
      · next hst => rw [if_neg hst] at this; exact this
    · next e f =>
      have ht := findEntry_tag f
      split
      · exact h
      · split
        · exact h
        · rw [tableFine_congr (q := deriveHorn _) rfl, ← ht]
          exact tableFine_applyRemoval h (fun g => entryFine_mergeEqual (entryFine_of_find h f) g) (roomFor_of_find f rfl)
      · rw [tableFine_congr (q := deriveHorn _) rfl, ← ht]
        exact tableFine_applyRemoval h (fun g => entryFine_summaryEntry g) (roomFor_of_find f rfl)
  · exact h

theorem tableFine_replaceSummary {p : Part} (h : TableFine p) (a : Area) (s : StationNo) (d : Summary) :
    TableFine (replaceSummary a s p d) := by
  unfold replaceSummary
  split
  · split
    · exact tableFine_storeNew_removal h
    · next e f =>
      have ht := findEntry_tag f
      split
      · rw [← ht]
        exact tableFine_applyRemoval h (fun g => entryFine_replaceEqual (entryFine_of_find h f) g) (roomFor_of_find f rfl)
      · rw [← ht]
        exact tableFine_applyRemoval h (fun g => entryFine_summaryEntry g) (roomFor_of_find f rfl)
  · exact h

theorem tableFine_replaceArea {p : Part} (h : TableFine p) (a : Area) (s : StationNo) (ds : List Summary) :
    TableFine (replaceArea a s ds p) :=
  foldl_keeps (P := TableFine) (fun _ d g => tableFine_replaceSummary g a s d) (tableFine_keepEntries h _) ds

theorem tableFine_purgeUnfollowed {p : Part} (h : TableFine p) : TableFine (purgeUnfollowed p) := by
  have := tableFine_keepEntries h fun e => followed p e.area
  exact this

end Sys2Proof.Machine
end


section
/-! PROOFS. What keeps the table and the meter within a set of areas (R3, R5, R6, R67): the set is the follow set while it stands,
and every area while a change is being completed. One lemma for each operation of ATU and LDM. -/

namespace Sys2Proof.Machine

/-- Every entry's area is the one its tag is mapped to and lies in the set; an area outside the set is at rest. -/
def Bounded (g : Area → Bool) (p : Part) : Prop :=
  (∀ e ∈ p.atu.table, tagArea p e.tag = some e.area ∧ g e.area = true) ∧
    ∀ a, g a = false → AreaSet.has p.atu.overflow a = false ∧ loadOf p a = 0 ∧ inFlood p a = false

variable {g : Area → Bool} {p q : Part}

theorem tagArea_congr (h : q.stc = p.stc) (t : Tag) : tagArea q t = tagArea p t := by unfold tagArea; rw [h]

theorem bounded_congr_settings (hs : q.stc.settings = p.stc.settings) (ha : q.atu = p.atu) (hl : q.ldm = p.ldm) :
    Bounded g q ↔ Bounded g p := by
  unfold Bounded tagArea
  simp only [hs, ha, loadOf_congr hl, inFlood_congr hl]

theorem bounded_congr (hs : q.stc = p.stc) (ha : q.atu = p.atu) (hl : q.ldm = p.ldm) : Bounded g q ↔ Bounded g p :=
  bounded_congr_settings (by rw [hs]) ha hl

/-- A larger set bounds too. -/
theorem Bounded.mono {g' : Area → Bool} (h : Bounded g p) (hg : ∀ a, g a = true → g' a = true) : Bounded g' p := by
  refine ⟨fun e m => ⟨(h.1 e m).1, hg _ (h.1 e m).2⟩, fun a ha => h.2 a ?_⟩
  cases c : g a with
  | false => rfl
  | true => rw [hg a c] at ha; cases ha

/-! ## The operations of the table and the meter -/

theorem bounded_putEntry (h : Bounded g p) {e : Entry} (ht : tagArea p e.tag = some e.area) (ha : g e.area = true) :
    Bounded g (putEntry e p) := by
  refine ⟨fun y m => ?_, h.2⟩
  rcases insertEntry_mem m with rfl | m
  · exact ⟨ht, ha⟩
  · exact h.1 y m

/-- An entry put in the place of one of the table's, with its tag and area. -/
theorem bounded_change (h : Bounded g p) {e y : Entry} {t : Tag} (f : findEntry p t = some y) (ht : e.tag = y.tag)
    (ha : e.area = y.area) : Bounded g (putEntry e p) := by
  obtain ⟨hy, hg⟩ := h.1 y (findEntry_mem f)
  exact bounded_putEntry h (by rw [ht, ha]; exact hy) (by rw [ha]; exact hg)

theorem bounded_keepEntries (h : Bounded g p) (f : Entry → Bool) : Bounded g (keepEntries f p) := by
  refine ⟨fun e m => h.1 e (List.mem_of_mem_filter m), fun a ha => ⟨?_, (h.2 a ha).2⟩⟩
  change AreaSet.has (if _ then 0 else p.atu.overflow) a = false
  split
  · simp
  · exact (h.2 a ha).1

theorem bounded_applyRemoval (h : Bounded g p) (t : Tag) : Bounded g (applyRemoval t p) := by
  unfold applyRemoval
  (repeat' split)
  · exact bounded_keepEntries h _
  · exact h
  · exact h

theorem bounded_deriveHorn : Bounded g (deriveHorn p) ↔ Bounded g p := bounded_congr rfl rfl rfl

theorem bounded_reportOverflow (h : Bounded g p) {a : Area} (ha : g a = true) (t : Tag) (r : Reason) :
    Bounded g (reportOverflow a t r p) := by
  refine ⟨h.1, fun b hb => ⟨?_, (h.2 b hb).2⟩⟩
  have hne : b ≠ a := fun c => by rw [c, ha] at hb; cases hb
  have := (h.2 b hb).1
  change AreaSet.has (p.atu.overflow ||| AreaSet.single a) b = false
  simp [this, has_single, hne]

theorem bounded_setLoad (h : Bounded g p) {a : Area} (ha : g a = true) (n : Nat) : Bounded g (setLoad a n p) := by
  refine ⟨fun e m => ?_, fun b hb => ?_⟩
  · rw [(setLoad_frame p a n).2.2.1] at m
    rw [tagArea_congr (setLoad_frame p a n).1]
    exact h.1 e m
  · have hne : b ≠ a := fun c => by rw [c, ha] at hb; cases hb
    rw [(setLoad_frame p a n).2.2.1, loadOf_setLoad, if_neg hne, inFlood_setLoad_other p a b n hne]
    exact h.2 b hb

theorem bounded_accrued (h : Bounded g p) {e : Entry} (ha : g e.area = true) : Bounded g (accrued e p) := by
  unfold accrued
  split
  · exact bounded_setLoad h ha _
  · exact h

/-! ## The operations on an entry -/

theorem bounded_newOccurrence (h : Bounded g p) {e : Entry} (ht : tagArea p e.tag = some e.area) (ha : g e.area = true) :
    Bounded g (newOccurrence e p) := by
  have hput : Bounded g (putEntry (decided e p) (accrued e p)) :=
    bounded_putEntry (bounded_accrued h ha) (by rw [tagArea_congr (accrued_frame e p).1]; exact ht) ha
  rw [newOccurrence_eq]
  exact (bounded_congr (by simp) (by simp) (by simp)).2 hput

theorem bounded_removeShelf (h : Bounded g p) {e y : Entry} {t : Tag} (f : findEntry p t = some y) (ht : e.tag = y.tag)
    (ha : e.area = y.area) : Bounded g (removeShelf e p) := by
  have := bounded_applyRemoval (bounded_change (e := unshelved p e) h f ht ha) e.tag
  rw [removeShelf_eq]
  split
  · exact (bounded_congr (by simp) (by simp) (by simp)).2 this
  · exact this

theorem bounded_repeatActive (h : Bounded g p) {e : Entry} {t : Tag} (f : findEntry p t = some e) (x : Priority) :
    Bounded g (repeatActive e x p) := by
  rw [repeatActive_eq]
  (repeat' split)
  · exact bounded_removeShelf h f rfl rfl
  · exact h
  · exact bounded_deriveHorn.2 (bounded_change h f rfl rfl)

theorem bounded_clearEqual (h : Bounded g p) {e : Entry} {t : Tag} (f : findEntry p t = some e) :
    Bounded g (clearEqual e p) := by
  unfold clearEqual
  split
  · exact bounded_deriveHorn.2 (bounded_applyRemoval (bounded_change h f (by rfl) (by rfl)) _)
  · exact h

theorem bounded_storeNew (h : Bounded g p) {e : Entry} (ht : tagArea p e.tag = some e.area) (ha : g e.area = true) :
    Bounded g (storeNew e p).2 := by
  rcases storeNew_cases e p with ⟨-, hs⟩ | ⟨-, x, -, hx, hs⟩ | ⟨-, -, hs⟩
  all_goals rw [hs]
  · exact bounded_putEntry h ht ha
  · have hkeep : Bounded g (deriveHorn (removeEntry x.tag p)) := bounded_deriveHorn.2 (bounded_keepEntries h _)
    exact bounded_putEntry (bounded_reportOverflow hkeep (h.1 x (evictionCandidate_mem hx)).2 _ _) ht ha
  · exact bounded_reportOverflow h ha _ _

theorem bounded_storeOccurrence (h : Bounded g p) {e : Entry} (ht : tagArea p e.tag = some e.area) (ha : g e.area = true) :
    Bounded g (storeOccurrence e p) := by
  have hs := bounded_storeNew h ht ha
  unfold storeOccurrence
  simp only
  split
  · exact bounded_newOccurrence hs (by rw [tagArea_congr (storeNew_frame p e).1]; exact ht) ha
  · exact hs

/-! ## The telegrams (R9, R27, R33, R34) -/

theorem bounded_applyCondition (h : Bounded g p) (hg : ∀ a, followed p a = true → g a = true) (t : Tag) (x : Priority)
    (active : Bool) (n : Occurrence) : Bounded g (applyCondition t x active n p) := by
  unfold applyCondition
  split
  · exact h
  · next a hmap =>
    split
    · next hfollow =>
      split
      · exact bounded_storeOccurrence h hmap (hg a hfollow)
      · next e f =>
        obtain ⟨he, hge⟩ := h.1 e (findEntry_mem f)
        split
        · exact bounded_newOccurrence h he hge
        · exact h
        · split
          · exact bounded_repeatActive h f x
          · exact bounded_clearEqual h f
    · exact h

theorem bounded_applyAcknowledge (h : Bounded g p) (t : Tag) (n : Occurrence) (c : Credential) :
    Bounded g (applyAcknowledge t n c p) := by
  unfold applyAcknowledge
  split
  · exact h
  · split
    · split
      · exact h
      · next e f =>
        split
        · split
          · exact h
          · exact bounded_deriveHorn.2 (bounded_applyRemoval (bounded_change h f (by rfl) (by rfl)) t)
        · exact h
    · exact h

theorem bounded_applyShelve (h : Bounded g p) (t : Tag) (s : Word16) (c : Credential) (x : StationNo) :
    Bounded g (applyShelve t s c x p) := by
  unfold applyShelve
  split
  · exact h
  · split
    · split
      · exact h
      · next e f =>
        split
        · exact h
        · exact bounded_deriveHorn.2 (bounded_change h f rfl rfl)
    · exact h

theorem bounded_applyUnshelve (h : Bounded g p) (t : Tag) : Bounded g (applyUnshelve t p) := by
  unfold applyUnshelve
  split
  · exact h
  · split
    · split
      · exact h
      · next e f =>
        split
        · exact bounded_removeShelf h f rfl rfl
        · exact h
    · exact h

theorem bounded_expireShelf (h : Bounded g p) {e : Entry} {t : Tag} (f : findEntry p t = some e) :
    Bounded g (expireShelf e p) :=
  bounded_removeShelf (p := produce _ p) h f rfl rfl

theorem bounded_decayArea (h : Bounded g p) (a : Area) : Bounded g (decayArea p a) := by
  unfold decayArea
  simp only
  split
  · exact h
  · next hn =>
    cases ha : g a with
    | true => exact bounded_setLoad h ha _
    | false => exact absurd (by simp [(h.2 a ha).2.1]) hn

/-! ## The emergency flush (R40) -/

theorem bounded_clearQuiet (h : Bounded g p) (a : Area) : Bounded g (clearQuiet a p) := by
  refine ⟨fun e m => ?_, h.2⟩
  obtain ⟨y, hy, rfl⟩ := List.mem_map.1 m
  have := h.1 y hy
  split <;> exact this

theorem bounded_removeShelfOf (h : Bounded g p) (t : Tag) : Bounded g (removeShelfOf p t) := by
  unfold removeShelfOf
  split
  · next e f =>
    split
    · exact bounded_removeShelf h f rfl rfl
    · exact h
  · exact h

theorem bounded_flushArea (h : Bounded g p) (a : Area) : Bounded g (flushArea a p) := by
  have hq := bounded_clearQuiet h a
  unfold flushArea
  simp only
  split
  · exact hq
  · exact foldl_keeps (P := Bounded g) (fun _ t k => bounded_removeShelfOf k t) hq _

/-! ## Digest summaries (R124, R136) -/

theorem bounded_mergeSummary (h : Bounded g p) {a : Area} (ha : g a = true) (s : StationNo) (d : Summary) :
    Bounded g (mergeSummary a s p d) := by
  unfold mergeSummary
  split
  · next hmap =>
    split
    · have hs := bounded_storeNew (e := summaryEntry p a s d) h hmap ha
      unfold storeSummary
      simp only
      split
      · exact bounded_deriveHorn.2 (bounded_applyRemoval hs _)
      · exact hs
    · next e f =>
      (repeat' split)
      · exact h
      · exact h
      · exact bounded_deriveHorn.2 (bounded_applyRemoval (bounded_change h f (by rfl) (by rfl)) _)
      · exact bounded_deriveHorn.2 (bounded_applyRemoval (bounded_change h f (by rfl) (by rfl)) _)
  · exact h

theorem bounded_replaceSummary (h : Bounded g p) {a : Area} (ha : g a = true) (s : StationNo) (d : Summary) :
    Bounded g (replaceSummary a s p d) := by
  unfold replaceSummary
  split
  · next hmap =>
    split
    · have hs := bounded_storeNew (e := summaryEntry p a s d) h hmap ha
      simp only
      split
      · exact bounded_applyRemoval hs _
      · exact hs
    · next e f =>
      split
      · exact bounded_applyRemoval (bounded_change h f (by rfl) (by rfl)) _
      · exact bounded_applyRemoval (bounded_change h f (by rfl) (by rfl)) _
  · exact h

theorem bounded_replaceArea (h : Bounded g p) {a : Area} (ha : g a = true) (s : StationNo) (ds : List Summary) :
    Bounded g (replaceArea a s ds p) :=
  bounded_deriveHorn.2 (foldl_keeps (P := Bounded g) (fun _ d k => bounded_replaceSummary k ha s d)
    (bounded_keepEntries h _) ds)

/-! ## The departure of the areas outside the follow set (R5, R67) -/

theorem followed_congr (hs : q.stc = p.stc) (ha : q.aru = p.aru) (hh : q.hou = p.hou) (a : Area) :
    followed q a = followed p a := by
  unfold followed inHome inStandby inWatch holds view receptionFor
  rw [hs, ha, hh]

/-- Whatever the set was, the purge leaves the table and the meter within the follow set. -/
theorem bounded_purgeUnfollowed (h : Bounded g p) : Bounded (followed (purgeUnfollowed p)) (purgeUnfollowed p) := by
  have hsame : followed (purgeUnfollowed p) = followed p := funext fun a => followed_congr (by simp) (by simp) (by simp) a
  rw [hsame]
  refine ⟨fun e m => ?_, fun a ha => ?_⟩
  · obtain ⟨m, hf⟩ := List.mem_filter.1 m
    exact ⟨(h.1 e m).1, hf⟩
  · simp [purgeUnfollowed, loadOf, inFlood, ha]

end Sys2Proof.Machine
end


section
/-! PROOFS. Which operations leave the table and the meter as they were and follow every area that was followed (R4). -/

namespace Sys2Proof.Machine

/-- `q` has the table, the meter and the settings of `p`, holds the areas that `p` holds and has a reception record for every
area that `p` has one for; it is in a reset only if `p` is. -/
structure Grows (p q : Part) : Prop where
  settings : q.stc.settings = p.stc.settings
  station : q.stc.station = none → p.stc.station = none
  atu : q.atu = p.atu
  ldm : q.ldm = p.ldm
  holds : ∀ a, holds p a = true → holds q a = true
  receptions : ∀ r x, p.hou.receptions.get r = some x → ∃ y, q.hou.receptions.get r = some y ∧ y.area = x.area

variable (p : Part) {q r : Part}

theorem Grows.refl : Grows p p := ⟨rfl, id, rfl, rfl, fun _ => id, fun _ x h => ⟨x, h, rfl⟩⟩

variable {p}

theorem Grows.trans (h : Grows p q) (k : Grows q r) : Grows p r where
  settings := k.settings.trans h.settings
  station := h.station ∘ k.station
  atu := k.atu.trans h.atu
  ldm := k.ldm.trans h.ldm
  holds := fun a => k.holds a ∘ h.holds a
  receptions := fun i x hx => by
    obtain ⟨y, hy, hxy⟩ := h.receptions i x hx
    obtain ⟨z, hz, hyz⟩ := k.receptions i y hy
    exact ⟨z, hz, hyz.trans hxy⟩

theorem receptionFor_isSome (p : Part) (a : Area) :
    (receptionFor p a).isSome = true ↔ ∃ r x, p.hou.receptions.get r = some x ∧ x.area = a := by
  unfold receptionFor
  rw [List.find?_isSome]
  constructor
  · rintro ⟨r, -, h⟩
    cases hx : p.hou.receptions.get r with
    | none => simp [hx] at h
    | some x => exact ⟨r, x, hx, by simpa [hx] using h⟩
  · rintro ⟨r, x, hx, rfl⟩
    exact ⟨r, List.mem_finRange r, by simp [hx]⟩

theorem Grows.followed (h : Grows p q) (a : Area) (f : followed p a = true) : followed q a = true := by
  simp only [Machine.followed, inHome, inStandby, inWatch, Bool.or_eq_true, receptionFor_isSome, h.settings] at f ⊢
  rcases f with (f | f) | ⟨r, x, hx, hxa⟩
  · exact .inl (.inl f)
  · exact .inl (.inr (h.holds a f))
  · obtain ⟨y, hy, hxy⟩ := h.receptions r x hx
    exact .inr ⟨r, y, hy, hxy.trans hxa⟩

theorem grows_foldl {α : Type} {f : Part → α → Part} (hf : ∀ p x, Grows p (f p x)) (l : List α) (p : Part) :
    Grows p (l.foldl f p) :=
  foldl_keeps (P := Grows p) (fun q x h => h.trans (hf q x)) (Grows.refl p) l

/-- Same views and same records: nothing of the follow set is touched. -/
theorem grows_of_frame (hs : q.stc = p.stc) (ha : q.atu = p.atu) (hl : q.ldm = p.ldm)
    (hv : q.aru.views = p.aru.views) (hh : q.hou.receptions = p.hou.receptions) : Grows p q where
  settings := by rw [hs]
  station := by rw [hs]; exact id
  atu := ha
  ldm := hl
  holds := fun a => by unfold Machine.holds view; rw [hv]; exact id
  receptions := fun i x hx => ⟨x, by rw [hh]; exact hx, rfl⟩

/-! ## Views and records -/

theorem grows_modView (a : Area) {f : View → View} (hf : ∀ v, v.role = .hold → (f v).role = .hold) (p : Part) :
    Grows p (modView a f p) where
  settings := rfl
  station := id
  atu := rfl
  ldm := rfl
  holds := fun b hb => by
    unfold Machine.holds at hb ⊢
    rw [view_modView]
    split
    · next h => subst h; simpa using hf _ (by simpa using hb)
    · exact hb
  receptions := fun _ x hx => ⟨x, hx, rfl⟩

theorem grows_setReception {i : Fin 4} {x y : Reception} (hx : p.hou.receptions.get i = some x) (h : y.area = x.area) :
    Grows p (setReception i (some y) p) where
  settings := rfl
  station := id
  atu := rfl
  ldm := rfl
  holds := fun _ => id
  receptions := fun j z hz => by
    rw [setReception_hou, setAt_get]
    split
    · next hj =>
      subst hj
      obtain rfl : x = z := Option.some.inj (hx.symm.trans hz)
      exact ⟨y, rfl, h⟩
    · exact ⟨z, hz, rfl⟩

theorem grows_modReception (i : Fin 4) (n : Nat) {f : Reception → Reception} (hf : ∀ x, (f x).area = x.area) (p : Part) :
    Grows p (modReception i n f p) := by
  unfold modReception
  split
  · next x hx =>
    split
    · exact grows_setReception hx (hf x)
    · exact .refl p
  · exact .refl p

theorem modOffer_receptions (i : Fin 4) (n : Nat) (f : Offer → Offer) (p : Part) :
    (modOffer i n f p).hou.receptions = p.hou.receptions := by
  unfold modOffer; (repeat' split) <;> rfl

theorem grows_modOffer (i : Fin 4) (n : Nat) (f : Offer → Offer) (p : Part) : Grows p (modOffer i n f p) :=
  grows_of_frame (by simp) (by simp) (by simp) (by simp) (modOffer_receptions i n f p)

theorem grows_modAnswer (n : Nat) (f : AnswerItem → AnswerItem) (p : Part) : Grows p (modAnswer n f p) :=
  grows_of_frame rfl rfl rfl rfl rfl

/-! ## LIF (R153 to R156) -/

theorem grows_markEntered (o : Owner) (p : Part) : Grows p (markEntered o p) := by
  cases o with
  | syncRequest a => exact grows_modView a (f := fun v => { v with syncMark := .queued }) (fun _ h => h) p
  | offer i n => exact grows_modOffer i n _ p
  | reply i n => exact grows_modReception i n (fun _ => by rfl) p
  | input i => simp only [markEntered]; split <;> exact grows_of_frame rfl rfl rfl rfl rfl
  | request | session | beacon | answer => exact grows_of_frame rfl rfl rfl rfl rfl

theorem grows_markOwed (o : Owner) (p : Part) : Grows p (markOwed o p) := by
  cases o with
  | syncRequest a => exact grows_modView a (f := fun v => { v with syncMark := .owed }) (fun _ h => h) p
  | offer i n => exact grows_modOffer i n _ p
  | reply i n => exact grows_modReception i n (fun _ => by rfl) p
  | request | session | beacon | answer | input => exact grows_of_frame rfl rfl rfl rfl rfl

theorem grows_markAttempt (o : Owner) (p : Part) : Grows p (markAttempt o p) := by
  cases o with
  | offer i n => exact grows_modOffer i n _ p
  | reply i n => exact grows_modReception i n (fun _ => by rfl) p
  | request | session | beacon | answer | input | syncRequest => exact grows_of_frame rfl rfl rfl rfl rfl

theorem grows_markReturned (o : Owner) (p : Part) : Grows p (markReturned o p) := by
  cases o with
  | offer i n => exact grows_modOffer i n _ p
  | reply i n => exact grows_modReception i n (fun _ => by rfl) p
  | request | session | beacon | answer | input | syncRequest => exact grows_of_frame rfl rfl rfl rfl rfl

theorem grows_modLif (f : Lif → Lif) (p : Part) : Grows p (modLif f p) := grows_of_frame rfl rfl rfl rfl rfl
theorem grows_modAnu (f : Anu → Anu) (p : Part) : Grows p (modAnu f p) := grows_of_frame rfl rfl rfl rfl rfl
theorem grows_modSsu (f : Ssu → Ssu) (p : Part) : Grows p (modSsu f p) := grows_of_frame rfl rfl rfl rfl rfl
theorem grows_modCnp (f : Cnp → Cnp) (p : Part) : Grows p (modCnp f p) := grows_of_frame rfl rfl rfl rfl rfl
theorem grows_produce (e : Event) (p : Part) : Grows p (produce e p) := grows_of_frame rfl rfl rfl rfl rfl
theorem grows_deriveHorn (p : Part) : Grows p (deriveHorn p) := grows_of_frame rfl rfl rfl rfl rfl

theorem grows_placeTelegram (o : Owner) (t : Telegram) (p : Part) : Grows p (placeTelegram o t p) :=
  grows_of_frame (by simp) (by simp) (by simp) (by simp) (by simp)

theorem grows_serveWaiting (p : Part) : Grows p (serveWaiting p) := by
  unfold serveWaiting
  (repeat' split)
  · exact .refl p
  · exact .refl p
  · exact ((grows_modLif _ p).trans (grows_placeTelegram ..)).trans (grows_markEntered ..)

theorem grows_placeOwedLogin (p : Part) : Grows p (placeOwedLogin p) :=
  grows_of_frame (by simp) (by simp) (by simp) (by simp) (by simp)

theorem grows_freeSlot (k : Fin 12) (p : Part) : Grows p (freeSlot k p) :=
  ((grows_modLif _ p).trans (grows_serveWaiting _)).trans (grows_placeOwedLogin _)

theorem grows_pushTelegram (o : Owner) (p : Part) : Grows p (pushTelegram o p) := by
  unfold pushTelegram
  (repeat' split)
  · exact .refl p
  · exact ((grows_modLif _ p).trans (grows_placeTelegram ..)).trans (grows_markEntered ..)
  · exact (grows_modLif _ p).trans (grows_markOwed ..)
  · exact grows_markOwed ..

theorem grows_withdrawTelegram (o : Owner) (p : Part) : Grows p (withdrawTelegram o p) := by
  have hleave : Grows p (leaveWaiting o p) := grows_modLif _ p
  unfold withdrawTelegram
  simp only
  (repeat' split)
  · exact hleave
  · exact hleave
  · exact hleave.trans (grows_freeSlot ..)
  · exact hleave.trans (grows_modLif ..)

theorem grows_callBeacon (p : Part) : Grows p (callBeacon p) := by
  unfold callBeacon
  (repeat' split)
  · exact grows_pushTelegram .beacon p
  · exact .refl p
  · exact grows_of_frame rfl rfl rfl rfl rfl
  · exact .refl p

/-! ## HOU's offers and answers (R117, R131, R133) -/

theorem grows_addAnswer (x : Option ReplyReason) (a : Area) (d : StationNo) (h : Byte) (w : Bool) (p : Part) :
    Grows p (addAnswer x a d h w p) := by
  have hadd : ∀ f : Hou → Hou, (∀ y, (f y).receptions = y.receptions) → Grows p (modHou f p) := fun f hf =>
    grows_of_frame rfl rfl rfl rfl (hf _)
  unfold addAnswer
  simp only
  (repeat' split)
  · exact hadd _ fun _ => by rfl
  · exact (hadd _ fun _ => by rfl).trans (grows_pushTelegram ..)
  · exact .refl p

theorem grows_setOffer (i : Fin 4) (o : Option Offer) (p : Part) : Grows p (setOffer i o p) :=
  grows_of_frame rfl rfl rfl rfl rfl

theorem grows_dropOffer (i : Fin 4) (p : Part) : Grows p (dropOffer i p) := by
  unfold dropOffer
  split
  · exact .refl p
  · exact ((grows_withdrawTelegram _ p).trans (grows_setOffer ..)).trans (grows_deriveHorn _)

theorem grows_countFailed (p : Part) : Grows p (countFailed p) := grows_of_frame rfl rfl rfl rfl rfl

theorem grows_closeOffer (i : Fin 4) (x : Reason) (b : Bool) (p : Part) : Grows p (closeOffer i x b p) := by
  unfold closeOffer
  split
  · exact .refl p
  · next o _ =>
    split
    · exact grows_dropOffer i p
    · have hanswer : Grows p (if b then addAnswer none o.area o.target o.number false (dropOffer i p) else dropOffer i p) := by
        split
        · exact (grows_dropOffer i p).trans (grows_addAnswer ..)
        · exact grows_dropOffer i p
      exact (hanswer.trans (grows_produce ..)).trans (grows_countFailed _)

theorem grows_itemReady (n : Nat) (p : Part) : Grows p (itemReady n p) :=
  (grows_modAnswer n _ p).trans (grows_pushTelegram ..)

theorem grows_createOffer (i : Fin 4) (o : Offer) (p : Part) : Grows p (createOffer i o p) :=
  grows_of_frame (by simp) (by simp) (by simp) (by simp) rfl

theorem grows_startOffer (a : Area) (b : Byte) (p : Part) : Grows p (startOffer a b p) := by
  unfold startOffer
  split
  · exact .refl p
  · have hcounter : Grows p (modHou (fun x => { x with counter := nextNumber p.hou.counter }) p) :=
      grows_of_frame rfl rfl rfl rfl rfl
    exact (hcounter.trans (grows_createOffer ..)).trans (grows_placeTelegram ..)

theorem grows_startSync (a : Area) (p : Part) : Grows p (startSync a p) := by
  unfold startSync
  (repeat' split)
  · exact .refl p
  · exact (grows_createOffer ..).trans (grows_pushTelegram ..)
  · exact .refl p

theorem grows_queueReply (i : Fin 4) (x : ReplyReason) (p : Part) : Grows p (queueReply i x p) := by
  unfold queueReply
  split
  · exact .refl p
  · next y hy => exact (grows_setReception (y := { y with answer := x }) hy rfl).trans (grows_pushTelegram ..)

theorem grows_tryAccept (o : Option (Fin 4)) (p : Part) : Grows p (tryAccept o p).2 := by
  unfold tryAccept
  (repeat' split)
  · exact .refl p
  · exact .refl p
  · exact .refl p
  · exact grows_queueReply ..

theorem grows_tryDecline (o : Option (Fin 4)) (p : Part) : Grows p (tryDecline o p).2 := by
  unfold tryDecline
  (repeat' split)
  · exact .refl p
  · exact .refl p
  · exact grows_queueReply ..
  · exact .refl p

theorem grows_refusedStarting {x : ResultCode × Part} (h : Grows p x.2) : Grows p (refusedStarting p x).2 := by
  unfold refusedStarting
  split
  · exact .refl p
  · exact h

/-! ## ARU and SSU -/

theorem grows_leaveWaiting (o : Owner) (p : Part) : Grows p (leaveWaiting o p) := grows_modLif _ p

theorem grows_dropOwedSync (a : Area) (p : Part) : Grows p (dropOwedSync a p) := by
  unfold dropOwedSync
  exact (grows_modView a (fun _ h => by exact h) p).trans (grows_leaveWaiting ..)

theorem grows_startGrace (p : Part) : Grows p (startGrace p) := by
  refine grows_of_frame rfl rfl rfl ?_ rfl
  change (if _ then p.aru else _).views = p.aru.views
  split <;> rfl

theorem grows_stopGrace (p : Part) : Grows p (stopGrace p) := grows_of_frame rfl rfl rfl rfl rfl

theorem grows_cancelRelief (x : Reason) (a : Option Area) (p : Part) : Grows p (cancelRelief x a p) := by
  unfold cancelRelief
  split
  · exact grows_of_frame rfl rfl rfl rfl rfl
  · exact .refl p

theorem grows_changeRole_hold (a : Area) (p : Part) : Grows p (changeRole a .hold p) := by
  have hview : Grows p (modView a (fun v => { v with role := .hold }) p) := grows_modView a (fun _ _ => by rfl) p
  unfold changeRole
  split
  · exact .refl p
  · refine Grows.trans ?_ (grows_deriveHorn _)
    split
    · exact hview.trans (grows_of_frame rfl rfl rfl rfl rfl)
    · exact hview

theorem grows_gainArea (a : Area) (p : Part) : Grows p (gainArea a p) := by
  have hgain := ((grows_modView a (f := fun v => { noHolder v with relinquished := false, startup := false })
    (fun _ h => by exact h) p).trans (grows_dropOwedSync a _)).trans
      ((grows_changeRole_hold a _).trans (grows_callBeacon _))
  unfold gainArea
  simp only
  split
  · exact hgain
  · exact hgain.trans (grows_startGrace _)

theorem grows_claimArea (p : Part) (a : Area) : Grows p (claimArea p a) := by
  unfold claimArea
  split
  · exact (grows_gainArea a p).trans (grows_produce ..)
  · exact .refl p

theorem grows_judgeClaims (p : Part) : Grows p (judgeClaims p) := grows_foldl grows_claimArea allAreas p

theorem grows_issueSync (a : Area) (p : Part) : Grows p (issueSync a p) :=
  (grows_pushTelegram ..).trans (grows_modView a (fun _ h => by exact h) _)

theorem grows_judgeStartup (p : Part) : Grows p (judgeStartup p) := by
  unfold judgeStartup
  split
  · refine grows_foldl (fun p a => ?_) allAreas p
    unfold judgeStartupArea
    simp only
    split
    · exact (grows_issueSync a p).trans (grows_modView a (fun _ h => by exact h) _)
    · exact .refl p
  · exact .refl p

theorem grows_leaveEmergency (a : Area) (x : StationNo) (p : Part) : Grows p (leaveEmergency a x p) := by
  have hleave : Grows p (deriveHorn (produce { kind := .areaRestored, area := some a, station := some x }
      (modView a (fun v => { v with emergency := false }) p))) :=
    ((grows_modView a (fun _ h => by exact h) p).trans (grows_produce ..)).trans (grows_deriveHorn _)
  unfold leaveEmergency
  simp only
  (repeat' split)
  · exact hleave.trans (grows_callBeacon _)
  · exact hleave
  · exact .refl p

theorem grows_disarmRelief (p : Part) : Grows p (disarmRelief p) := grows_of_frame rfl rfl rfl rfl rfl

theorem grows_ite (c : Prop) [Decidable c] (hq : Grows p q) (hr : Grows p r) : Grows p (if c then q else r) := by
  split
  · exact hq
  · exact hr

theorem grows_closeForSession (p : Part) (i : Fin 4) : Grows p (closeForSession p i) := by
  unfold closeForSession
  (repeat' split)
  · exact .refl p
  · exact grows_closeOffer ..
  · exact .refl p

theorem grows_endSession (x : Reason) (y : Option StationNo) (p : Part) : Grows p (endSession x y p) := by
  unfold endSession
  split
  · exact .refl p
  · have hstep : ∀ (c : Prop) [Decidable c] (f : Part → Part) {q : Part}, Grows p q → (∀ q, Grows q (f q)) →
        Grows p (if c then f q else q) := fun c _ f q hq hf => grows_ite c (hq.trans (hf q)) hq
    refine Grows.trans ?_ (grows_deriveHorn _)
    refine Grows.trans ?_ (grows_foldl grows_closeForSession _ _)
    refine hstep _ (fun q => callBeacon (startGrace q)) ?_ fun q => (grows_startGrace q).trans (grows_callBeacon _)
    refine Grows.trans ?_ (grows_produce ..)
    refine hstep _ disarmRelief ?_ grows_disarmRelief
    exact hstep _ (withdrawTelegram _) (grows_modSsu _ p) (grows_withdrawTelegram _)

theorem grows_applyLogin (x : StationNo) (c : Credential) (p : Part) : Grows p (applyLogin x c p) := by
  unfold applyLogin
  (repeat' split)
  · exact .refl p
  · exact grows_endSession ..
  · exact .refl p

/-! ## The panel (chapter 3) -/

theorem grows_modInput (i : Fin 8) (f : InputRecord → InputRecord) (p : Part) : Grows p (modInput i f p) := grows_modAnu _ p
theorem grows_modKey (k : Fin 4) (f : KeyRecord → KeyRecord) (p : Part) : Grows p (modKey k f p) := grows_modAnu _ p

theorem grows_bumpUnpublished (i : Fin 8) (p : Part) : Grows p (bumpUnpublished i p) := by
  unfold bumpUnpublished
  split <;> exact grows_of_frame rfl rfl rfl rfl rfl

theorem grows_settleInput (i : Fin 8) (p : Part) : Grows p (settleInput i p) := grows_of_frame rfl rfl rfl rfl rfl

theorem grows_awaitInput (i : Fin 8) (p : Part) : Grows p (awaitInput i p) :=
  (grows_modInput i _ p).trans (grows_pushTelegram ..)

theorem grows_judgeInput (i : Fin 8) (p : Part) : Grows p (judgeInput i p) :=
  grows_ite _ (grows_settleInput i p) (grows_awaitInput i p)

theorem grows_seedPair (i : Fin 8) (p : Part) : Grows p (seedPair i p) := by
  unfold seedPair
  split
  · exact grows_modInput ..
  · exact .refl p

theorem grows_seedInput (p : Part) (i : Fin 8) : Grows p (seedInput p i) := by
  unfold seedInput
  simp only
  (repeat' split)
  · exact (grows_seedPair i p).trans (grows_modInput ..)
  · exact (grows_seedPair i p).trans (grows_awaitInput ..)
  · exact .refl p

theorem grows_inputChanged (i : Fin 8) (p : Part) : Grows p (inputChanged i p) := by
  unfold inputChanged
  simp only
  have hbump := (grows_modInput i (fun x => { x with condition := otherContact x.condition, run := 0 }) p).trans
    (grows_bumpUnpublished i _)
  (repeat' split)
  · exact hbump
  · exact hbump.trans (grows_awaitInput ..)
  · exact hbump.trans (grows_settleInput ..)
  · exact hbump
  · exact hbump

theorem grows_changeInput (i : Fin 8) (p : Part) : Grows p (changeInput i p) :=
  grows_ite _ (grows_inputChanged i p) (.refl p)

theorem grows_activateTrip (i : Fin 8) (p : Part) : Grows p (activateTrip i p) :=
  grows_ite _ (grows_ite _ (((grows_modInput i _ p).trans (grows_modInput i _ _)).trans (grows_pushTelegram ..))
    (grows_modInput i _ p)) (.refl p)

theorem grows_clearTrip (i : Fin 8) (p : Part) : Grows p (clearTrip i p) :=
  grows_ite _ (grows_modInput i _ p) (.refl p)

theorem grows_settleContact (i : Fin 8) (b : Bool) (p : Part) : Grows p (settleContact i b p) :=
  grows_ite _ ((grows_modInput i _ p).trans (grows_seedInput _ i)) (.refl p)

theorem grows_keyRefused (k : EventKind) (a : Option Area) (c : ResultCode) (p : Part) : Grows p (keyRefused k a c p) :=
  grows_produce _ p

theorem grows_reliefKey (p : Part) : Grows p (reliefKey p) := by
  unfold reliefKey
  (repeat' split)
  · exact grows_of_frame rfl rfl rfl rfl rfl
  · exact .refl p
  · exact grows_keyRefused ..

theorem grows_keyAction (k : Fin 4) (p : Part) : Grows p (keyAction k p) := by
  have haccept : Grows p (acceptKey p) := by
    have h := grows_tryAccept (oldestReview p) p
    have hr : Grows p (if (oldestReview p).isSome then refusedStarting p (tryAccept (oldestReview p) p)
        else tryAccept (oldestReview p) p).2 := by
      split
      · exact grows_refusedStarting h
      · exact h
    exact grows_ite _ hr (hr.trans (grows_keyRefused ..))
  have hdecline : Grows p (declineKey p) := by
    have h := grows_tryDecline (oldestReview p) p
    have hr : Grows p (if (oldestReview p).isSome then refusedStarting p (tryDecline (oldestReview p) p)
        else tryDecline (oldestReview p) p).2 := by
      split
      · exact grows_refusedStarting h
      · exact h
    exact grows_ite _ hr (hr.trans (grows_keyRefused ..))
  unfold keyAction
  (repeat' split)
  · exact .refl p
  · exact grows_modAnu _ p
  · exact haccept
  · exact hdecline
  · exact grows_reliefKey p

theorem grows_pressKey (k : Fin 4) (p : Part) : Grows p (pressKey k p) :=
  grows_ite _ ((grows_modKey k _ p).trans (grows_keyAction k _)) (.refl p)

theorem grows_releaseKey (k : Fin 4) (p : Part) : Grows p (releaseKey k p) := grows_ite _ (grows_modKey k _ p) (.refl p)

theorem grows_settleKey (k : Fin 4) (b : Bool) (p : Part) : Grows p (settleKey k b p) :=
  grows_ite _ (grows_modKey k _ p) (.refl p)

theorem grows_contactEdge (i : Fin 8) (p : Part) : Grows p (contactEdge i p) := by
  unfold contactEdge
  (repeat' split)
  · exact .refl p
  · exact grows_changeInput i p
  · exact grows_activateTrip i p
  · exact grows_clearTrip i p

theorem grows_sampleKey (f : Fin 4 → Bool) (p : Part) (k : Fin 4) : Grows p (sampleKey f p k) := by
  unfold sampleKey
  simp only
  split
  · exact grows_ite _ (grows_settleKey ..) (grows_modKey ..)
  · exact grows_ite _ (grows_ite _ (grows_pressKey ..) (grows_modKey ..)) (grows_modKey ..)
  · exact grows_ite _ (grows_modKey ..) (grows_ite _ (grows_releaseKey ..) (grows_modKey ..))

theorem grows_sampleInput (f : Fin 8 → Bool) (p : Part) (i : Fin 8) : Grows p (sampleInput f p i) := by
  unfold sampleInput
  simp only
  split
  · split
    · exact grows_ite _ (grows_settleContact ..) (grows_modInput ..)
    · exact grows_ite _ (grows_modInput ..) (grows_ite _ (grows_contactEdge ..) (grows_modInput ..))
    · exact grows_ite _ (grows_ite _ (grows_contactEdge ..) (grows_modInput ..)) (grows_modInput ..)
  · exact .refl p

theorem grows_sampleStep (k : BitVec 4) (c : BitVec 8) (p : Part) : Grows p (sampleStep k c p) :=
  grows_ite _ (((grows_of_frame rfl rfl rfl rfl rfl : Grows p (advanceCounters p)).trans
    (grows_foldl (grows_sampleKey _) _ _)).trans (grows_foldl (grows_sampleInput _) _ _)) (.refl p)

end Sys2Proof.Machine
end


section
/-! PROOFS. Every step keeps the alarm table and keeps it within the follow set (O57). A command either follows at least what was
followed (`Grows`), or completes its change with the judgement of the follow set (`Loosens`, then `settleAreas`). -/

namespace Sys2Proof.Machine

variable {p q r : Part}

/-- No entry, no overflow indicator, no figure and no flood (R22, R61). -/
def AtRest (p : Part) : Prop := p.atu.table = [] ∧ p.atu.overflow = 0 ∧ ∀ a, loadOf p a = 0 ∧ inFlood p a = false

theorem followFine_iff : FollowFine p ↔ Bounded (followed p) p ∧ (p.stc.station = none → AtRest p) := and_assoc.symm

/-- What holds of the table and the meter while a change of the follow set is being completed. -/
def Mapped (p : Part) : Prop := Bounded (fun _ => true) p ∧ (p.stc.station = none → AtRest p)

theorem FollowFine.mapped (h : FollowFine p) : Mapped p := by
  rw [followFine_iff] at h
  exact ⟨h.1.mono fun _ _ => rfl, h.2⟩

theorem AtRest.bounded (h : AtRest p) (g : Area → Bool) : Bounded g p := by
  obtain ⟨ht, ho, hl⟩ := h
  refine ⟨by simp [ht], fun a _ => ⟨?_, hl a⟩⟩
  rw [ho]
  exact has_zero a

theorem AtRest.followFine (h : AtRest p) : FollowFine p := followFine_iff.2 ⟨h.bounded _, fun _ => h⟩

theorem atRest_congr (ha : q.atu = p.atu) (hl : q.ldm = p.ldm) : AtRest q ↔ AtRest p := by
  unfold AtRest
  simp only [ha, loadOf_congr hl, inFlood_congr hl]

/-- The step from `p` to `q` keeps both invariants of the table. -/
structure Keeps (p q : Part) : Prop where
  table : TableFine p → TableFine q
  follow : FollowFine p → FollowFine q

/-- The step from `p` to `q` keeps the table, and the follow set is still to be judged. -/
structure Loosens (p q : Part) : Prop where
  table : TableFine p → TableFine q
  mapped : Mapped p → Mapped q

theorem Keeps.refl (p : Part) : Keeps p p := ⟨id, id⟩
theorem Keeps.trans (h : Keeps p q) (k : Keeps q r) : Keeps p r := ⟨k.table ∘ h.table, k.follow ∘ h.follow⟩
theorem Loosens.trans (h : Loosens p q) (k : Loosens q r) : Loosens p r := ⟨k.table ∘ h.table, k.mapped ∘ h.mapped⟩

theorem keeps_ite (c : Prop) [Decidable c] (hq : Keeps p q) (hr : Keeps p r) : Keeps p (if c then q else r) := by
  split
  · exact hq
  · exact hr

theorem Grows.keeps (h : Grows p q) : Keeps p q where
  table := (tableFine_congr h.atu).2
  follow := fun hf => by
    rw [followFine_iff] at hf ⊢
    exact ⟨(bounded_congr_settings h.settings h.atu h.ldm).2 (hf.1.mono h.followed),
      fun hs => (atRest_congr h.atu h.ldm).2 (hf.2 (h.station hs))⟩

theorem loosens_of_settings (hs : q.stc.settings = p.stc.settings) (hn : q.stc.station = none → p.stc.station = none)
    (ha : q.atu = p.atu) (hl : q.ldm = p.ldm) : Loosens p q where
  table := (tableFine_congr ha).2
  mapped := fun h => ⟨(bounded_congr_settings hs ha hl).2 h.1, fun g => (atRest_congr ha hl).2 (h.2 (hn g))⟩

theorem loosens_of_frame (hs : q.stc = p.stc) (ha : q.atu = p.atu) (hl : q.ldm = p.ldm) : Loosens p q :=
  loosens_of_settings (by rw [hs]) (by rw [hs]; exact id) ha hl

theorem Loosens.refl (p : Part) : Loosens p p := ⟨id, id⟩

theorem Grows.loosens (h : Grows p q) : Loosens p q := loosens_of_settings h.settings h.station h.atu h.ldm

theorem listening_station (h : listening p = true) : p.stc.station ≠ none := by
  intro c
  simp [listening, starting, running, isolated, c] at h

theorem keeps_of_bounded (hp : p.stc.station ≠ none) (hs : q.stc = p.stc)
    (hf : ∀ a, followed p a = true → followed q a = true) (ht : TableFine p → TableFine q)
    (hb : Bounded (followed p) p → Bounded (followed p) q) : Keeps p q where
  table := ht
  follow := fun h => by
    rw [followFine_iff] at h ⊢
    exact ⟨(hb h.1).mono hf, fun c => absurd (hs ▸ c) hp⟩

theorem loosens_of_bounded (hp : p.stc.station ≠ none) (hs : q.stc = p.stc) (ht : TableFine p → TableFine q)
    (hb : Bounded (fun _ => true) p → Bounded (fun _ => true) q) : Loosens p q where
  table := ht
  mapped := fun h => ⟨hb h.1, fun c => absurd (hs ▸ c) hp⟩

/-! ## The judgement of the follow set (R4, R5, R67) -/

theorem AtRest.purgeUnfollowed (h : AtRest p) : AtRest (purgeUnfollowed p) := by
  obtain ⟨ht, ho, hl⟩ := h
  refine ⟨by simp [Machine.purgeUnfollowed, ht], by simp [Machine.purgeUnfollowed, keepEntries, ht, ho], fun a => ?_⟩
  obtain ⟨hload, hflood⟩ := hl a
  simp only [loadOf, inFlood] at hload hflood
  simp [Machine.purgeUnfollowed, loadOf, inFlood, hload, hflood]

theorem Loosens.settled (h : Loosens p q) : Keeps p (settleAreas q) := by
  have hroles : Loosens p (refreshRoles q) := h.trans (loosens_of_frame (by simp) (by simp) (by simp))
  refine ⟨fun ht => tableFine_purgeUnfollowed (hroles.table ht), fun hf => ?_⟩
  obtain ⟨hb, hr⟩ := hroles.mapped hf.mapped
  refine followFine_iff.2 ⟨bounded_purgeUnfollowed hb, fun hs => ?_⟩
  rw [settleAreas, (purgeUnfollowed_frame _).1] at hs
  exact (hr hs).purgeUnfollowed

theorem Loosens.freed (h : Loosens p q) : Keeps p (afterReceptionFreed q) :=
  h.settled.trans (grows_judgeClaims _).keeps

/-! ## The alarm table's commands -/

theorem followed_of_same (hs : q.stc = p.stc) (ha : q.aru = p.aru) (hh : q.hou = p.hou) (a : Area)
    (h : followed p a = true) : followed q a = true := (followed_congr hs ha hh a).trans h

theorem keeps_applyCondition (hp : p.stc.station ≠ none) (t : Tag) (x : Priority) (b : Bool) (n : Occurrence) :
    Keeps p (applyCondition t x b n p) :=
  keeps_of_bounded hp (by simp) (followed_of_same (by simp) (by simp) (by simp))
    (fun h => tableFine_applyCondition h t x b n) (fun h => bounded_applyCondition h (fun _ => id) t x b n)

theorem keeps_applyAcknowledge (hp : p.stc.station ≠ none) (t : Tag) (n : Occurrence) (c : Credential) :
    Keeps p (applyAcknowledge t n c p) :=
  keeps_of_bounded hp (by simp) (followed_of_same (by simp) (by simp) (by simp))
    (fun h => tableFine_applyAcknowledge h t n c) (fun h => bounded_applyAcknowledge h t n c)

theorem keeps_applyShelve (hp : p.stc.station ≠ none) (t : Tag) (w : Word16) (c : Credential) (x : StationNo) :
    Keeps p (applyShelve t w c x p) :=
  keeps_of_bounded hp (by simp) (followed_of_same (by simp) (by simp) (by simp))
    (fun h => tableFine_applyShelve h t w c x) (fun h => bounded_applyShelve h t w c x)

theorem keeps_applyUnshelve (hp : p.stc.station ≠ none) (t : Tag) : Keeps p (applyUnshelve t p) :=
  keeps_of_bounded hp (by simp) (followed_of_same (by simp) (by simp) (by simp))
    (fun h => tableFine_applyUnshelve h t) (fun h => bounded_applyUnshelve h t)

theorem keeps_shelfRun (t : Tag) (p : Part) : Keeps p (shelfRun t p) := by
  unfold shelfRun
  split
  · next e f =>
    split
    · split
      · next hl =>
        exact keeps_of_bounded (listening_station hl.1) (by simp) (followed_of_same (by simp) (by simp) (by simp))
          (fun h => tableFine_expireShelf h f) (fun h => bounded_expireShelf h f)
      · exact .refl p
    · exact .refl p
  · exact .refl p

theorem keeps_meterTick (p : Part) : Keeps p (meterTick p) := by
  unfold meterTick
  split
  · next hl =>
    refine keeps_of_bounded (listening_station hl) (foldl_stc _ _ (by simp) p)
      (followed_of_same (foldl_stc _ _ (by simp) p) (foldl_aru _ _ (by simp) p) (foldl_hou _ _ (by simp) p))
      (tableFine_congr (foldl_atu _ _ (by simp) p)).2 (fun h => ?_)
    exact foldl_keeps (P := Bounded (followed p)) (fun q a k => bounded_decayArea k a) h _
  · exact .refl p

/-! ## Emergency (R40, R107) -/

theorem AtRest.flushArea (h : AtRest p) (a : Area) : AtRest (flushArea a p) := by
  have hq : AtRest (clearQuiet a p) := ⟨by simp [clearQuiet, h.1], h.2⟩
  have hnone : areaEntries (clearQuiet a p) a = [] := by simp [areaEntries, hq.1]
  unfold Machine.flushArea
  simp only [hnone, List.map_nil, List.foldl_nil]
  split <;> exact hq

theorem loosens_flushArea (a : Area) (p : Part) : Loosens p (flushArea a p) where
  table := fun h => tableFine_flushArea h a
  mapped := fun h => ⟨bounded_flushArea h.1 a, fun hs => (h.2 ((flushArea_frame p a).1 ▸ hs)).flushArea a⟩

theorem loosens_noticeEmergency (a : Area) (p : Part) : Loosens p (noticeEmergency a p) :=
  loosens_of_frame (by simp) (by simp) (by simp)

theorem loosens_tripRecords (a : Area) (p : Part) : Loosens p (tripRecords a p) :=
  loosens_of_frame (by simp) (by simp) (by simp)

theorem grows_ifHeld {f : Part → Part} (hf : ∀ q, Grows q (f q)) (a : Area) (p : Part) :
    Grows p (if holds p a then f p else p) := grows_ite _ (hf p) (.refl p)

theorem loosens_setEmergency (a : Area) (x : StationNo) (w : Reason) (p : Part) :
    Loosens p (produce { kind := .areaTripped, area := some a, station := some x, reason := some w }
      (modView a (fun v => { v with emergency := true }) p)) :=
  loosens_of_frame (by simp) (by simp) (by simp)

theorem loosens_enterEmergency (a : Area) (x : StationNo) (w : Reason) (p : Part) : Loosens p (enterEmergency a x w p) := by
  unfold enterEmergency
  split
  · exact .refl p
  · have hflush := ((loosens_setEmergency a x w p).trans (loosens_flushArea a _)).trans (loosens_tripRecords a _)
    have hrelief := hflush.trans (grows_ifHeld (grows_cancelRelief .trip (some a)) a _).loosens
    exact (hrelief.trans (loosens_noticeEmergency a _)).trans (grows_ifHeld grows_callBeacon a _).loosens

theorem keeps_tripArea (a : Area) (x : StationNo) (p : Part) : Keeps p (tripArea a x p) :=
  keeps_ite _ (.refl p) ((loosens_enterEmergency a x .telegram p).settled.trans (grows_judgeClaims _).keeps)

/-! ## Beacons, holders, roles (chapter 6) -/

theorem loosens_foldl {α : Type} {f : Part → α → Part} (hf : ∀ p x, Loosens p (f p x)) (l : List α) (p : Part) :
    Loosens p (l.foldl f p) :=
  foldl_keeps (P := Loosens p) (fun q x h => h.trans (hf q x)) (Loosens.refl p) l

theorem keeps_applyBeacon (x : StationNo) (c : BeaconContent) (p : Part) : Keeps p (applyBeacon x c p) := by
  have htrip : ∀ p i, Loosens p (tripFromItem x p i) := fun p i => by
    unfold tripFromItem
    split
    · exact loosens_enterEmergency ..
    · exact .refl p
  unfold applyBeacon
  split
  · refine Keeps.trans ?_ ((grows_judgeClaims _).trans (grows_judgeStartup _)).keeps
    refine Loosens.settled (Loosens.trans ?_ (loosens_foldl htrip _ _))
    refine Loosens.trans ?_ (loosens_foldl (fun p i => loosens_of_frame (by simp) (by simp) (by simp)) _ _)
    refine Loosens.trans ?_ (loosens_foldl (fun p a => loosens_of_frame (by simp) (by simp) (by simp)) _ _)
    refine Loosens.trans ?_ (loosens_foldl (fun p i => loosens_of_frame (by simp) (by simp) (by simp)) _ _)
    exact loosens_of_frame rfl rfl rfl
  · exact .refl p

theorem keeps_forgetHolder (a : Area) (p : Part) : Keeps p (forgetHolder a p) := by
  refine Keeps.trans (Loosens.settled ?_) (grows_judgeClaims _).keeps
  split <;> exact loosens_of_frame (by simp) (by simp) (by simp)

/-! ## Transfers (chapter 7) -/

theorem followed_of_reception {i : Fin 4} {x : Reception} (h : p.hou.receptions.get i = some x) :
    followed p x.area = true := by
  simp [followed, (receptionFor_isSome p x.area).2 ⟨i, x, h, rfl⟩]

theorem loosens_closeReception (i : Fin 4) (w : Reason) (p : Part) : Loosens p (closeReception i w p) :=
  loosens_of_frame (by simp) (by simp) (by simp)

/-- The merge of a handover digest and what follows it, the record being there (R123, R124). -/
theorem keeps_enterReview (hp : p.stc.station ≠ none) (i : Fin 4) : Keeps p (enterReview i p) := by
  unfold enterReview
  split
  · exact .refl p
  · next x hx =>
    have hmerged : Keeps p (takeMaximum x.area x.load (x.summaries.foldl (mergeSummary x.area x.releaser) p)) := by
      refine keeps_of_bounded hp ?_ (followed_of_same ?_ ?_ ?_) (fun h => ?_) fun h => ?_
      · simp [foldl_stc]
      · simp [foldl_stc]
      · simp [foldl_aru]
      · simp [foldl_hou]
      · rw [tableFine_congr (takeMaximum_frame _ _ _).2.2.1]
        exact foldl_keeps (P := TableFine) (fun _ d k => tableFine_mergeSummary k ..) h _
      · exact bounded_setLoad (foldl_keeps (P := Bounded (followed p))
          (fun _ d k => bounded_mergeSummary k (followed_of_reception hx) ..) h _) (followed_of_reception hx) _
    refine hmerged.trans (Grows.keeps ?_)
    have hstill : (takeMaximum x.area x.load (x.summaries.foldl (mergeSummary x.area x.releaser) p)).hou.receptions.get i =
        some x := by simpa [foldl_hou] using hx
    exact ((grows_setReception (y := { x with state := .review, timer := _ }) hstill (by rfl)).trans (grows_produce ..)).trans
      (grows_deriveHorn _)

theorem keeps_discardReception (i : Fin 4) (b : Bool) (p : Part) : Keeps p (discardReception i b p) := by
  unfold discardReception
  split
  · exact .refl p
  · exact ((loosens_closeReception ..).trans (grows_addAnswer ..).loosens).freed

theorem keeps_applyHandoverDigest (hp : p.stc.station ≠ none) (x : StationNo) (d : DigestContent) :
    Keeps p (applyHandoverDigest x d p) := by
  unfold applyHandoverDigest
  split
  · exact keeps_ite _ (grows_itemReady ..).keeps (grows_modAnswer ..).keeps
  · split
    · exact .refl p
    · split
      · exact .refl p
      · next i _ y hy =>
        refine keeps_ite _ (keeps_ite _ ?_ (keeps_discardReception ..)) (.refl p)
        have hfed := (grows_setReception (y := storeSegment y d) hy rfl).keeps
        exact keeps_ite _ (hfed.trans (keeps_enterReview (by simpa using hp) _)) hfed

theorem keeps_applyOffer (hp : p.stc.station ≠ none) (x : StationNo) (c : OfferContent) : Keeps p (applyOffer x c p) := by
  have hstale : ∀ i, Loosens p (closeReception i .withdrawn p) := fun i => loosens_closeReception ..
  have hcreated : ∀ {q : Part}, Loosens p q → q.stc = p.stc → ∀ i,
      Keeps p (if c.segmentCount = 0 then enterReview i (settleAreas (createReception i (offeredReception q x c) q))
        else settleAreas (createReception i (offeredReception q x c) q)) := fun {q} hq hs i => by
    have hset : Keeps p (settleAreas (createReception i (offeredReception q x c) q)) :=
      (hq.trans (loosens_of_frame (by simp) (by simp) (by simp))).settled
    refine keeps_ite _ (hset.trans (keeps_enterReview ?_ i)) hset
    simpa [hs] using hp
  unfold applyOffer
  cases staleReception p x c with
  | none =>
    simp only
    split
    · exact (grows_addAnswer ..).keeps
    · exact .refl p
    · exact hcreated (.refl p) rfl _
  | some i =>
    simp only
    split
    · exact ((hstale i).trans (grows_addAnswer ..).loosens).freed
    · next hr hfree =>
      exact absurd hfree (by
        intro hnone
        unfold receiveRefusal at hr
        simp only [hnone, Option.isNone_none, Bool.or_true, if_true] at hr
        (repeat' split at hr) <;> simp at hr)
    · exact hcreated (hstale i) (by simp) _

theorem keeps_applySync (hp : p.stc.station ≠ none) (i : Fin 4) (x : Reception) : Keeps p (applySync i x p) := by
  have hreplaced : Loosens p (takeMaximum x.area x.load (replaceArea x.area x.releaser x.summaries p)) := by
    refine loosens_of_bounded hp (by simp) (fun h => ?_) fun h => ?_
    · rw [tableFine_congr (takeMaximum_frame _ _ _).2.2.1]
      exact tableFine_replaceArea h ..
    · exact bounded_setLoad (bounded_replaceArea h rfl ..) rfl _
  exact (hreplaced.trans (loosens_of_frame (by simp) (by simp) (by simp))).freed

theorem keeps_feedSync (hp : p.stc.station ≠ none) (i : Fin 4) (d : DigestContent) : Keeps p (feedSync i d p) := by
  unfold feedSync
  split
  · exact .refl p
  · next y hy =>
    have hfed := (grows_setReception (y := storeSegment y d) hy rfl).keeps
    exact keeps_ite _ (keeps_ite _ (hfed.trans (keeps_applySync (by simpa using hp) ..)) hfed)
      (loosens_of_frame (by simp) (by simp) (by simp)).freed

theorem keeps_applySyncDigest (hp : p.stc.station ≠ none) (x : StationNo) (d : DigestContent) :
    Keeps p (applySyncDigest x d p) := by
  unfold applySyncDigest
  split
  · exact keeps_feedSync hp ..
  · split
    · exact .refl p
    · refine keeps_ite _ (Keeps.trans (Loosens.settled ?_) (keeps_feedSync (by simpa using hp) ..)) (.refl p)
      exact loosens_of_frame (by simp) (by simp) (by simp)

theorem keeps_replyCompleted (i : Fin 4) (n : Nat) (p : Part) : Keeps p (replyCompleted i n p) := by
  unfold replyCompleted
  split
  · exact .refl p
  · next x hx =>
    refine keeps_ite _ (keeps_ite _ ?_ (loosens_closeReception ..).freed) (.refl p)
    exact ((grows_setReception (y := { x with state := .accepted, mark := .none, timer := Config.releaseSeconds }) hx
      rfl).trans (grows_deriveHorn _)).keeps

theorem keeps_applyReply (x : StationNo) (a : Area) (h : Byte) (b : Bool) (w : ReplyReason) (p : Part) :
    Keeps p (applyReply x a h b w p) := by
  have herror : Keeps p (protocolError x a b p) := (grows_produce ..).keeps
  unfold applyReply
  split
  · exact herror
  · split
    · exact herror
    · refine keeps_ite _ (keeps_ite _ ?_ ?_) herror
      · exact (((grows_dropOffer ..).trans (grows_produce ..)).trans (grows_countFailed _)).keeps
      · exact ((grows_setOffer ..).trans (grows_pushTelegram ..)).keeps

theorem keeps_releaseCompleted (i : Fin 4) (n : Nat) (p : Part) : Keeps p (releaseCompleted i n p) := by
  unfold releaseCompleted
  split
  · exact .refl p
  · refine keeps_ite _ (Keeps.trans (Loosens.settled ?_) (grows_callBeacon _).keeps) (.refl p)
    exact loosens_of_frame (by simp) (by simp) (by simp)

theorem keeps_applyRelease (x : StationNo) (a : Area) (h : Byte) (p : Part) : Keeps p (applyRelease x a h p) := by
  unfold applyRelease
  split
  · exact .refl p
  · split
    · exact .refl p
    · refine keeps_ite _ (keeps_ite _ ?_ ?_) (.refl p)
      · exact (loosens_of_frame (by simp) (by simp) (by simp)).freed
      · exact (loosens_of_frame (by simp) (by simp) (by simp)).freed

theorem keeps_applyWithdraw (x : StationNo) (a : Area) (h : Byte) (p : Part) : Keeps p (applyWithdraw x a h p) := by
  unfold applyWithdraw
  split
  · exact .refl p
  · exact (loosens_closeReception ..).freed

theorem grows_enterOffered (i : Fin 4) (n : Nat) (p : Part) : Grows p (enterOffered i n p) := grows_modOffer ..

theorem grows_offerCompleted (i : Fin 4) (n : Nat) (p : Part) : Grows p (offerCompleted i n p) := by
  unfold offerCompleted
  split
  · exact .refl p
  · exact grows_ite _ (grows_ite _ (grows_enterOffered ..) ((grows_modOffer ..).trans (grows_pushTelegram ..))) (.refl p)

theorem grows_segmentCompleted (i : Fin 4) (n : Nat) (p : Part) : Grows p (segmentCompleted i n p) := by
  unfold segmentCompleted
  split
  · exact .refl p
  · refine grows_ite _ (grows_ite _ ?_ ((grows_modOffer ..).trans (grows_pushTelegram ..))) (.refl p)
    split
    · exact (grows_modOffer ..).trans (grows_enterOffered ..)
    · exact (grows_modOffer ..).trans (grows_dropOffer ..)

theorem keeps_gapRun (i : Fin 4) (p : Part) : Keeps p (gapRun i p) := by
  unfold gapRun
  split
  · refine keeps_ite _ ?_ (.refl p)
    split
    · exact keeps_discardReception ..
    · exact (loosens_of_frame (by simp) (by simp) (by simp)).freed
  · exact .refl p

theorem grows_reviewRun (i : Fin 4) (p : Part) : Grows p (reviewRun i p) := by
  unfold reviewRun
  split
  · next x hx =>
    exact grows_ite _ ((grows_setReception (y := { x with timer := 0 }) hx rfl).trans (grows_queueReply ..)) (.refl p)
  · exact .refl p

theorem keeps_releaseRun (i : Fin 4) (p : Part) : Keeps p (releaseRun i p) := by
  unfold releaseRun
  split
  · exact keeps_ite _ (loosens_of_frame (by simp) (by simp) (by simp)).freed (.refl p)
  · exact .refl p

theorem grows_replyRun (i : Fin 4) (p : Part) : Grows p (replyRun i p) := by
  unfold replyRun
  split
  · exact grows_ite _ (grows_closeOffer ..) (.refl p)
  · exact .refl p

theorem grows_answerGapRun (i : Fin 4) (p : Part) : Grows p (answerGapRun i p) := by
  unfold answerGapRun
  split
  · exact grows_ite _ (grows_itemReady ..) (.refl p)
  · exact .refl p

/-! ## Sessions (chapters 5 and 8) -/

theorem keeps_login (c : Credential) (i : Fin 48) (p : Part) : Keeps p (login c i p) := by
  unfold login
  refine Keeps.trans (Loosens.settled ?_) (Grows.trans (grows_ite _ (grows_callBeacon _) (.refl _))
    ((grows_judgeClaims _).trans (grows_deriveHorn _))).keeps
  exact loosens_of_frame (by simp [foldl_stc]) (by simp [foldl_atu]) (by simp [foldl_ldm])

theorem keeps_relieve (c : Credential) (i : Fin 48) (p : Part) : Keeps p (relieve c i p) := by
  unfold relieve
  refine Keeps.trans (Loosens.settled ?_) ((grows_callBeacon _).trans
    ((grows_judgeClaims _).trans (grows_deriveHorn _))).keeps
  split
  · exact loosens_of_frame (by simp [ite_stc]) (by simp [ite_atu]) (by simp [ite_ldm])
  · exact loosens_of_frame (by simp) (by simp) (by simp)

theorem keeps_attemptRelief (c : Credential) (p : Part) : Keeps p (attemptRelief c p) := by
  unfold attemptRelief
  split
  · exact (grows_produce ..).keeps
  · split
    · exact keeps_relieve ..
    · exact .refl p

theorem keeps_presentBadge (c : Credential) (p : Part) : Keeps p (presentBadge c p) := by
  have hrefuse : ∀ w, Keeps p (refuseBadge w p) := fun w => (grows_produce ..).keeps
  unfold presentBadge
  split
  · refine keeps_ite _ (keeps_ite _ (grows_cancelRelief ..).keeps (grows_endSession ..).keeps) ?_
    exact keeps_ite _ (keeps_attemptRelief c p) (keeps_ite _ (hrefuse _) (hrefuse _))
  · split
    · exact hrefuse _
    · exact keeps_ite _ (hrefuse _) (keeps_ite _ (keeps_login ..) (hrefuse _))

theorem keeps_badgeBurst (b : List Bool) (p : Part) : Keeps p (badgeBurst b p) :=
  keeps_ite _ ((grows_modSsu ..).keeps.trans (keeps_presentBadge ..)) (.refl p)

theorem keeps_graceRun (p : Part) : Keeps p (graceRun p) := by
  refine keeps_ite _ (Keeps.trans (Loosens.settled ?_) ((grows_callBeacon _).trans (grows_stopGrace _)).keeps) (.refl p)
  exact loosens_foldl (fun p a => loosens_of_frame (by simp) (by simp) (by simp)) _ _

/-! ## The link (chapter 9) -/

theorem grows_popRing (p : Part) : Grows p (popRing p) := grows_of_frame rfl rfl rfl rfl rfl

theorem keeps_takeTelegram {f : Telegram → Part → Option Part}
    (hf : ∀ t q, p.stc.station ≠ none → f t p = some q → Keeps p q) : Keeps p (takeTelegram f p) := by
  unfold takeTelegram
  split
  · split
    · next hl =>
      split
      · next h => exact (hf _ _ (listening_station hl) h).trans (grows_popRing _).keeps
      · exact .refl p
    · exact .refl p
  · exact .refl p

theorem keeps_takeMark {f : Slot → Part → Option Part}
    (hf : ∀ x q, p.stc.station ≠ none → f x p = some q → Keeps p q) : Keeps p (takeMark f p) := by
  unfold takeMark
  split
  · split
    · split
      · next hl =>
        split
        · next h => exact (hf _ _ (listening_station hl.1) h).trans ((grows_freeSlot ..).trans (grows_popRing _)).keeps
        · exact .refl p
      · exact .refl p
    · exact .refl p
  · exact .refl p

theorem grows_discardInput (i : Fin 8) (p : Part) : Grows p (discardInput i p) := by
  unfold discardInput
  split
  · exact grows_modInput ..
  · exact (grows_bumpUnpublished i p).trans (grows_ite _ (grows_settleInput ..) (grows_modInput ..))

theorem loosens_modHou (f : Hou → Hou) (p : Part) : Loosens p (modHou f p) := loosens_of_frame rfl rfl rfl

theorem loosens_aruIsolated (p : Part) : Loosens p (aruIsolated p) := loosens_of_frame (by simp) (by simp) (by simp)

theorem loosens_closeOffers (p : Part) :
    Loosens p ((List.finRange 4).foldl (fun q r => closeOffer r .isolated false q) p) :=
  loosens_foldl (f := fun q r => closeOffer r .isolated false q)
    (fun _ _ => loosens_of_frame (by simp) (by simp) (by simp)) _ _

theorem loosens_closeReceptions (p : Part) :
    Loosens p ((List.finRange 4).foldl (fun q r => closeReception r .isolated q) p) :=
  loosens_foldl (f := fun q r => closeReception r .isolated q) (fun q i => loosens_closeReception i .isolated q) _ _

theorem loosens_houIsolated (p : Part) : Loosens p (houIsolated p) := by
  have h := ((loosens_closeOffers p).trans (loosens_closeReceptions _)).trans
    (loosens_modHou (fun h => { h with answers := [] }) _)
  simpa only [houIsolated] using h

theorem grows_discardQueue (p : Part) : Grows p (discardQueue p) := grows_of_frame rfl rfl rfl rfl rfl

theorem grows_oweLogin (p : Part) : Grows p (oweLogin p) := grows_of_frame rfl rfl rfl rfl rfl

theorem loosens_setIsolated (p : Part) : Loosens p (modStc (fun c =>
    { c with station := some .isolated, isolation := Config.isolationSeconds, settle := 0 }) p) :=
  loosens_of_settings rfl nofun rfl rfl

theorem keeps_enterIsolated (p : Part) : Keeps p (enterIsolated p) := by
  have hnotice : ∀ p o, Grows p (discardNotice p o) := fun p o => by
    unfold discardNotice
    split
    · exact grows_discardInput ..
    · exact .refl p
  have hqueue := (grows_discardQueue p).trans (grows_foldl hnotice (discardedOwners p) (discardQueue p))
  have hlink := (hqueue.trans (grows_oweLogin _)).trans (grows_modLif (fun l => { l with waiting := [], errors := 0 }) _)
  have hleft := hlink.loosens.trans (loosens_setIsolated _)
  have hfreed := (hleft.trans (loosens_aruIsolated _)).trans (loosens_houIsolated _)
  exact (hfreed.trans (grows_cancelRelief .holdings none _).loosens).settled.trans
    ((grows_produce ..).trans (grows_deriveHorn _)).keeps

theorem keeps_onSending {f : Fin 12 → Slot → Part → Part} (hf : ∀ k x, Keeps p (f k x p)) : Keeps p (onSending f p) := by
  unfold onSending
  (repeat' split)
  · exact hf ..
  · exact .refl p
  · exact .refl p

theorem grows_endAttempt (k : Fin 12) (x : Slot) (p : Part) : Grows p (endAttempt k x p) :=
  grows_ite _ (grows_freeSlot k p) ((grows_modLif _ p).trans (grows_markReturned ..))

theorem keeps_countError {f : Part → Part} (hf : ∀ q, Keeps q (f q)) (p : Part) : Keeps p (countError f p) := by
  have hcount := ((grows_modLif (fun l => { l with errors := l.errors + 1 }) p).trans (grows_modCnp
    (fun c => { c with stats := { c.stats with transmitErrors := c.stats.transmitErrors + 1 } }) _)).keeps
  exact keeps_ite _ (hcount.trans (keeps_enterIsolated _)) (hcount.trans (hf _))

theorem grows_beginAttempt (p : Part) : Grows p (beginAttempt p) := by
  unfold beginAttempt
  split
  · split
    · split
      · exact (grows_modLif ..).trans (grows_markAttempt ..)
      · exact .refl p
    · exact .refl p
  · exact .refl p

theorem grows_receive (b : List Byte) (p : Part) : Grows p (receive b p) := by
  unfold receive
  refine grows_ite _ (grows_ite _ (.refl p) (grows_ite _ (grows_ite _ (.refl p) ?_) ?_)) (.refl p)
  · exact grows_of_frame rfl rfl rfl rfl rfl
  · split <;> exact grows_of_frame rfl rfl rfl rfl rfl

theorem grows_beaconCompleted (c : BeaconContent) (p : Part) : Grows p (beaconCompleted c p) := by
  have haru : ∀ (f : Aru → Aru) (q : Part), (∀ x, (f x).views = x.views) → Grows q (modAru f q) := fun f q hf =>
    grows_of_frame rfl rfl rfl (hf _) rfl
  have hnext := haru (fun r => { r with schedule := ownPeriod p, first := nextFirst c }) p fun _ => rfl
  refine grows_ite _ hnext (grows_ite _ ?_ (hnext.trans (haru _ _ fun _ => by rfl)))
  exact hnext.trans ((haru _ _ fun _ => by rfl).trans (grows_callBeacon _))

/-! ## Start-up (chapter 11) and the tick -/

theorem atRest_resetPart (x : StationNo) (c : ResetCause) (w : Stats) : AtRest (resetPart x c w) := by
  have hzero : ∀ q : Part, q.ldm = {} → ∀ a, loadOf q a = 0 ∧ inFlood q a = false := fun q hq a => by
    simp [loadOf, inFlood, hq]
  unfold resetPart
  simp only
  split <;> exact ⟨rfl, rfl, hzero _ rfl⟩

theorem keeps_of_atRest (h : AtRest q) : Keeps p q :=
  ⟨fun _ => ⟨by simp [h.1], by rw [h.1]; trivial, by simp [h.1]⟩, fun _ => h.followFine⟩

theorem keeps_consoleReset (x : StationNo) (p : Part) : Keeps p (consoleReset x p) :=
  keeps_ite _ (keeps_of_atRest (atRest_resetPart ..)) (keeps_of_atRest (atRest_resetPart ..))

theorem loosens_startView (p : Part) (a : Area) : Loosens p (startView p a) :=
  loosens_of_frame (by simp) (by simp) (by simp)

theorem keeps_startingFollows (w : Reason) {p q : Part} (h : Loosens p q) : Keeps p (startingFollows w q) :=
  (h.trans (loosens_foldl loosens_startView _ _)).settled.trans
    (((grows_judgeStartup _).trans (grows_produce ..)).trans (grows_deriveHorn _)).keeps

theorem keeps_imageRead (ok : Bool) (b : List Byte) (p : Part) : Keeps p (imageRead ok b p) := by
  unfold imageRead
  split
  · next hs =>
    have hs : p.stc.station = none := by simpa using hs
    have hrest : ∀ q : Part, q.atu = p.atu → q.ldm = p.ldm → Loosens p q := fun q ha hl =>
      ⟨(tableFine_congr ha).2, fun h => by
        have := (atRest_congr ha hl).2 (h.2 hs)
        exact ⟨this.bounded _, fun _ => this⟩⟩
    split
    · next fault _ =>
      have hatu : (enterUnconfigured fault p).atu = p.atu := by simp [enterUnconfigured]
      have hldm : (enterUnconfigured fault p).ldm = p.ldm := by simp [enterUnconfigured]
      refine ⟨(tableFine_congr hatu).2, fun h => ?_⟩
      exact ((atRest_congr hatu hldm).2 ((followFine_iff.1 h).2 hs)).followFine
    · exact keeps_startingFollows _ (hrest _ rfl rfl)
  · exact .refl p

theorem grows_inputRunning (p : Part) (i : Fin 8) : Grows p (inputRunning p i) :=
  (grows_seedInput p i).trans (grows_pushTelegram ..)

theorem grows_sendReadyAnswers (p : Part) : Grows p (sendReadyAnswers p) :=
  grows_foldl (fun _ _ => grows_ite _ (grows_pushTelegram ..) (.refl _)) _ p

theorem grows_ownSchedule (p : Part) : Grows p (modAru (fun x => { x with schedule := ownPeriod p }) p) :=
  grows_of_frame rfl rfl rfl rfl rfl

theorem keeps_settleRun (p : Part) : Keeps p (settleRun p) := by
  unfold settleRun enterRunning aruRunning
  refine keeps_ite _ ?_ (.refl p)
  have hset : Keeps p (settleAreas (modViews (fun v => { v with startup := false })
      (modStc (fun c => { c with station := some .running, settle := 0 }) p))) :=
    Loosens.settled (loosens_of_settings rfl nofun rfl rfl)
  refine hset.trans (Grows.keeps ?_)
  refine ((grows_callBeacon _).trans (grows_ownSchedule _)).trans ((grows_judgeClaims _).trans ?_)
  exact (grows_foldl grows_inputRunning (List.finRange 8) _).trans
    ((grows_sendReadyAnswers _).trans ((grows_produce ..).trans (grows_deriveHorn _)))

theorem keeps_isolationRun (p : Part) : Keeps p (isolationRun p) :=
  keeps_ite _ (keeps_startingFollows _ (Loosens.trans (q := modStc setStarting p) (loosens_of_settings rfl nofun rfl rfl)
    (grows_placeOwedLogin _).loosens)) (.refl p)

/-- The count of the shelves alone. -/
def shelvesTicked (p : Part) : Part := { p with atu := tickAtu p.atu }

theorem lower_range {n : Nat} (h : 1 ≤ n ∧ n ≤ 28800) : 1 ≤ lower n ∧ lower n ≤ 28800 := by
  unfold lower; split <;> omega

theorem keeps_shelvesTicked (hp : p.stc.station ≠ none) : Keeps p (shelvesTicked p) := by
  refine keeps_of_bounded hp rfl (fun _ => id) (fun h => ?_) fun h => ⟨fun e m => ?_, h.2⟩
  · refine tableFine_map h _ rfl (fun _ => rfl) fun e _ ⟨hr, hs, hu, hk, hc, hx⟩ => ?_
    refine ⟨fun g => hr (Option.map_eq_none_iff.1 g), fun g => Option.map_eq_none_iff.2 (hs g), hu, hk, hc, fun x g => ?_⟩
    obtain ⟨y, hy, rfl⟩ := Option.map_eq_some_iff.1 g
    exact lower_range (hx y hy)
  · obtain ⟨y, hy, rfl⟩ := List.mem_map.1 m
    exact h.1 y hy

theorem grows_ticked (p : Part) : Grows p
    { p with stc := tickStc p.stc, ssu := tickSsu p.ssu, aru := tickAru (running p) p.aru, hou := tickHou p.hou } where
  settings := rfl
  station := id
  atu := rfl
  ldm := rfl
  holds := fun a h => by
    have hrole : (view p a).role = .hold := of_decide_eq_true h
    refine decide_eq_true ?_
    simpa only [view, tickAru, tabulate_get, tickView] using hrole
  receptions := fun i x hx => by
    refine ⟨tickReception x, by simp [tickHou, hx], ?_⟩
    unfold tickReception
    split <;> rfl

theorem keeps_countTick (hp : p.stc.station ≠ none) : Keeps p (countTick p) :=
  ((keeps_shelvesTicked hp).trans (grows_ticked _).keeps).trans (grows_judgeClaims _).keeps

theorem grows_advanceSeconds (p : Part) : Grows p (advanceSeconds p) :=
  ⟨rfl, id, rfl, rfl, fun _ => id, fun _ x h => ⟨x, h, rfl⟩⟩

theorem tickStep_part (s : State) : (tickStep s).part = if s.part.stc.station.isNone then s.part
    else if listening s.part then countTick (advanceSeconds s.part) else advanceSeconds s.part := by
  simp only [tickStep, apply_ite State.part, State.withPart]

theorem keeps_tickStep (s : State) : Keeps s.part (tickStep s).part := by
  rw [tickStep_part]
  refine keeps_ite _ (.refl _) ?_
  split
  · next hl => exact (grows_advanceSeconds _).keeps.trans (keeps_countTick (listening_station hl))
  · exact (grows_advanceSeconds _).keeps

/-! ## The Console Port (chapter 10) -/

theorem keeps_request {α : Type} {code : Byte} {always : Bool} {form : List Byte → Option α} {serve : α → Part → Part}
    (hserve : ∀ x q, Keeps q (serve x q)) (f : Frame) (p : Part) : Keeps p (request code always form serve f p) := by
  unfold request
  refine keeps_ite _ (.refl p) (keeps_ite _ (grows_modCnp ..).keeps (keeps_ite _ (grows_modCnp ..).keeps ?_))
  simp only
  split
  · exact ((grows_modCnp ..).trans (grows_modCnp ..)).keeps
  · exact keeps_ite _ ((grows_modCnp ..).trans (grows_modCnp ..)).keeps ((grows_modCnp ..).keeps.trans (hserve ..))

theorem grows_answerWith (c : ResultCode) (b : List Byte) (p : Part) : Grows p (answerWith c b p) := grows_modCnp ..

theorem grows_queueRequest (d : StationNo) (x : Payload) (p : Part) : Grows p (queueRequest d x p) :=
  grows_placeTelegram ..

theorem grows_serveReadEntry (t : Tag) (p : Part) : Grows p (serveReadEntry t p) := by
  unfold serveReadEntry; split <;> exact grows_answerWith ..

theorem grows_serveReadReception (i : Fin 4) (m n : Nat) (p : Part) : Grows p (serveReadReception i m n p) := by
  unfold serveReadReception; split <;> exact grows_answerWith ..

theorem grows_serveAck (t : Tag) (p : Part) : Grows p (serveAck t p) := by
  unfold serveAck
  split
  · exact grows_answerWith ..
  · exact (grows_queueRequest ..).trans (grows_answerWith ..)

theorem grows_serveShelve (t : Tag) (m : Nat) (p : Part) : Grows p (serveShelve t m p) := by
  unfold serveShelve
  split
  · exact grows_answerWith ..
  · exact (grows_queueRequest ..).trans (grows_answerWith ..)

theorem grows_serveUnshelve (t : Tag) (p : Part) : Grows p (serveUnshelve t p) := by
  unfold serveUnshelve
  split
  · exact grows_answerWith ..
  · exact (grows_queueRequest ..).trans (grows_answerWith ..)

theorem grows_serveTrip (b : Bool) (a : Area) (p : Part) : Grows p (serveTrip b a p) := by
  unfold serveTrip
  split
  · exact grows_answerWith ..
  · exact (grows_queueRequest ..).trans (grows_answerWith ..)

theorem grows_serveOffer (a : Area) (b : Byte) (p : Part) : Grows p (serveOffer a b p) := by
  unfold serveOffer
  split
  · exact grows_answerWith ..
  · exact (grows_startOffer ..).trans (grows_answerWith ..)

theorem grows_armRelief (p : Part) : Grows p (armRelief p) := grows_of_frame rfl rfl rfl rfl rfl

theorem grows_serveRelief (p : Part) : Grows p (serveRelief p) := by
  unfold serveRelief
  split
  · exact grows_answerWith ..
  · exact (grows_armRelief p).trans (grows_answerWith ..)

theorem grows_serveLogout (p : Part) : Grows p (serveLogout p) :=
  grows_ite _ ((grows_endSession ..).trans (grows_answerWith ..)) (grows_answerWith ..)

end Sys2Proof.Machine
end


section
/-! PROOFS. O57 command by command: the telegrams and completion marks of the ring, the transmit attempt, the requests of the
Console Port, and then the step. -/

namespace Sys2Proof.Machine

variable {p : Part}

/-- What a rule of the ring makes of the state, if it applies, keeps the table. -/
def KeepsSome (p : Part) (o : Option Part) : Prop := ∀ q, o = some q → Keeps p q

theorem keepsSome_none (p : Part) : KeepsSome p none := fun _ h => Option.noConfusion rfl (heq_of_eq h)

theorem keepsSome_some {q : Part} (h : Keeps p q) : KeepsSome p (some q) := fun _ e => Option.some.inj e ▸ h

theorem keepsSome_ite {c : Prop} [Decidable c] {o o' : Option Part} (h : KeepsSome p o) (h' : KeepsSome p o') :
    KeepsSome p (if c then o else o') := by
  split
  · exact h
  · exact h'

theorem keepsSome_addressed (t : Telegram) {q : Part} (h : Keeps p q) : KeepsSome p (some (if addressed t then q else p)) :=
  keepsSome_some (keeps_ite _ h (.refl p))

/-! ## Telegrams received -/

theorem keepsSome_takenCondition (hp : p.stc.station ≠ none) (t : Telegram) : KeepsSome p (takenCondition t p) := by
  unfold takenCondition
  split
  · exact keepsSome_some (keeps_applyCondition hp ..)
  · exact keepsSome_none p

theorem keepsSome_takenAcknowledge (hp : p.stc.station ≠ none) (t : Telegram) : KeepsSome p (takenAcknowledge t p) := by
  unfold takenAcknowledge
  split
  · exact keepsSome_some (keeps_applyAcknowledge hp ..)
  · exact keepsSome_none p

theorem keepsSome_takenShelve (hp : p.stc.station ≠ none) (t : Telegram) : KeepsSome p (takenShelve t p) := by
  unfold takenShelve
  split
  · exact keepsSome_ite (keepsSome_none p) (keepsSome_some (keeps_applyShelve hp ..))
  · exact keepsSome_none p

theorem keepsSome_takenUnshelve (hp : p.stc.station ≠ none) (t : Telegram) : KeepsSome p (takenUnshelve t p) := by
  unfold takenUnshelve
  split
  · exact keepsSome_ite (keepsSome_some (keeps_applyUnshelve hp ..)) (keepsSome_none p)
  · exact keepsSome_none p

theorem keepsSome_takenBeacon (t : Telegram) : KeepsSome p (takenBeacon t p) := by
  unfold takenBeacon
  split
  · exact keepsSome_some (keeps_applyBeacon ..)
  · exact keepsSome_none p

theorem keepsSome_takenSyncRequest (t : Telegram) : KeepsSome p (takenSyncRequest t p) := by
  unfold takenSyncRequest
  split
  · exact keepsSome_addressed t (grows_ite _ (grows_startSync ..) (.refl p)).keeps
  · exact keepsSome_none p

theorem keepsSome_takenTrip (t : Telegram) : KeepsSome p (takenTrip t p) := by
  unfold takenTrip
  split
  · exact keepsSome_some (keeps_tripArea ..)
  · exact keepsSome_none p

theorem keepsSome_takenRestore (t : Telegram) : KeepsSome p (takenRestore t p) := by
  unfold takenRestore
  split
  · exact keepsSome_some (grows_leaveEmergency ..).keeps
  · exact keepsSome_none p

theorem keepsSome_takenLogin (t : Telegram) : KeepsSome p (takenLogin t p) := by
  unfold takenLogin
  split
  · exact keepsSome_some (grows_applyLogin ..).keeps
  · exact keepsSome_none p

theorem keepsSome_takenOffer (hp : p.stc.station ≠ none) (t : Telegram) : KeepsSome p (takenOffer t p) := by
  unfold takenOffer
  split
  · exact keepsSome_addressed t (keeps_applyOffer hp ..)
  · exact keepsSome_none p

theorem keepsSome_takenHandoverDigest (hp : p.stc.station ≠ none) (t : Telegram) : KeepsSome p (takenHandoverDigest t p) := by
  unfold takenHandoverDigest
  split
  · exact keepsSome_ite (keepsSome_none p) (keepsSome_addressed t (keeps_applyHandoverDigest hp ..))
  · exact keepsSome_none p

theorem keepsSome_takenSyncDigest (hp : p.stc.station ≠ none) (t : Telegram) : KeepsSome p (takenSyncDigest t p) := by
  unfold takenSyncDigest
  split
  · exact keepsSome_ite (keepsSome_some (keeps_ite _ (.refl p) (keeps_applySyncDigest hp ..))) (keepsSome_none p)
  · exact keepsSome_none p

theorem keepsSome_takenReply (t : Telegram) : KeepsSome p (takenReply t p) := by
  unfold takenReply
  split
  · exact keepsSome_addressed t (keeps_applyReply ..)
  · exact keepsSome_none p

theorem keepsSome_takenRelease (t : Telegram) : KeepsSome p (takenRelease t p) := by
  unfold takenRelease
  split
  · exact keepsSome_addressed t (keeps_applyRelease ..)
  · exact keepsSome_none p

theorem keepsSome_takenWithdraw (t : Telegram) : KeepsSome p (takenWithdraw t p) := by
  unfold takenWithdraw
  split
  · exact keepsSome_addressed t (keeps_applyWithdraw ..)
  · exact keepsSome_none p

/-! ## Completions -/

theorem grows_answerCompleted (n : Nat) (p : Part) : Grows p (answerCompleted n p) := grows_of_frame rfl rfl rfl rfl rfl

theorem keeps_modInput (i : Fin 8) (f : InputRecord → InputRecord) (p : Part) : Keeps p (modInput i f p) :=
  (grows_modInput i f p).keeps

theorem keeps_conditionCompleted (hp : p.stc.station ≠ none) (i : Fin 8) (t : Tag) (x : Priority) (b : Bool) (n : Occurrence) :
    Keeps p (conditionCompleted i t x b n p) :=
  (keeps_modInput i _ p).trans ((keeps_applyCondition (by simpa using hp) t x b n).trans (grows_judgeInput i _).keeps)

theorem keepsSome_completedTrip (x : Slot) : KeepsSome p (completedTrip x p) := by
  unfold completedTrip
  split
  · refine keepsSome_some (Keeps.trans ?_ (keeps_tripArea ..))
    split
    · exact keeps_modInput ..
    · exact .refl p
  · exact keepsSome_none p

theorem keepsSome_completedCondition (hp : p.stc.station ≠ none) (x : Slot) : KeepsSome p (completedCondition x p) := by
  unfold completedCondition
  split
  · exact keepsSome_some (keeps_conditionCompleted hp ..)
  · exact keepsSome_none p

theorem keepsSome_completedAcknowledge (hp : p.stc.station ≠ none) (x : Slot) : KeepsSome p (completedAcknowledge x p) := by
  unfold completedAcknowledge
  split
  · exact keepsSome_some (keeps_applyAcknowledge hp ..)
  · exact keepsSome_none p

theorem keepsSome_completedShelve (hp : p.stc.station ≠ none) (x : Slot) : KeepsSome p (completedShelve x p) := by
  unfold completedShelve
  split
  · exact keepsSome_some (keeps_ite _ (keeps_applyUnshelve hp _) (keeps_applyShelve hp ..))
  · exact keepsSome_none p

theorem keepsSome_completedRestore (x : Slot) : KeepsSome p (completedRestore x p) := by
  unfold completedRestore
  split
  · exact keepsSome_some (grows_leaveEmergency ..).keeps
  · exact keepsSome_none p

theorem keepsSome_completedLogin (x : Slot) : KeepsSome p (completedLogin x p) := by
  unfold completedLogin
  split
  · exact keepsSome_some (grows_modSsu ..).keeps
  · exact keepsSome_none p

theorem keepsSome_completedBeacon (x : Slot) : KeepsSome p (completedBeacon x p) := by
  unfold completedBeacon
  split
  · exact keepsSome_some (grows_beaconCompleted ..).keeps
  · exact keepsSome_none p

theorem keepsSome_completedSyncRequest (x : Slot) : KeepsSome p (completedSyncRequest x p) := by
  unfold completedSyncRequest
  split
  · exact keepsSome_some (keeps_ite _ (.refl p) (grows_modView _ (fun _ h => by exact h) p).keeps)
  · exact keepsSome_none p

theorem keepsSome_completedOffer (x : Slot) : KeepsSome p (completedOffer x p) := by
  unfold completedOffer
  split
  · exact keepsSome_some (grows_offerCompleted ..).keeps
  · exact keepsSome_none p

theorem keepsSome_completedHandoverSegment (x : Slot) : KeepsSome p (completedHandoverSegment x p) := by
  unfold completedHandoverSegment
  split
  · exact keepsSome_ite (keepsSome_none p) (keepsSome_some (grows_segmentCompleted ..).keeps)
  · exact keepsSome_none p

theorem keepsSome_completedSyncSegment (x : Slot) : KeepsSome p (completedSyncSegment x p) := by
  unfold completedSyncSegment
  split
  · exact keepsSome_ite (keepsSome_some (grows_segmentCompleted ..).keeps) (keepsSome_none p)
  · exact keepsSome_none p

theorem keepsSome_completedReply (x : Slot) : KeepsSome p (completedReply x p) := by
  unfold completedReply
  split
  · exact keepsSome_some (keeps_replyCompleted ..)
  · exact keepsSome_none p

theorem keepsSome_completedRelease (x : Slot) : KeepsSome p (completedRelease x p) := by
  unfold completedRelease
  split
  · exact keepsSome_some (keeps_releaseCompleted ..)
  · exact keepsSome_none p

theorem keepsSome_completedAnswer (x : Slot) : KeepsSome p (completedAnswer x p) := by
  unfold completedAnswer
  split
  · exact keepsSome_some (grows_answerCompleted ..).keeps
  · exact keepsSome_none p

/-! ## The transmit attempt -/

theorem grows_completeSlot (k : Fin 12) (x : Slot) (p : Part) : Grows p (completeSlot k x p) :=
  grows_of_frame rfl rfl rfl rfl rfl

theorem keeps_faultBusy (p : Part) : Keeps p (faultBusy p) := keeps_ite _ (keeps_countError .refl p) (.refl p)

/-! ## The clock's commands -/

theorem keeps_holderRun (a : Area) (p : Part) : Keeps p (holderRun a p) := keeps_ite _ (keeps_forgetHolder a p) (.refl p)

theorem grows_stationRun (x : StationNo) (p : Part) : Grows p (stationRun x p) := by
  unfold stationRun
  split
  · exact grows_ite _ (grows_of_frame rfl rfl rfl rfl rfl) (.refl p)
  · exact .refl p

theorem grows_claimRun (a : Area) (p : Part) : Grows p (claimRun a p) :=
  grows_ite _ ((grows_modView a (fun _ h => by exact h) p).trans (grows_judgeClaims _)) (.refl p)

theorem grows_setScheduleDue (p : Part) : Grows p (modAru (fun r => { r with schedule := 0 }) p) :=
  grows_of_frame rfl rfl rfl rfl rfl

theorem grows_scheduleRun (p : Part) : Grows p (scheduleRun p) :=
  grows_ite _ ((grows_setScheduleDue p).trans (grows_callBeacon _)) (.refl p)

/-! ## Requests that only answer, and the two that judge a review -/

theorem grows_readPort (n : Nat) (p : Part) : Grows p (readPort n p) := grows_of_frame rfl rfl rfl rfl rfl

theorem grows_serveReadEvents (n : Nat) (p : Part) : Grows p (serveReadEvents n p) :=
  (grows_modCnp ..).trans (grows_answerWith ..)

theorem grows_serveStatus (p : Part) : Grows p (serveStatus p) := (grows_answerWith ..).trans (grows_modCnp ..)

theorem grows_silenceHorn (p : Part) : Grows p (silenceHorn p) := grows_of_frame rfl rfl rfl rfl rfl

theorem grows_serveAccept (a : Area) (p : Part) : Grows p (serveAccept a p) :=
  (grows_refusedStarting (grows_tryAccept ..)).trans (grows_answerWith ..)

theorem grows_serveDecline (a : Area) (p : Part) : Grows p (serveDecline a p) :=
  (grows_refusedStarting (grows_tryDecline ..)).trans (grows_answerWith ..)

theorem keeps_badRequest (c : Byte) (f : Frame) (p : Part) : Keeps p
    (if 1 ≤ c.toNat ∧ c.toNat ≤ 19 then p else request c true (fun _ => (none : Option Unit)) (fun _ q => q) f p) :=
  keeps_ite _ (.refl p) (keeps_request (fun _ => .refl) f p)

/-! ## Every command -/

theorem exec_keeps (c : Instr) (s : State) : ∃ q, exec c s = .next (s.withPart q) ∧ Keeps s.part q := by
  cases c with
  | powerOnReset straps => exact ⟨_, rfl, keeps_of_atRest (atRest_resetPart ..)⟩
  | consoleReset straps => exact ⟨_, rfl, keeps_consoleReset ..⟩
  | imageReadComplete ok b => exact ⟨_, rfl, keeps_imageRead ..⟩
  | settleEnd => exact ⟨_, rfl, keeps_settleRun _⟩
  | isolationEnd => exact ⟨_, rfl, keeps_isolationRun _⟩
  | voidTransaction first => exact ⟨_, rfl, .refl _⟩
  | readTransaction n => exact ⟨_, rfl, (grows_readPort ..).keeps⟩
  | status f => exact ⟨_, rfl, keeps_request (fun _ q => (grows_serveStatus q).keeps) f _⟩
  | readEntry f => exact ⟨_, rfl, keeps_request (fun x q => (grows_serveReadEntry x q).keeps) f _⟩
  | readList f => exact ⟨_, rfl, keeps_request (fun _ _ => (grows_answerWith ..).keeps) f _⟩
  | readArea f => exact ⟨_, rfl, keeps_request (fun _ _ => (grows_answerWith ..).keeps) f _⟩
  | readReception f => exact ⟨_, rfl, keeps_request (fun _ _ => (grows_serveReadReception ..).keeps) f _⟩
  | readEvents f => exact ⟨_, rfl, keeps_request (fun x q => (grows_serveReadEvents x q).keeps) f _⟩
  | readStats f => exact ⟨_, rfl, keeps_request (fun _ _ => (grows_answerWith ..).keeps) f _⟩
  | ack f => exact ⟨_, rfl, keeps_request (fun x q => (grows_serveAck x q).keeps) f _⟩
  | shelve f => exact ⟨_, rfl, keeps_request (fun _ _ => (grows_serveShelve ..).keeps) f _⟩
  | unshelve f => exact ⟨_, rfl, keeps_request (fun x q => (grows_serveUnshelve x q).keeps) f _⟩
  | silence f => exact ⟨_, rfl, keeps_request (fun _ q => ((grows_silenceHorn q).trans (grows_answerWith ..)).keeps) f _⟩
  | offer f => exact ⟨_, rfl, keeps_request (fun _ _ => (grows_serveOffer ..).keeps) f _⟩
  | accept f => exact ⟨_, rfl, keeps_request (fun x q => (grows_serveAccept x q).keeps) f _⟩
  | decline f => exact ⟨_, rfl, keeps_request (fun x q => (grows_serveDecline x q).keeps) f _⟩
  | relief f => exact ⟨_, rfl, keeps_request (fun _ q => (grows_serveRelief q).keeps) f _⟩
  | logout f => exact ⟨_, rfl, keeps_request (fun _ q => (grows_serveLogout q).keeps) f _⟩
  | declareTrip f => exact ⟨_, rfl, keeps_request (fun x q => (grows_serveTrip false x q).keeps) f _⟩
  | restore f => exact ⟨_, rfl, keeps_request (fun x q => (grows_serveTrip true x q).keeps) f _⟩
  | restart f => exact ⟨_, rfl, keeps_request (fun _ q => keeps_consoleReset q.stc.strapPins q) f _⟩
  | keySilencePress => exact ⟨_, rfl, (grows_pressKey ..).keeps⟩
  | keyAcceptPress => exact ⟨_, rfl, (grows_pressKey ..).keeps⟩
  | keyDeclinePress => exact ⟨_, rfl, (grows_pressKey ..).keeps⟩
  | keyReliefPress => exact ⟨_, rfl, (grows_pressKey ..).keeps⟩
  | alarmInputChange i => exact ⟨_, rfl, (grows_changeInput ..).keeps⟩
  | tripInputActivation i => exact ⟨_, rfl, (grows_activateTrip ..).keeps⟩
  | badgePresentation b => exact ⟨_, rfl, keeps_badgeBurst ..⟩
  | telegramReceived b => exact ⟨_, rfl, (grows_receive ..).keeps⟩
  | takeCondition => exact ⟨_, rfl, keeps_takeTelegram fun t q hp => keepsSome_takenCondition hp t q⟩
  | takeAcknowledge => exact ⟨_, rfl, keeps_takeTelegram fun t q hp => keepsSome_takenAcknowledge hp t q⟩
  | takeShelve => exact ⟨_, rfl, keeps_takeTelegram fun t q hp => keepsSome_takenShelve hp t q⟩
  | takeUnshelve => exact ⟨_, rfl, keeps_takeTelegram fun t q hp => keepsSome_takenUnshelve hp t q⟩
  | takeBeacon => exact ⟨_, rfl, keeps_takeTelegram fun t q _ => keepsSome_takenBeacon t q⟩
  | takeSyncRequest => exact ⟨_, rfl, keeps_takeTelegram fun t q _ => keepsSome_takenSyncRequest t q⟩
  | takeTrip => exact ⟨_, rfl, keeps_takeTelegram fun t q _ => keepsSome_takenTrip t q⟩
  | takeRestore => exact ⟨_, rfl, keeps_takeTelegram fun t q _ => keepsSome_takenRestore t q⟩
  | takeLogin => exact ⟨_, rfl, keeps_takeTelegram fun t q _ => keepsSome_takenLogin t q⟩
  | takeOffer => exact ⟨_, rfl, keeps_takeTelegram fun t q hp => keepsSome_takenOffer hp t q⟩
  | takeHandoverDigest => exact ⟨_, rfl, keeps_takeTelegram fun t q hp => keepsSome_takenHandoverDigest hp t q⟩
  | takeSyncDigest => exact ⟨_, rfl, keeps_takeTelegram fun t q hp => keepsSome_takenSyncDigest hp t q⟩
  | takeReply => exact ⟨_, rfl, keeps_takeTelegram fun t q _ => keepsSome_takenReply t q⟩
  | takeRelease => exact ⟨_, rfl, keeps_takeTelegram fun t q _ => keepsSome_takenRelease t q⟩
  | takeWithdraw => exact ⟨_, rfl, keeps_takeTelegram fun t q _ => keepsSome_takenWithdraw t q⟩
  | sendAttempt => exact ⟨_, rfl, (grows_beginAttempt _).keeps⟩
  | arbitrationLost => exact ⟨_, rfl, keeps_onSending fun k x => (grows_endAttempt k x _).keeps⟩
  | lineCompletion => exact ⟨_, rfl, keeps_onSending fun k x => (grows_completeSlot k x _).keeps⟩
  | transmitError => exact ⟨_, rfl, keeps_onSending fun k x => keeps_countError (fun q => (grows_endAttempt k x q).keeps) _⟩
  | busyFault => exact ⟨_, rfl, keeps_faultBusy _⟩
  | conditionCompletion => exact ⟨_, rfl, keeps_takeMark fun x q hp => keepsSome_completedCondition hp x q⟩
  | acknowledgeCompletion => exact ⟨_, rfl, keeps_takeMark fun x q hp => keepsSome_completedAcknowledge hp x q⟩
  | shelveCompletion => exact ⟨_, rfl, keeps_takeMark fun x q hp => keepsSome_completedShelve hp x q⟩
  | tripCompletion => exact ⟨_, rfl, keeps_takeMark fun x q _ => keepsSome_completedTrip x q⟩
  | restoreCompletion => exact ⟨_, rfl, keeps_takeMark fun x q _ => keepsSome_completedRestore x q⟩
  | loginCompletion => exact ⟨_, rfl, keeps_takeMark fun x q _ => keepsSome_completedLogin x q⟩
  | beaconCompletion => exact ⟨_, rfl, keeps_takeMark fun x q _ => keepsSome_completedBeacon x q⟩
  | syncRequestCompletion => exact ⟨_, rfl, keeps_takeMark fun x q _ => keepsSome_completedSyncRequest x q⟩
  | offerCompletion => exact ⟨_, rfl, keeps_takeMark fun x q _ => keepsSome_completedOffer x q⟩
  | digestSegmentCompletion => exact ⟨_, rfl, keeps_takeMark fun x q _ => keepsSome_completedHandoverSegment x q⟩
  | syncSegmentCompletion => exact ⟨_, rfl, keeps_takeMark fun x q _ => keepsSome_completedSyncSegment x q⟩
  | replyCompletion => exact ⟨_, rfl, keeps_takeMark fun x q _ => keepsSome_completedReply x q⟩
  | releaseCompletion => exact ⟨_, rfl, keeps_takeMark fun x q _ => keepsSome_completedRelease x q⟩
  | answerItemCompletion => exact ⟨_, rfl, keeps_takeMark fun x q _ => keepsSome_completedAnswer x q⟩
  | shelfExpiry t => exact ⟨_, rfl, keeps_shelfRun t _⟩
  | meteringTick => exact ⟨_, rfl, keeps_meterTick _⟩
  | holderAged a => exact ⟨_, rfl, keeps_holderRun a _⟩
  | stationUnheard x => exact ⟨_, rfl, (grows_stationRun x _).keeps⟩
  | claimDelayRun a => exact ⟨_, rfl, (grows_claimRun a _).keeps⟩
  | beaconScheduleDue => exact ⟨_, rfl, (grows_scheduleRun _).keeps⟩
  | answerGapExpiry i => exact ⟨_, rfl, (grows_answerGapRun i _).keeps⟩
  | gapTimeout i => exact ⟨_, rfl, keeps_gapRun i _⟩
  | reviewTimeout i => exact ⟨_, rfl, (grows_reviewRun i _).keeps⟩
  | releaseTimeout i => exact ⟨_, rfl, keeps_releaseRun i _⟩
  | replyTimeout i => exact ⟨_, rfl, (grows_replyRun i _).keeps⟩
  | graceExpiry => exact ⟨_, rfl, keeps_graceRun _⟩
  | reliefWindowExpiry => exact ⟨_, rfl, (grows_ite _ (grows_cancelRelief ..) (.refl _)).keeps⟩
  | keyReleaseEdge k => exact ⟨_, rfl, (grows_releaseKey k _).keeps⟩
  | keyFirstSettling k d => exact ⟨_, rfl, (grows_settleKey k d _).keeps⟩
  | inputFirstSettling i b => exact ⟨_, rfl, (grows_settleContact i b _).keeps⟩
  | tripInputDeactivation i => exact ⟨_, rfl, (grows_clearTrip i _).keeps⟩
  | sampleTick k c => exact ⟨_, rfl, (grows_sampleStep k c _).keeps⟩
  | badRequest c f => exact ⟨_, rfl, keeps_badRequest c f _⟩

theorem step_keeps {s u : State} (h : step s = .next u) : Keeps s.part u.part := by
  unfold step at h
  split at h
  · next c rest _ =>
    obtain ⟨q, hexec, hkeeps⟩ := exec_keeps c { s with pending := rest }
    rw [hexec] at h
    exact Host.Outcome.next.inj h ▸ hkeeps
  · exact Host.Outcome.next.inj h ▸ keeps_tickStep s

end Sys2Proof.Machine

open Sys2Proof.Machine in
/-- Settles O57: each command of `exec`, and the tick, keeps both invariants (`step_keeps`). -/
theorem stepsKeepTableFine : Obligations.StepsKeepTableFine := by
  intro s u h
  exact ⟨(step_keeps h).table, (step_keeps h).follow⟩
end


section
/-! PROOFS. The comparison of occurrence numbers (R8, O36), and what reset leaves (O5). -/

namespace Sys2Proof.Machine

/-- The circular difference of R8, the byte's subtraction read as a number. -/
theorem occurrence_sub_toNat (n m : Occurrence) : (n - m).toNat = (256 + n.toNat - m.toNat) % 256 := by
  rw [BitVec.toNat_sub]
  omega

theorem compareOccurrence_equal_iff (n m : Occurrence) : compareOccurrence n m = .equal ↔ (n - m).toNat = 0 := by
  unfold compareOccurrence
  (repeat' split) <;> simp_all [← BitVec.toNat_inj]

theorem compareOccurrence_newer_iff (n m : Occurrence) :
    compareOccurrence n m = .newer ↔ 1 ≤ (n - m).toNat ∧ (n - m).toNat ≤ 127 := by
  unfold compareOccurrence
  simp only [← BitVec.toNat_inj]
  (repeat' split) <;> simp_all
  omega

theorem compareOccurrence_older_iff (n m : Occurrence) :
    compareOccurrence n m = .older ↔ 128 ≤ (n - m).toNat ∧ (n - m).toNat ≤ 255 := by
  have := (n - m).isLt
  unfold compareOccurrence
  simp only [← BitVec.toNat_inj]
  (repeat' split) <;> simp_all <;> omega

/-! ## Reset: every register file holds its default record -/

theorem reset_view (a : Area) : view State.reset.part a = {} := tabulate_get _ a

theorem reset_key (k : Fin 4) : key State.reset.part k = {} := tabulate_get _ k

theorem reset_input (i : Fin 8) : input State.reset.part i = {} := tabulate_get _ i

theorem reset_offer (r : Fin 4) : State.reset.part.hou.offers.get r = none := tabulate_get _ r

theorem reset_reception (r : Fin 4) : State.reset.part.hou.receptions.get r = none := tabulate_get _ r

theorem reset_slot (k : Fin 12) : State.reset.part.lif.slots.get k = none := tabulate_get _ k

theorem reset_atRest : AtRest State.reset.part := ⟨rfl, rfl, fun a => ⟨tabulate_get _ a, by simp [inFlood, State.reset]⟩⟩

theorem reset_holds (a : Area) : holds State.reset.part a = false := by simp [holds, reset_view]

theorem reset_emergency (a : Area) : emergency State.reset.part a = false := by simp [emergency, reset_view]

/-- The thresholds of no image, 2,048 and 1,024, and every area CALM at figure 0. -/
theorem reset_floodFine : FloodFine State.reset.part := by
  refine ⟨by decide, fun a => ?_, fun _ => reset_atRest.2.2⟩
  obtain ⟨hload, hflood⟩ := reset_atRest.2.2 a
  rw [hload, hflood]
  decide

/-- Outside STARTING, RUNNING and ISOLATED every role is NONE (R5). -/
theorem reset_roleFine : RoleFine State.reset.part := fun a => by
  have hdeaf : listening State.reset.part = false := rfl
  rw [reset_view, roleByTable, if_pos hdeaf]

theorem reset_storeFine : StoreFine State.reset.part := by
  simp [StoreFine, storeReserved, reset_offer, reset_reception, offerRoom, receptionRoom]

end Sys2Proof.Machine

open Sys2Proof.Machine in
/-- Settles O36: the model compares by the byte difference, which is R8's circular difference (`occurrence_sub_toNat`). -/
theorem occurrenceComparisonIsCircular : Obligations.OccurrenceComparisonIsCircular := by
  refine ⟨fun n m => ?_, by decide, by decide, by decide⟩
  simp only [← occurrence_sub_toNat]
  exact ⟨compareOccurrence_equal_iff n m, compareOccurrence_newer_iff n m, compareOccurrence_older_iff n m⟩

open Sys2Proof.Machine in
/-- Settles O5: the register files hold their default records, and each invariant holds there. -/
theorem resetLeavesAfterResetValues : Obligations.ResetLeavesAfterResetValues := by
  have hrest := reset_atRest
  have htable : TableFine State.reset.part := ⟨by simp [hrest.1], by rw [hrest.1]; trivial, by simp [hrest.1]⟩
  refine ⟨rfl, rfl, rfl, rfl, hrest.1, hrest.2.1, hrest.2.2, rfl, rfl, rfl, rfl, rfl, fun k => ?_, fun i => ?_, rfl, rfl, rfl,
    rfl, fun a => ?_, fun r => ⟨reset_offer r, reset_reception r⟩, rfl, rfl, reset_slot, rfl, rfl, rfl, rfl, rfl, rfl, rfl, rfl,
    rfl, Nat.zero_le _, htable, hrest.followFine, reset_storeFine, fun a h => ?_, reset_floodFine, fun a h => ?_, reset_roleFine,
    rfl, by decide, by decide⟩
  · rw [reset_key]; exact ⟨rfl, rfl⟩
  · rw [reset_input]; exact ⟨rfl, rfl, rfl, rfl, rfl, rfl⟩
  · rw [reset_view]; exact ⟨rfl, rfl, rfl, rfl, rfl, rfl, rfl, reset_holds a⟩
  · exact absurd h (by simp [reset_emergency])
  · exact absurd h (by simp [reset_holds])
end


section
/-! PROOFS. CONDITION telegrams (R9–R18): the ring's head is taken, and the table's rule applied. -/

namespace Sys2Proof.Machine

variable {p q : Part} {t : Telegram}

/-! ## The telegram at the read position (R151) -/

theorem ring_of_nextTelegram (h : nextTelegram p t) : ∃ l, p.lif.ring = .telegram t :: l := by
  obtain ⟨-, hhead⟩ := h
  cases hr : p.lif.ring with
  | nil => simp [hr] at hhead
  | cons i l =>
    rw [hr, List.head?_cons] at hhead
    exact ⟨l, by rw [Option.some.inj hhead]⟩

/-- The read position moves past the telegram, which leaves the ring. -/
theorem popRing_of_nextTelegram (h : nextTelegram p t) (hq : q.lif = p.lif) :
    popRing q = { q with lif := p.lif.taken (encodeTelegram t).length } := by
  obtain ⟨l, hring⟩ := ring_of_nextTelegram h
  simp [popRing, modLif, hq, hring, Lif.taken, itemSize, Config.ringBytes]

theorem takeTelegram_eq {f : Telegram → Part → Option Part} (h : nextTelegram p t) (hf : f t p = some q) :
    takeTelegram f p = popRing q := by
  obtain ⟨l, hring⟩ := ring_of_nextTelegram h
  simp [takeTelegram, hring, h.1, hf]

/-- A telegram whose rule leaves the link alone: its effect, and the ring one telegram shorter. -/
theorem takeTelegram_taken {f : Telegram → Part → Option Part} (h : nextTelegram p t) (hf : f t p = some q)
    (hq : q.lif = p.lif) : takeTelegram f p = { q with lif := p.lif.taken (encodeTelegram t).length } := by
  rw [takeTelegram_eq h hf, popRing_of_nextTelegram h hq]

section
variable {s : State} {tag : Tag} {x : Priority} {active : Bool} {n : Occurrence}

theorem exec_takeCondition (h : nextTelegram s.part t) (hp : t.payload = .condition tag x active n) :
    Machine.exec .takeCondition s = .next (s.withPart
      { applyCondition tag x active n s.part with lif := s.part.lif.taken (encodeTelegram t).length }) := by
  have htaken : takenCondition t s.part = some (applyCondition tag x active n s.part) := by rw [takenCondition, hp]
  rw [← takeTelegram_taken h htaken (by simp)]
  rfl

/-! ## The cases of a CONDITION telegram (R9, R10) -/

variable {a : Area} {e : Entry}

theorem applyCondition_unmapped (ha : tagArea p tag = none) : applyCondition tag x active n p = countUnmapped p := by
  rw [applyCondition, ha]

theorem applyCondition_unfollowed (ha : tagArea p tag = some a) (hf : followed p a = false) :
    applyCondition tag x active n p = p := by
  simp [applyCondition, ha, hf]

theorem applyCondition_unstored (ha : tagArea p tag = some a) (hf : followed p a = true) (hn : findEntry p tag = none) :
    applyCondition tag x active n p = storeOccurrence (freshEntry p tag a x active n) p := by
  simp [applyCondition, ha, hf, hn]

theorem applyCondition_newer (ha : tagArea p tag = some a) (hf : followed p a = true) (he : findEntry p tag = some e)
    (hc : compareOccurrence n e.occurrence = .newer) :
    applyCondition tag x active n p = newOccurrence (renewEntry p e x active n) p := by
  simp [applyCondition, ha, hf, he, hc]

theorem applyCondition_older (ha : tagArea p tag = some a) (hf : followed p a = true) (he : findEntry p tag = some e)
    (hc : compareOccurrence n e.occurrence = .older) : applyCondition tag x active n p = countStaleCondition p := by
  simp [applyCondition, ha, hf, he, hc]

theorem applyCondition_equal (ha : tagArea p tag = some a) (hf : followed p a = true) (he : findEntry p tag = some e)
    (hc : compareOccurrence n e.occurrence = .equal) :
    applyCondition tag x active n p = if active then repeatActive e x p else clearEqual e p := by
  simp [applyCondition, ha, hf, he, hc]

/-- A repeat of the entry's own priority changes an entry that keeps its rules in nothing (R10, R12, R14). -/
theorem repeatActive_same (h : EntryFine e) : repeatActive e e.priority p = p := by
  obtain ⟨-, hshelf, hurgent, -⟩ := h
  have hsame : repeated e e.priority p = e := by
    have hquiet : (if levelOf e.priority = .urgent then false else e.quiet) = e.quiet := by
      split
      · next hl => rw [hurgent hl]
      · rfl
    simp only [repeated, hquiet, if_true]
  rw [repeatActive_eq, if_neg, if_pos hsame]
  rintro ⟨hp1, hs⟩
  simp [hshelf hp1] at hs

end

end Sys2Proof.Machine

open Sys2Proof.Machine in
/-- Settles O37: each of the cases is a line of `applyCondition` that leaves the entry alone. -/
theorem conditionWithoutEffectIsDropped : Obligations.ConditionWithoutEffectIsDropped := by
  intro s t tag x active n h hp
  simp only [exec_takeCondition h hp]
  refine ⟨fun ha => ?_, fun a ha hf => ?_, fun a e ha hf he => ⟨fun hc => ?_, fun hc hb hd => ?_, fun hc hb hx hfine => ?_⟩⟩
  · rw [applyCondition_unmapped ha]; rfl
  · rw [applyCondition_unfollowed ha hf]
  · rw [applyCondition_older ha hf he hc]; rfl
  · rw [applyCondition_equal ha hf he hc, hb, clearEqual, hd]; rfl
  · rw [applyCondition_equal ha hf he hc, hb, hx, repeatActive_same hfine]; rfl
end


section
/-! PROOFS. CONDITION telegrams that change or create an entry (R10–R15, R18, O38). -/

namespace Sys2Proof.Machine

variable {p : Part} {tag : Tag} {x : Priority} {active : Bool} {n : Occurrence} {a : Area} {e : Entry}

/-! ## A new tag, the table having room -/

theorem storeOccurrence_room (h : p.atu.table.length < 512) : storeOccurrence e p = newOccurrence e (putEntry e p) := by
  rcases storeNew_cases e p with ⟨-, hs⟩ | ⟨hfull, -⟩ | ⟨hfull, -⟩
  · simp [storeOccurrence, hs]
  · omega
  · omega

theorem insertEntry_twice {e y : Entry} (h : y.tag = e.tag) (l : List Entry) :
    insertEntry y (insertEntry e l) = insertEntry y l := by
  induction l with
  | nil => simp [insertEntry, h]
  | cons z zs ih =>
    by_cases hlt : e.tag.toNat < z.tag.toNat
    · simp [insertEntry, h, hlt]
    · by_cases heq : e.tag = z.tag
      · simp [insertEntry, h, heq]
      · simp [insertEntry, h, hlt, heq, ih]

theorem putEntry_twice {e y : Entry} (h : y.tag = e.tag) (p : Part) : (putEntry y (putEntry e p)).atu = (putEntry y p).atu := by
  simp [putEntry, insertEntry_twice h]

theorem newOccurrence_putEntry_atu (e : Entry) (p : Part) :
    (newOccurrence e (putEntry e p)).atu = (putEntry (decided e (putEntry e p)) p).atu := by
  rw [newOccurrence_atu, putEntry_twice (decided_tag e (putEntry e p))]

/-! ## The indicators (R18) -/

theorem indicatorsFollow_self (h : p.atu = q.atu) : indicatorsFollow q p := by
  simp [indicatorsFollow, h]

theorem indicatorsFollow_newOccurrence (h : TagsRise p.atu.table) {y : Entry} (f : findEntry p e.tag = some y) :
    indicatorsFollow p (newOccurrence e p) := by
  refine indicatorsFollow_putEntry (newOccurrence_atu e p) ?_
  rw [putEntry_length_of_found h (e := decided e p) f]

theorem indicatorsFollow_newEntry (f : findEntry p e.tag = none) :
    indicatorsFollow p (newOccurrence e (putEntry e p)) := by
  refine indicatorsFollow_putEntry (newOccurrence_putEntry_atu e p) ?_
  have hlength := insertEntry_length_of_new (e := decided e (putEntry e p)) (findEntry_eq_none.1 f)
  exact Nat.le_of_lt (Nat.lt_of_succ_le (Nat.le_of_eq hlength.symm))

theorem indicatorsFollow_repeatActive (h : TagsRise p.atu.table) (f : findEntry p e.tag = some e) :
    indicatorsFollow p (repeatActive e x p) := by
  rw [repeatActive_eq]
  split
  · exact indicatorsFollow_removeShelf h (e := repeated e x p) f
  · split
    · exact indicatorsFollow_self rfl
    · refine indicatorsFollow_putEntry (e := repeated e x p) rfl ?_
      rw [putEntry_length_of_found h (e := repeated e x p) f]

theorem indicatorsFollow_clearEqual (h : TagsRise p.atu.table) (f : findEntry p e.tag = some e) :
    indicatorsFollow p (clearEqual e p) := by
  unfold clearEqual
  split
  · exact indicatorsFollow_applyRemoval (e := { e with active := false, lastChange := now p }) h f
  · exact indicatorsFollow_self rfl

/-- A CONDITION that evicts nothing: the indicators follow the table (R18). -/
theorem indicatorsFollow_applyCondition (ha : tagArea p tag = some a) (hf : followed p a = true)
    (h : TagsRise p.atu.table) (hroom : findEntry p tag ≠ none ∨ p.atu.table.length < 512) :
    indicatorsFollow p (applyCondition tag x active n p) := by
  cases he : findEntry p tag with
  | none =>
    rw [applyCondition_unstored ha hf he, storeOccurrence_room (hroom.resolve_left (· he))]
    exact indicatorsFollow_newEntry he
  | some e =>
    have htag := findEntry_tag he
    rw [← htag] at he ha ⊢
    cases hc : compareOccurrence n e.occurrence with
    | newer =>
      rw [applyCondition_newer ha hf he hc]
      exact indicatorsFollow_newOccurrence h (e := renewEntry p e x active n) he
    | older =>
      rw [applyCondition_older ha hf he hc]
      exact indicatorsFollow_self rfl
    | equal =>
      rw [applyCondition_equal ha hf he hc]
      split
      · exact indicatorsFollow_repeatActive h he
      · exact indicatorsFollow_clearEqual h he

/-! ## Other entries stay -/

theorem findEntry_repeatActive_other {y : Tag} (h : y ≠ e.tag) : findEntry (repeatActive e x p) y = findEntry p y := by
  rw [repeatActive_eq]
  split
  · rw [findEntry_removeShelf, repeated_tag, if_neg h]
  · split
    · rfl
    · refine (findEntry_congr (p := putEntry (repeated e x p) p) rfl y).trans ?_
      rw [findEntry_putEntry, repeated_tag, if_neg h]

theorem findEntry_clearEqual_other {y : Tag} (h : y ≠ e.tag) : findEntry (clearEqual e p) y = findEntry p y := by
  unfold clearEqual
  split
  · exact (findEntry_applyRemoval_putEntry { e with active := false, lastChange := now p } p y).trans (if_neg h)
  · rfl

theorem findEntry_applyCondition_other (ha : tagArea p tag = some a) (hf : followed p a = true)
    (he : findEntry p tag = some e) {y : Tag} (h : y ≠ tag) :
    findEntry (applyCondition tag x active n p) y = findEntry p y := by
  have htag := findEntry_tag he
  rw [← htag] at he ha h ⊢
  cases hc : compareOccurrence n e.occurrence with
  | newer =>
    rw [applyCondition_newer ha hf he hc, findEntry_newOccurrence]
    exact if_neg h
  | older =>
    rw [applyCondition_older ha hf he hc]
    rfl
  | equal =>
    rw [applyCondition_equal ha hf he hc]
    split
    · exact findEntry_repeatActive_other h
    · exact findEntry_clearEqual_other h

/-! ## A repeat and a CLEAR of the same occurrence (R10–R12) -/

theorem repeatActive_cnp : (repeatActive e x p).cnp = p.cnp := by
  rw [repeatActive_eq]; (repeat' split) <;> simp

theorem clearEqual_cnp : (clearEqual e p).cnp = p.cnp := by
  unfold clearEqual; split <;> simp

theorem repeatActive_ldm : (repeatActive e x p).ldm = p.ldm := by
  rw [repeatActive_eq]; (repeat' split) <;> simp

/-- Priority 1 takes the shelf away, and the entry with it when it is CLEAR and acknowledged (R10, R11, R39). -/
theorem repeatActive_shelf (hs : e.shelf ≠ none) :
    findEntry (repeatActive e .p1 p) e.tag = (if e.active = false ∧ e.acknowledged = true then none
        else some { e with priority := .p1, shelf := none, quiet := false, lastChange := p.stc.seconds }) ∧
      demandsDerived p (repeatActive e .p1 p) (tagSounds (repeatActive e .p1 p) e.tag) := by
  rw [repeatActive_eq, if_pos ⟨rfl, Option.isSome_iff_ne_none.2 hs⟩]
  refine ⟨?_, demandsDerived_removeShelf (repeated e .p1 p) p⟩
  rw [findEntry_removeShelf, repeated_tag, if_pos rfl]
  simp [unlessRemoved, unshelved, repeated, now, levelOf]

theorem repeatActive_priority (hx : x ≠ e.priority) (hs : x ≠ .p1 ∨ e.shelf = none) :
    findEntry (repeatActive e x p) e.tag = some { e with
        priority := x, quiet := if levelOf x = .urgent then false else e.quiet, lastChange := p.stc.seconds } ∧
      demandsDerived p (repeatActive e x p) fun _ => False := by
  have hplain : ¬(x = .p1 ∧ e.shelf.isSome = true) := fun ⟨hp1, hsome⟩ =>
    hs.elim (· hp1) fun hnone => by simp [hnone] at hsome
  have hchanged : repeated e x p ≠ e := fun h => hx (congrArg Entry.priority h)
  rw [repeatActive_eq, if_neg hplain, if_neg hchanged]
  refine ⟨?_, demandsDerived_quietly (q := putEntry (repeated e x p) p) rfl fun _ h => h⟩
  refine (findEntry_congr (p := putEntry (repeated e x p) p) rfl e.tag).trans ?_
  rw [findEntry_putEntry, repeated_tag, if_pos rfl]
  simp only [repeated, if_neg hx]
  rfl

theorem clearEqual_active (hb : e.active = true) :
    findEntry (clearEqual e p) e.tag = (if e.acknowledged = true ∧ e.shelf = none then none
        else some { e with active := false, lastChange := p.stc.seconds }) ∧
      (clearEqual e p).ldm = p.ldm ∧ demandsDerived p (clearEqual e p) fun _ => False := by
  unfold clearEqual
  rw [if_pos hb]
  refine ⟨?_, by simp, demandsDerived_quietly (by simp) fun _ h => h⟩
  refine (findEntry_applyRemoval_putEntry { e with active := false, lastChange := now p } p e.tag).trans ?_
  simp [unlessRemoved, now]

/-! ## The telegram's whole effect, case by case -/

/-- A new occurrence of a tag that has an entry (R10, R13, R14). -/
theorem renewed_effect (p : Part) (e : Entry) (x : Priority) (active : Bool) (n : Occurrence) :
    let u := newOccurrence (renewEntry p e x active n) p
    let shelf := if x = .p1 then none else e.shelf
    findEntry u e.tag = some { e with
        occurrence := n, active := active, acknowledged := false, ackCredential := none, priority := x, shelf := shelf,
        quiet := decide (levelOf x = .routine) && inFlood u e.area && !emergency p e.area, lastChange := p.stc.seconds } ∧
      demandsDerived p u (tagSounds u e.tag) ∧
      (FloodFine p → floodRisen p u e.area ∧ (∀ b, b ≠ e.area → inFlood u b = inFlood p b) ∧
        u.cnp = floodStored p u e.area) ∧
      ∀ b, loadOf u b = if b = e.area ∧ shelf = none
        then BitVec.ofNat 16 (min 65535 ((loadOf p b).toNat + weightOf p x)) else loadOf p b := by
  refine ⟨?_, demandsDerived_newOccurrence .., fun h => newOccurrence_flood h _, loadOf_newOccurrence _ p⟩
  rw [findEntry_newOccurrence]
  exact if_pos rfl

/-- A new tag, the table having room (R9, R13, R14). -/
theorem fresh_effect (p : Part) (tag : Tag) (a : Area) (x : Priority) (active : Bool) (n : Occurrence) :
    let u := newOccurrence (freshEntry p tag a x active n) (putEntry (freshEntry p tag a x active n) p)
    (∀ y, y ≠ tag → findEntry u y = findEntry p y) ∧ demandsDerived p u (tagSounds u tag) ∧
      (FloodFine p → floodRisen p u a ∧ (∀ b, b ≠ a → inFlood u b = inFlood p b) ∧ u.cnp = floodStored p u a) ∧
      findEntry u tag = some {
        tag := tag, area := a, priority := x, occurrence := n, active := active, acknowledged := false, ackCredential := none,
        quiet := decide (levelOf x = .routine) && inFlood u a && !emergency p a, shelf := none,
        firstRaised := p.stc.seconds, lastChange := p.stc.seconds } ∧
      ∀ b, loadOf u b = if b = a
        then BitVec.ofNat 16 (min 65535 ((loadOf p b).toNat + weightOf p x)) else loadOf p b := by
  refine ⟨fun y hy => ?_, ?_, fun h => ?_, ?_, fun b => ?_⟩
  · have hne : y ≠ (freshEntry p tag a x active n).tag := hy
    rw [findEntry_newOccurrence, if_neg hne, findEntry_putEntry, if_neg hne]
  · exact (demandsDerived_congr (q := putEntry _ p) rfl).1 (demandsDerived_newOccurrence ..)
  · exact newOccurrence_flood (p := putEntry _ p) h _
  · rw [findEntry_newOccurrence]
    exact if_pos rfl
  · rw [loadOf_newOccurrence]
    simp [freshEntry, loadOf, weightOf]

end Sys2Proof.Machine

open Sys2Proof.Machine in
/-- Settles O38: a new occurrence (`renewed_effect`, `fresh_effect`), a repeat (`repeatActive_shelf`, `repeatActive_priority`)
or a CLEAR (`clearEqual_active`), and R18's rule for them all (`indicatorsFollow_applyCondition`). -/
theorem conditionTelegramUpdatesEntry : Obligations.ConditionTelegramUpdatesEntry := by
  intro s t tag a x active n h hp ha hf
  refine ⟨_, exec_takeCondition h hp, by simp [State.withPart], fun hrise hroom =>
    indicatorsFollow_applyCondition ha hf hrise hroom, fun e he y hy => findEntry_applyCondition_other ha hf he hy,
    fun e he hc => ?_, fun e he hc => ?_, fun he hroom => ?_⟩
  · obtain rfl := findEntry_tag he
    rw [applyCondition_newer ha hf he hc]
    exact renewed_effect s.part e x active n
  · obtain rfl := findEntry_tag he
    rw [applyCondition_equal ha hf he hc]
    refine ⟨?_, fun hb hx hs => ?_, fun hb hx hs => ?_, fun hb hact => ?_⟩
    · cases active
      · exact clearEqual_cnp
      · exact repeatActive_cnp
    · rw [hb, hx]
      obtain ⟨hfind, hdemands⟩ := repeatActive_shelf (p := s.part) hs
      exact ⟨hfind, repeatActive_ldm, hdemands⟩
    · rw [hb]
      obtain ⟨hfind, hdemands⟩ := repeatActive_priority (p := s.part) hx hs
      exact ⟨hfind, repeatActive_ldm, hdemands⟩
    · rw [hb]
      exact clearEqual_active hact
  · rw [applyCondition_unstored ha hf he, storeOccurrence_room hroom]
    exact fresh_effect s.part tag a x active n
end


section
/-! PROOFS. A new tag at a full table (R16–R18, O39): the entry that R16 evicts, and what the eviction leaves. -/

namespace Sys2Proof.Machine

variable {p : Part} {e : Entry}

/-! ## The eviction candidate (R16) -/

theorem evictionCandidate_standing {l : List Entry} {x : Entry} (h : evictionCandidate l = some x) :
    entryState x = some .standing := by
  induction l generalizing x with
  | nil => cases h
  | cons y ys ih =>
    unfold evictionCandidate at h
    split at h
    · next hy =>
      cases hc : evictionCandidate ys with
      | none =>
        simp only [hc] at h
        exact Option.some.inj h ▸ hy
      | some z =>
        simp only [hc] at h
        split at h
        · exact Option.some.inj h ▸ hy
        · exact Option.some.inj h ▸ ih hc
    · exact ih h

theorem evictionCandidate_none {l : List Entry} (h : ∀ e ∈ l, entryState e ≠ some .standing) : evictionCandidate l = none :=
  Option.eq_none_iff_forall_not_mem.2 fun x hx =>
    h x (evictionCandidate_mem (Option.mem_def.1 hx)) (evictionCandidate_standing (Option.mem_def.1 hx))

/-- An entry that goes before every other STANDING entry is the candidate. -/
theorem evictionCandidate_eq {l : List Entry} {y : Entry} (hy : y ∈ l) (hs : entryState y = some .standing)
    (hfirst : ∀ z ∈ l, entryState z = some .standing → z ≠ y → evictBefore y z = true ∧ evictBefore z y = false) :
    evictionCandidate l = some y := by
  induction l with
  | nil => exact absurd hy List.not_mem_nil
  | cons x xs ih =>
    have hrest := fun z m => hfirst z (List.mem_cons_of_mem x m)
    unfold evictionCandidate
    by_cases hx : x = y
    · rw [if_pos (hx ▸ hs), hx]
      cases hc : evictionCandidate xs with
      | none => rfl
      | some z =>
        by_cases hz : z = y
        · simp [hz]
        · simp [(hrest z (evictionCandidate_mem hc) (evictionCandidate_standing hc) hz).1]
    · have hcand := ih ((List.mem_cons.1 hy).resolve_left fun h => hx h.symm) hrest
      rw [hcand]
      split
      · next hstand => simp [(hfirst x List.mem_cons_self hstand hx).2]
      · rfl

/-- R16's order: the larger priority number first, then the older, then the lower tag. -/
theorem evictBefore_of_order {y z : Entry}
    (h : priorityNumber z.priority < priorityNumber y.priority ∨ (priorityNumber z.priority = priorityNumber y.priority ∧
      (y.firstRaised.toNat < z.firstRaised.toNat ∨ (y.firstRaised = z.firstRaised ∧ y.tag.toNat < z.tag.toNat)))) :
    evictBefore y z = true ∧ evictBefore z y = false := by
  unfold evictBefore
  rcases h with hlt | ⟨heq, hlt | ⟨hsame, hlt⟩⟩
  · simp [Nat.ne_of_lt hlt, (Nat.ne_of_lt hlt).symm, hlt, Nat.le_of_lt hlt]
  · have hne : y.firstRaised ≠ z.firstRaised := fun c => by rw [c] at hlt; omega
    simp [heq, hne, hne.symm, hlt, Nat.le_of_lt hlt]
  · simp [heq, hsame, hlt, Nat.le_of_lt hlt]

/-! ## The full table's two cases -/

theorem storeOccurrence_dropped (h : p.atu.table.length = 512)
    (hc : levelOf e.priority = .routine ∨ evictionCandidate p.atu.table = none) :
    storeOccurrence e p = reportOverflow e.area e.tag .notStored p := by
  rcases storeNew_cases e p with ⟨hlt, -⟩ | ⟨-, x, hl, hx, -⟩ | ⟨-, -, hs⟩
  · omega
  · simp [hl, hx] at hc
  · simp [storeOccurrence, hs]

theorem storeOccurrence_evicting (h : p.atu.table.length = 512) (hl : levelOf e.priority = .urgent) {y : Entry}
    (hy : evictionCandidate p.atu.table = some y) :
    storeOccurrence e p = newOccurrence e (putEntry e (evicted y p)) := by
  rcases storeNew_cases e p with ⟨hlt, -⟩ | ⟨-, x, -, hx, hs⟩ | ⟨-, hno, -⟩
  · omega
  · obtain rfl : y = x := by simpa [hy] using hx
    simp [storeOccurrence, hs]
  · simp [hl, hy] at hno

theorem findEntry_evicted (y : Entry) (t : Tag) : findEntry (evicted y p) t = if t = y.tag then none else findEntry p t := by
  rw [← findEntry_removeEntry]
  unfold findEntry
  rw [evicted_table]

theorem newOccurrence_putEntry_overflow (e : Entry) (p : Part) :
    (newOccurrence e (putEntry e p)).atu.overflow = p.atu.overflow := by
  rw [newOccurrence_putEntry_atu]
  rfl

theorem putEntry_cnp (e : Entry) (p : Part) : (putEntry e p).cnp = p.cnp := rfl

/-- An urgent entry stored after an eviction is not quiet (R14). -/
theorem findEntry_evicting (hl : levelOf e.priority = .urgent) (hq : e.quiet = false) (y : Entry) (t : Tag) :
    findEntry (newOccurrence e (putEntry e (evicted y p))) t =
      if t = e.tag then some e else if t = y.tag then none else findEntry p t := by
  rw [findEntry_newOccurrence, findEntry_putEntry, findEntry_evicted]
  have hquiet : { e with quiet := false } = e := by rw [← hq]
  simp only [hl, reduceCtorEq, decide_false, Bool.false_and, hquiet]
  split <;> rfl

/-- An eviction from a full table leaves 511 entries, above R18's 448: it clears no indicator. -/
theorem evicted_overflow (hfull : p.atu.table.length = 512) (h : TagsRise p.atu.table) {y : Entry} (m : y ∈ p.atu.table) :
    (evicted y p).atu.overflow = p.atu.overflow ||| AreaSet.single y.area := by
  have hkept : (removeEntry y.tag p).atu.overflow = p.atu.overflow := by
    have hlength := removeEntry_length h m
    rw [removeEntry, keepEntries_table] at hlength
    refine if_neg fun hlow => ?_
    simp only [Config.overflowClearAt] at hlow
    omega
  rw [← hkept]
  rfl

/-! ## The event log -/

/-- Events are only added. -/
def LogGrows (p q : Part) : Prop := p.cnp.events <+: q.cnp.events

theorem LogGrows.refl (p : Part) : LogGrows p p := List.prefix_refl _

theorem LogGrows.trans {q r : Part} (h : LogGrows p q) (k : LogGrows q r) : LogGrows p r := List.IsPrefix.trans h k

theorem logGrows_of_cnp {q : Part} (h : q.cnp = p.cnp) : LogGrows p q := by rw [LogGrows, h]

theorem logGrows_produce (e : Event) (p : Part) : LogGrows p (produce e p) := storing_prefix ..

theorem storing_events {c : Cnp} (h : c.events.length < 64) (n : Seconds) (e : Event) :
    (c.storing n e).events = c.events ++ [{ e with time := n }] := by
  rw [Cnp.storing, if_pos h]

theorem storing_events_prefix {c d : Cnp} (hd : d.events = c.events) (h : c.events.length < 64) (n : Seconds) (e : Event) :
    c.events ++ [{ e with time := n }] <+: (d.storing n e).events := by
  rw [storing_events (hd ▸ h), hd]

theorem logGrows_judgeFlood (a : Area) (p : Part) : LogGrows p (judgeFlood a p) := by
  unfold judgeFlood
  (repeat' split)
  · exact logGrows_produce _ (modLdm _ p)
  · exact .refl p
  · exact logGrows_produce _ (modLdm _ p)
  · exact .refl p

theorem stats_judgeFlood (a : Area) (p : Part) : (judgeFlood a p).cnp.stats = p.cnp.stats := by
  unfold judgeFlood
  (repeat' split) <;> simp

theorem logGrows_setLoad (a : Area) (n : Nat) (p : Part) : LogGrows p (setLoad a n p) := by
  rw [setLoad_eq]
  split
  · exact .refl p
  · exact logGrows_judgeFlood a (withLoad ..)

theorem stats_setLoad (a : Area) (n : Nat) (p : Part) : (setLoad a n p).cnp.stats = p.cnp.stats := by
  rw [setLoad_eq]
  split
  · rfl
  · exact stats_judgeFlood a (withLoad ..)

theorem logGrows_newOccurrence (e : Entry) (p : Part) : LogGrows p (newOccurrence e p) := by
  rw [LogGrows, newOccurrence_cnp, accrued]
  split
  · exact logGrows_setLoad ..
  · exact LogGrows.refl p

theorem stats_newOccurrence (e : Entry) (p : Part) : (newOccurrence e p).cnp.stats = p.cnp.stats := by
  rw [newOccurrence_cnp, accrued]
  split
  · exact stats_setLoad ..
  · rfl

/-- *Table overflows* advanced (R16, R17). -/
def overflowCounted (c : Cnp) : Cnp := { c with stats := { c.stats with tableOverflows := c.stats.tableOverflows + 1 } }

theorem overflowCounted_events (c : Cnp) : (overflowCounted c).events = c.events := rfl

/-- TABLE-OVERFLOW (EVICTED) for entry `y`. -/
def evictedEvent (y : Entry) : Event :=
  { kind := .tableOverflow, area := some y.area, tag := some y.tag, reason := some .evicted }

theorem evicted_cnp (y : Entry) (p : Part) :
    (evicted y p).cnp = (overflowCounted p.cnp).storing p.stc.seconds (evictedEvent y) := rfl

theorem stats_evicting (e y : Entry) (p : Part) : (newOccurrence e (putEntry e (evicted y p))).cnp.stats =
    { p.cnp.stats with tableOverflows := p.cnp.stats.tableOverflows + 1 } := by
  rw [stats_newOccurrence, putEntry_cnp, evicted_cnp, storing_stats]
  rfl

theorem events_evicting (e y : Entry) {p : Part} (h : p.cnp.events.length < 64) :
    p.cnp.events ++ [{ kind := .tableOverflow, time := p.stc.seconds, area := some y.area, tag := some y.tag,
                       reason := some .evicted }] <+: (newOccurrence e (putEntry e (evicted y p))).cnp.events := by
  refine List.IsPrefix.trans ?_ (logGrows_newOccurrence e (putEntry e (evicted y p)))
  rw [putEntry_cnp, evicted_cnp]
  exact storing_events_prefix (overflowCounted_events p.cnp) h p.stc.seconds (evictedEvent y)

@[simp] theorem freshEntry_tag (p : Part) (t : Tag) (a : Area) (x : Priority) (b : Bool) (n : Occurrence) :
    (freshEntry p t a x b n).tag = t := rfl

end Sys2Proof.Machine

open Sys2Proof.Machine in
/-- Settles O39: a new tag at a full table is dropped (`storeOccurrence_dropped`) or evicts R16's candidate
(`storeOccurrence_evicting`). -/
theorem fullTableEvictsOrDrops : Obligations.FullTableEvictsOrDrops := by
  intro s t tag a x active n h hp ha hf hnone hfull
  simp only [exec_takeCondition h hp, applyCondition_unstored ha hf hnone]
  refine ⟨fun hc => ?_, fun y hl hy hs hfirst => ⟨_, rfl, ?_⟩⟩
  · rw [storeOccurrence_dropped hfull (hc.imp id evictionCandidate_none)]
    rfl
  · have hcand : evictionCandidate s.part.atu.table = some y :=
      evictionCandidate_eq hy hs fun z hz hzs hne => evictBefore_of_order (hfirst z hz hzs hne)
    have hother : y.tag ≠ tag := findEntry_eq_none.1 hnone y hy
    have hfind := findEntry_evicting (p := s.part) (e := freshEntry s.part tag a x active n) hl rfl y
    have hstats := stats_evicting (freshEntry s.part tag a x active n) y s.part
    have hevents := events_evicting (freshEntry s.part tag a x active n) y (p := s.part)
    have hover := newOccurrence_putEntry_overflow (freshEntry s.part tag a x active n) (evicted y s.part)
    rw [freshEntry_tag] at hfind
    rw [storeOccurrence_evicting hfull hl hcand]
    generalize newOccurrence (freshEntry s.part tag a x active n) (putEntry _ (evicted y s.part)) = u at *
    refine ⟨?_, fun z hzy hzt => ?_, ⟨_, (hfind tag).trans (if_pos rfl), rfl, rfl, rfl, rfl, rfl, rfl, rfl⟩,
      fun hrise => hover.trans (evicted_overflow hfull hrise hy), hstats, hevents⟩
    · exact (hfind y.tag).trans (by rw [if_neg hother, if_pos rfl])
    · exact (hfind z).trans (by rw [if_neg hzt, if_neg hzy])
end


section
/-! PROOFS. Unshelve telegrams and the expiry of a shelf (R34, R37–R39, O41). -/

namespace Sys2Proof.Machine

variable {p : Part} {t : Telegram} {tag : Tag} {a : Area} {e : Entry}

theorem exec_takeUnshelve {s : State} {c : Credential} (h : nextTelegram s.part t) (hp : t.payload = .shelve tag 0 c) :
    Machine.exec .takeUnshelve s = .next (s.withPart
      { applyUnshelve tag s.part with lif := s.part.lif.taken (encodeTelegram t).length }) := by
  have htaken : takenUnshelve t s.part = some (applyUnshelve tag s.part) := by simp [takenUnshelve, hp]
  rw [← takeTelegram_taken h htaken (by simp)]
  rfl

/-! ## The cases of an unshelve (R34) -/

theorem applyUnshelve_dropped (h : tagArea p tag = none ∨ ∃ a, tagArea p tag = some a ∧ followed p a = false) :
    applyUnshelve tag p = p := by
  rcases h with ha | ⟨a, ha, hf⟩
  · simp [applyUnshelve, ha]
  · simp [applyUnshelve, ha, hf]

theorem applyUnshelve_stale (ha : tagArea p tag = some a) (hf : followed p a = true) (hn : findEntry p tag = none) :
    applyUnshelve tag p = countStaleAck p := by simp [applyUnshelve, ha, hf, hn]

theorem applyUnshelve_bare (ha : tagArea p tag = some a) (hf : followed p a = true) (he : findEntry p tag = some e)
    (hs : e.shelf = none) : applyUnshelve tag p = p := by simp [applyUnshelve, ha, hf, he, hs]

theorem applyUnshelve_shelved (ha : tagArea p tag = some a) (hf : followed p a = true) (he : findEntry p tag = some e)
    {h : Shelf} (hs : e.shelf = some h) : applyUnshelve tag p = removeShelf e p := by simp [applyUnshelve, ha, hf, he, hs]

theorem shelfRun_due (hl : listening p = true) (he : findEntry p tag = some e) {h : Shelf} (hs : e.shelf = some h)
    (hd : h.seconds ≤ 1) : shelfRun tag p = expireShelf e p := by simp [shelfRun, he, hs, hl, hd]

/-! ## What the removal of a shelf leaves (R39) -/

/-- The entry without its shelf, or none when it is CLEAR and acknowledged. -/
def bareEntry (p : Part) (e : Entry) : Option Entry :=
  if e.active = false ∧ e.acknowledged = true then none else some { e with shelf := none, lastChange := p.stc.seconds }

theorem unlessRemoved_unshelved (p : Part) (e : Entry) : unlessRemoved (unshelved p e) = bareEntry p e := by
  simp [unlessRemoved, unshelved, bareEntry, now]

theorem removeShelf_effect (he : findEntry p tag = some e) :
    demandsDerived p (removeShelf e p) (tagSounds (removeShelf e p) tag) ∧
      (TagsRise p.atu.table → indicatorsFollow p (removeShelf e p)) ∧ findEntry (removeShelf e p) tag = bareEntry p e ∧
      ∀ y, y ≠ tag → findEntry (removeShelf e p) y = findEntry p y := by
  obtain rfl := findEntry_tag he
  refine ⟨demandsDerived_removeShelf e p, fun hrise => indicatorsFollow_removeShelf hrise he, ?_, fun y hy => ?_⟩
  · rw [findEntry_removeShelf, if_pos rfl, unlessRemoved_unshelved]
  · rw [findEntry_removeShelf, if_neg hy]

theorem part_ext {p q : Part} (hstc : p.stc = q.stc) (hlif : p.lif = q.lif) (hatu : p.atu = q.atu) (hldm : p.ldm = q.ldm)
    (hanu : p.anu = q.anu) (hssu : p.ssu = q.ssu) (haru : p.aru = q.aru) (hhou : p.hou = q.hou) (hcnp : p.cnp = q.cnp) :
    p = q := by
  cases p; cases q; simp_all

theorem expireShelf_frameEq (e : Entry) (p : Part) : expireShelf e p =
    { p with
      atu := (expireShelf e p).atu, anu := (expireShelf e p).anu,
      cnp := p.cnp.storing p.stc.seconds { kind := .shelfExpired, area := some e.area, tag := some e.tag } } := by
  obtain ⟨hstc, hlif, hldm, hssu, haru, hhou⟩ := expireShelf_frame p e
  exact part_ext hstc hlif rfl hldm rfl hssu haru hhou (by simp [expireShelf, now])

end Sys2Proof.Machine

open Sys2Proof.Machine in
/-- Settles O41: both ways remove the shelf by `removeShelf_effect`; without one there is nothing to remove. -/
theorem shelfRemovalUncoversEntry : Obligations.ShelfRemovalUncoversEntry := by
  refine ⟨fun s tag e h he hs => ⟨fun t c a hn hp ha hf => ?_, fun hl hd => ?_⟩, fun s t tag c hn hp =>
    ⟨fun hdrop => ?_, fun a ha hf => ⟨fun hnone => ?_, fun e he hs => ?_⟩⟩⟩
  · refine ⟨_, exec_takeUnshelve hn hp, ?_⟩
    rw [applyUnshelve_shelved ha hf he hs]
    refine ⟨by simp [State.withPart], ?_⟩
    exact removeShelf_effect he
  · refine ⟨s.withPart (expireShelf e s.part), ?_, ?_, removeShelf_effect (p := produce _ s.part) he⟩
    · rw [← shelfRun_due hl he hs hd]
      rfl
    · rw [← findEntry_tag he]
      exact congrArg s.withPart (expireShelf_frameEq e s.part)
  · rw [exec_takeUnshelve hn hp, applyUnshelve_dropped hdrop]
  · rw [exec_takeUnshelve hn hp, applyUnshelve_stale ha hf hnone]
    rfl
  · rw [exec_takeUnshelve hn hp, applyUnshelve_bare ha hf he hs]
end


section
/-! PROOFS. What the placing and withdrawing of telegrams leaves (R153, R154): all but the queue, the marks of the owners and
the inputs' publication. -/

namespace Sys2Proof.Machine

/-- `q` is `p` but for the queue, its owners' marks, the session's mark, the inputs and a statistic. -/
structure Queues (p q : Part) : Prop where
  stc : q.stc = p.stc
  atu : q.atu = p.atu
  ldm : q.ldm = p.ldm
  urgent : q.anu.urgent = p.anu.urgent
  routine : q.anu.routine = p.anu.routine
  trip : q.anu.trip = p.anu.trip
  views : ∀ a, ∃ m, view q a = { view p a with syncMark := m }
  offers : ∀ r, (q.hou.offers.get r).map Offer.area = (p.hou.offers.get r).map Offer.area
  receptions : ∀ r, (q.hou.receptions.get r).map Reception.area = (p.hou.receptions.get r).map Reception.area
  answers : q.hou.answers.length = p.hou.answers.length
  events : q.cnp.events = p.cnp.events
  applied : q.cnp.stats.resyncsApplied = p.cnp.stats.resyncsApplied

variable {p q r : Part}

theorem Queues.refl (p : Part) : Queues p p :=
  ⟨rfl, rfl, rfl, rfl, rfl, rfl, fun _ => ⟨_, rfl⟩, fun _ => rfl, fun _ => rfl, rfl, rfl, rfl⟩

theorem Queues.trans (h : Queues p q) (k : Queues q r) : Queues p r where
  stc := k.stc.trans h.stc
  atu := k.atu.trans h.atu
  ldm := k.ldm.trans h.ldm
  urgent := k.urgent.trans h.urgent
  routine := k.routine.trans h.routine
  trip := k.trip.trans h.trip
  views := fun a => by
    obtain ⟨m, hm⟩ := h.views a
    obtain ⟨n, hn⟩ := k.views a
    exact ⟨n, by rw [hn, hm]⟩
  offers := fun i => (k.offers i).trans (h.offers i)
  receptions := fun i => (k.receptions i).trans (h.receptions i)
  answers := k.answers.trans h.answers
  events := k.events.trans h.events
  applied := k.applied.trans h.applied

/-- The link alone is changed, or the ring's beacon marks, or the answers. -/
theorem queues_of_frame (hstc : q.stc = p.stc) (hatu : q.atu = p.atu) (hldm : q.ldm = p.ldm) (hanu : q.anu = p.anu)
    (hviews : q.aru.views = p.aru.views) (hoffers : q.hou.offers = p.hou.offers)
    (hreceptions : q.hou.receptions = p.hou.receptions) (hanswers : q.hou.answers.length = p.hou.answers.length)
    (hcnp : q.cnp = p.cnp) : Queues p q where
  stc := hstc
  atu := hatu
  ldm := hldm
  urgent := by rw [hanu]
  routine := by rw [hanu]
  trip := by rw [hanu]
  views := fun a => ⟨(view p a).syncMark, by unfold view; rw [hviews]⟩
  offers := fun i => by rw [hoffers]
  receptions := fun i => by rw [hreceptions]
  answers := hanswers
  events := by rw [hcnp]
  applied := by rw [hcnp]

theorem queues_modLif (f : Lif → Lif) (p : Part) : Queues p (modLif f p) :=
  queues_of_frame rfl rfl rfl rfl rfl rfl rfl rfl rfl

theorem queues_modSsu (f : Ssu → Ssu) (p : Part) : Queues p (modSsu f p) :=
  queues_of_frame rfl rfl rfl rfl rfl rfl rfl rfl rfl

theorem queues_modAnswer (n : Nat) (f : AnswerItem → AnswerItem) (p : Part) : Queues p (modAnswer n f p) :=
  queues_of_frame rfl rfl rfl rfl rfl rfl rfl (List.length_map ..) rfl

theorem queues_setSyncMark (a : Area) (m : SyncMark) (p : Part) :
    Queues p (modView a (fun v => { v with syncMark := m }) p) :=
  { queues_of_frame (q := p) rfl rfl rfl rfl rfl rfl rfl rfl rfl with
    views := fun b => by
      rw [view_modView]
      split
      · next h => exact ⟨m, by rw [h]⟩
      · exact ⟨_, rfl⟩ }

theorem queues_modInput (i : Fin 8) (f : InputRecord → InputRecord) (p : Part) : Queues p (modInput i f p) :=
  ⟨rfl, rfl, rfl, rfl, rfl, rfl, fun _ => ⟨_, rfl⟩, fun _ => rfl, fun _ => rfl, rfl, rfl, rfl⟩

theorem queues_countMerged (n : Nat) (p : Part) : Queues p (countMerged n p) :=
  ⟨rfl, rfl, rfl, rfl, rfl, rfl, fun _ => ⟨_, rfl⟩, fun _ => rfl, fun _ => rfl, rfl, rfl, rfl⟩

theorem queues_modOffer (i : Fin 4) (n : Nat) {f : Offer → Offer} (hf : ∀ x, (f x).area = x.area) (p : Part) :
    Queues p (modOffer i n f p) := by
  unfold modOffer
  (repeat' split)
  · next o ho _ =>
    exact { queues_of_frame (q := p) rfl rfl rfl rfl rfl rfl rfl rfl rfl with
      offers := fun j => by
        change Option.map _ ((setAt p.hou.offers i (some (f o))).get j) = _
        rw [setAt_get]
        split
        · next h => simp [h, ho, hf]
        · rfl }
  · exact .refl p
  · exact .refl p

theorem queues_modReception (i : Fin 4) (n : Nat) {f : Reception → Reception} (hf : ∀ x, (f x).area = x.area) (p : Part) :
    Queues p (modReception i n f p) := by
  unfold modReception
  (repeat' split)
  · next x hx _ =>
    exact { queues_of_frame (q := p) rfl rfl rfl rfl rfl rfl rfl rfl rfl with
      receptions := fun j => by
        change Option.map _ ((setAt p.hou.receptions i (some (f x))).get j) = _
        rw [setAt_get]
        split
        · next h => simp [h, hx, hf]
        · rfl }
  · exact .refl p
  · exact .refl p

theorem queues_markEntered (o : Owner) (p : Part) : Queues p (markEntered o p) := by
  cases o with
  | syncRequest a => exact queues_setSyncMark a .queued p
  | offer i n => exact queues_modOffer i n (fun _ => by rfl) p
  | reply i n => exact queues_modReception i n (fun _ => by rfl) p
  | answer n => exact queues_modAnswer n _ p
  | input i =>
    simp only [markEntered]
    split
    · exact queues_modInput i _ p
    · exact (queues_modInput i _ p).trans (queues_countMerged _ _)
  | request | session | beacon => exact queues_of_frame rfl rfl rfl rfl rfl rfl rfl rfl rfl

theorem queues_markOwed (o : Owner) (p : Part) : Queues p (markOwed o p) := by
  cases o with
  | syncRequest a => exact queues_setSyncMark a .owed p
  | offer i n => exact queues_modOffer i n (fun _ => by rfl) p
  | reply i n => exact queues_modReception i n (fun _ => by rfl) p
  | request | session | beacon | answer | input => exact queues_of_frame rfl rfl rfl rfl rfl rfl rfl rfl rfl

theorem queues_placeTelegram (o : Owner) (t : Telegram) (p : Part) : Queues p (placeTelegram o t p) := by
  unfold placeTelegram
  split
  · exact queues_modLif _ p
  · exact .refl p

theorem queues_enter (o : Owner) (t : Telegram) (p : Part) :
    Queues p (markEntered o (placeTelegram o t (leaveWaiting o p))) :=
  ((queues_modLif _ p).trans (queues_placeTelegram o t _)).trans (queues_markEntered o _)

theorem queues_pushTelegram (o : Owner) (p : Part) : Queues p (pushTelegram o p) := by
  unfold pushTelegram
  (repeat' split)
  · exact .refl p
  · exact queues_enter ..
  · exact (queues_modLif _ p).trans (queues_markOwed ..)
  · exact queues_markOwed ..

theorem queues_serveWaiting (p : Part) : Queues p (serveWaiting p) := by
  unfold serveWaiting
  (repeat' split)
  · exact .refl p
  · exact .refl p
  · exact queues_enter ..

theorem queues_placeOwedLogin (p : Part) : Queues p (placeOwedLogin p) :=
  queues_of_frame (by simp) (by simp) (by simp) (by simp) (by simp) (by simp) (by simp) (by simp) (by simp)

theorem queues_freeSlot (k : Fin 12) (p : Part) : Queues p (freeSlot k p) :=
  ((queues_modLif _ p).trans (queues_serveWaiting _)).trans (queues_placeOwedLogin _)

theorem queues_withdrawTelegram (o : Owner) (p : Part) : Queues p (withdrawTelegram o p) := by
  have hleave : Queues p (leaveWaiting o p) := queues_modLif _ p
  unfold withdrawTelegram
  simp only
  (repeat' split)
  · exact hleave
  · exact hleave
  · exact hleave.trans (queues_freeSlot ..)
  · exact hleave.trans (queues_modLif ..)

theorem queues_callBeacon (p : Part) : Queues p (callBeacon p) := by
  unfold callBeacon
  (repeat' split)
  · exact queues_pushTelegram .beacon p
  · exact .refl p
  · exact queues_of_frame rfl rfl rfl rfl rfl rfl rfl rfl rfl
  · exact .refl p

end Sys2Proof.Machine
end


section
/-! PROOFS. What follows a change of the views or the records (R46, R47, R103, R132): records go and areas are claimed, but no
event is lost, no emergency is entered, and a demand that an entry of a held area sounds for stands. -/

namespace Sys2Proof.Machine

/-- The demand of a level (R45). -/
def demandOf (p : Part) : Level → Bool
  | .urgent => p.anu.urgent
  | .routine => p.anu.routine

/-- An entry of a held area sounds at level `l`. -/
def heldSounds (p : Part) (l : Level) : Prop :=
  ∃ e ∈ p.atu.table, holds p e.area = true ∧ entryState e = some .alerting ∧ e.quiet = false ∧ levelOf e.priority = l

/-- From `p` to `q` records and entries may go and areas may be claimed; `q` holds what `p` holds, its log goes on from that of
`p`, and the demands that held areas sound for still stand. -/
structure Settles (p q : Part) : Prop where
  stc : q.stc = p.stc
  holds : ∀ a, holds p a = true → holds q a = true
  emergency : ∀ a, emergency q a = emergency p a
  offers : ∀ i a, (q.hou.offers.get i).map Offer.area = some a → (p.hou.offers.get i).map Offer.area = some a
  receptions : ∀ i a, (q.hou.receptions.get i).map Reception.area = some a →
    (p.hou.receptions.get i).map Reception.area = some a
  answers : q.hou.answers.length = p.hou.answers.length
  kept : ∀ e ∈ p.atu.table, Machine.holds p e.area = true → e ∈ q.atu.table
  only : ∀ e ∈ q.atu.table, e ∈ p.atu.table
  shrinks : q.atu.table.length ≤ p.atu.table.length
  overflow : p.atu.overflow = 0 → q.atu.overflow = 0
  clears : q.atu.table.length < p.atu.table.length → q.atu.table.length ≤ 448 → q.atu.overflow = 0
  log : LogGrows p q
  trip : p.anu.trip = true → q.anu.trip = true
  demand : ∀ l, heldSounds p l → demandOf p l = true → demandOf q l = true

variable {p q r : Part}

theorem Settles.sounds (h : Settles p q) {l : Level} (s : heldSounds p l) : heldSounds q l := by
  obtain ⟨e, hmem, hheld, hrest⟩ := s
  exact ⟨e, h.kept e hmem hheld, h.holds _ hheld, hrest⟩

theorem Settles.refl (p : Part) : Settles p p :=
  ⟨rfl, fun _ => id, fun _ => rfl, fun _ _ => id, fun _ _ => id, rfl, fun _ h _ => h, fun _ => id, Nat.le_refl _, id,
    fun h => absurd h (Nat.lt_irrefl _), .refl p, id, fun _ _ => id⟩

theorem Settles.trans (h : Settles p q) (k : Settles q r) : Settles p r where
  stc := k.stc.trans h.stc
  holds := fun a => k.holds a ∘ h.holds a
  emergency := fun a => (k.emergency a).trans (h.emergency a)
  offers := fun i a => h.offers i a ∘ k.offers i a
  receptions := fun i a => h.receptions i a ∘ k.receptions i a
  answers := k.answers.trans h.answers
  kept := fun e he hheld => k.kept e (h.kept e he hheld) (h.holds _ hheld)
  only := fun e => h.only e ∘ k.only e
  shrinks := Nat.le_trans k.shrinks h.shrinks
  overflow := k.overflow ∘ h.overflow
  clears := fun hlt hlow => by
    rcases Nat.lt_or_ge r.atu.table.length q.atu.table.length with hk | hk
    · exact k.clears hk hlow
    · have := k.shrinks
      exact k.overflow (h.clears (by omega) (by omega))
  log := h.log.trans k.log
  trip := k.trip ∘ h.trip
  demand := fun l hs hd => k.demand l (h.sounds hs) (h.demand l hs hd)

theorem settles_foldl {α : Type} {f : Part → α → Part} (hf : ∀ p x, Settles p (f p x)) (l : List α) (p : Part) :
    Settles p (l.foldl f p) :=
  foldl_keeps (P := Settles p) (fun q x h => h.trans (hf q x)) (Settles.refl p) l

theorem settles_ite (c : Prop) [Decidable c] (hq : Settles p q) (hr : Settles p r) : Settles p (if c then q else r) := by
  split
  · exact hq
  · exact hr

/-! ## Records -/

theorem offerFor_eq_none {p : Part} {a : Area} :
    offerFor p a = none ↔ ∀ r, (p.hou.offers.get r).map Offer.area ≠ some a := by
  unfold offerFor
  rw [List.find?_eq_none]
  refine ⟨fun h r => ?_, fun h r _ => ?_⟩
  · have := h r (List.mem_finRange r)
    cases hx : p.hou.offers.get r <;> simp_all
  · have := h r
    cases hx : p.hou.offers.get r <;> simp_all

theorem receptionFor_eq_none {p : Part} {a : Area} :
    receptionFor p a = none ↔ ∀ r, (p.hou.receptions.get r).map Reception.area ≠ some a := by
  unfold receptionFor
  rw [List.find?_eq_none]
  refine ⟨fun h r => ?_, fun h r _ => ?_⟩
  · have := h r (List.mem_finRange r)
    cases hx : p.hou.receptions.get r <;> simp_all
  · have := h r
    cases hx : p.hou.receptions.get r <;> simp_all

theorem Settles.offerFor (h : Settles p q) {a : Area} (hn : offerFor p a = none) : offerFor q a = none := by
  rw [offerFor_eq_none] at hn ⊢
  exact fun i hi => hn i (h.offers i a hi)

theorem Settles.receptionFor (h : Settles p q) {a : Area} (hn : receptionFor p a = none) : receptionFor q a = none := by
  rw [receptionFor_eq_none] at hn ⊢
  exact fun i hi => hn i (h.receptions i a hi)

/-! ## Operations that leave the table, the demands and the log -/

/-- The table, the demands and the events are as they were; views keep holding and emergency, and no record is new. -/
theorem settles_of (hstc : q.stc = p.stc) (hatu : q.atu = p.atu) (hu : q.anu.urgent = p.anu.urgent)
    (hr : q.anu.routine = p.anu.routine) (ht : q.anu.trip = p.anu.trip)
    (hholds : ∀ a, holds p a = true → holds q a = true) (hemergency : ∀ a, emergency q a = emergency p a)
    (hoffers : ∀ i a, (q.hou.offers.get i).map Offer.area = some a → (p.hou.offers.get i).map Offer.area = some a)
    (hreceptions : ∀ i a, (q.hou.receptions.get i).map Reception.area = some a →
      (p.hou.receptions.get i).map Reception.area = some a)
    (hanswers : q.hou.answers.length = p.hou.answers.length) (hlog : LogGrows p q) : Settles p q where
  stc := hstc
  holds := hholds
  emergency := hemergency
  offers := hoffers
  receptions := hreceptions
  answers := hanswers
  kept := fun e he _ => hatu ▸ he
  only := fun e he => hatu ▸ he
  shrinks := Nat.le_of_eq (by rw [hatu])
  overflow := by rw [hatu]; exact id
  clears := fun hlt => by rw [hatu] at hlt; exact absurd hlt (Nat.lt_irrefl _)
  log := hlog
  trip := by rw [ht]; exact id
  demand := fun l _ hd => by cases l <;> simpa [demandOf, hu, hr] using hd

theorem settles_of_frame (hstc : q.stc = p.stc) (hatu : q.atu = p.atu) (hanu : q.anu = p.anu) (hviews : q.aru.views = p.aru.views)
    (hhou : q.hou = p.hou) (hlog : LogGrows p q) : Settles p q :=
  settles_of hstc hatu (by rw [hanu]) (by rw [hanu]) (by rw [hanu]) (fun a => by unfold holds view; rw [hviews]; exact id)
    (fun a => by unfold emergency view; rw [hviews]) (fun _ _ => by rw [hhou]; exact id)
    (fun _ _ => by rw [hhou]; exact id) (by rw [hhou]) hlog

theorem Queues.settles (h : Queues p q) : Settles p q := by
  have hview : ∀ a, (view q a).role = (view p a).role ∧ (view q a).emergency = (view p a).emergency := fun a => by
    obtain ⟨m, hm⟩ := h.views a
    rw [hm]
    exact ⟨rfl, rfl⟩
  refine settles_of h.stc h.atu h.urgent h.routine h.trip (fun a => ?_) (fun a => (hview a).2) (fun i a => ?_)
    (fun i a => ?_) h.answers ?_
  · have hrole := (hview a).1
    simp [holds, hrole]
  · rw [h.offers]; exact id
  · rw [h.receptions]; exact id
  · rw [LogGrows, h.events]

theorem settles_produce (e : Event) (p : Part) : Settles p (produce e p) :=
  settles_of_frame rfl rfl rfl rfl rfl (logGrows_produce e p)

theorem settles_countFailed (p : Part) : Settles p (countFailed p) := settles_of_frame rfl rfl rfl rfl rfl (.refl p)

theorem settles_modView (a : Area) {f : View → View} (hrole : ∀ v, v.role = .hold → (f v).role = .hold)
    (hemergency : ∀ v, (f v).emergency = v.emergency) (p : Part) : Settles p (modView a f p) := by
  refine settles_of rfl rfl rfl rfl rfl (fun b hb => ?_) (fun b => ?_) (fun _ _ => id) (fun _ _ => id) rfl (.refl p)
  · exact (grows_modView a hrole p).holds b hb
  · unfold emergency
    rw [view_modView]
    split
    · next h => rw [hemergency, h]
    · rfl

theorem settles_setOffer_none (i : Fin 4) (p : Part) : Settles p (setOffer i none p) := by
  refine settles_of rfl rfl rfl rfl rfl (fun _ => id) (fun _ => rfl) (fun j a h => ?_) (fun _ _ => id) rfl (.refl p)
  change Option.map _ ((setAt p.hou.offers i none).get j) = _ at h
  rw [setAt_get] at h
  split at h
  · cases h
  · exact h

theorem settles_setReception_none (i : Fin 4) (p : Part) : Settles p (setReception i none p) := by
  refine settles_of rfl rfl rfl rfl rfl (fun _ => id) (fun _ => rfl) (fun _ _ => id) (fun j a h => ?_) rfl (.refl p)
  change Option.map _ ((setAt p.hou.receptions i none).get j) = _ at h
  rw [setAt_get] at h
  split at h
  · cases h
  · exact h

/-! ## Demands -/

/-- The demands alone change: what a held area's entry sounds for stands, and T is not cleared. -/
theorem settles_of_demands (hatu : q.atu = p.atu) (hstc : q.stc = p.stc) (haru : q.aru = p.aru) (hhou : q.hou = p.hou)
    (hcnp : q.cnp = p.cnp) (htrip : p.anu.trip = true → q.anu.trip = true)
    (hdemand : ∀ l, heldSounds p l → demandOf p l = true → demandOf q l = true) : Settles p q :=
  { settles_of_frame (p := p) (q := { q with anu := p.anu }) hstc hatu rfl (by rw [← haru]) hhou (logGrows_of_cnp hcnp) with
    trip := htrip
    demand := hdemand }

theorem demandStands_of_held {l : Level} (h : heldSounds p l) : demandStands p l := by
  obtain ⟨e, hmem, hheld, hstate, hquiet, hlevel⟩ := h
  refine ⟨e, hmem, ?_, hstate, hquiet, hlevel⟩
  simpa [annunciated, holds] using Or.inl (of_decide_eq_true hheld)

theorem settles_deriveHorn (p : Part) : Settles p (deriveHorn p) := by
  refine settles_of_demands rfl rfl rfl rfl rfl id fun l hs hd => ?_
  have hheld := (demandHeld_iff p l).2 (demandStands_of_held hs)
  cases l <;> simp_all [demandOf]

theorem settles_raiseStanding (a : Area) (p : Part) : Settles p (raiseStanding a p) := by
  refine settles_of_demands rfl rfl rfl rfl rfl (fun h => ?_) fun l _ hd => ?_
  · simp [raiseStanding, h]
  · cases l <;> simp_all [demandOf, raiseStanding]

theorem settles_noticeEmergency (a : Area) (p : Part) : Settles p (noticeEmergency a p) := by
  refine Settles.trans (settles_ite _ ?_ (.refl p)) (settles_deriveHorn _)
  exact settles_of_demands rfl rfl rfl rfl rfl (fun _ => rfl) fun l _ hd => by cases l <;> exact hd

/-! ## Records freed (R131, R133) -/

theorem settles_dropOffer (i : Fin 4) (p : Part) : Settles p (dropOffer i p) := by
  unfold dropOffer
  split
  · exact .refl p
  · exact ((queues_withdrawTelegram _ p).settles.trans (settles_setOffer_none i _)).trans (settles_deriveHorn _)

theorem settles_dropReception (i : Fin 4) (p : Part) : Settles p (dropReception i p) := by
  unfold dropReception
  split
  · exact .refl p
  · exact ((queues_withdrawTelegram _ p).settles.trans (settles_setReception_none i _)).trans (settles_deriveHorn _)

theorem settles_closeOffer (i : Fin 4) (x : Reason) (p : Part) : Settles p (closeOffer i x false p) := by
  have hdrop := settles_dropOffer i p
  unfold closeOffer
  (repeat' split)
  · exact .refl p
  · exact hdrop
  · contradiction
  · exact (hdrop.trans (settles_produce ..)).trans (settles_countFailed _)

theorem settles_closeReception (i : Fin 4) (x : Reason) (p : Part) : Settles p (closeReception i x p) := by
  have hdrop := settles_dropReception i p
  unfold closeReception
  (repeat' split)
  · exact .refl p
  · exact hdrop
  · exact (hdrop.trans (settles_produce ..)).trans (settles_countFailed _)

theorem settles_disarmRelief (p : Part) : Settles p (disarmRelief p) :=
  (queues_modSsu _ p).settles.trans (settles_deriveHorn _)

theorem settles_cancelRelief (x : Reason) (a : Option Area) (p : Part) : Settles p (cancelRelief x a p) :=
  settles_ite _ ((settles_disarmRelief p).trans (settles_produce ..)) (.refl p)

/-! ## Roles and claims (R44, R47, R103) -/

theorem settles_changeRole {a : Area} {x : Role} (h : holds p a = true → x = .hold) : Settles p (changeRole a x p) := by
  have hview : Settles p (modView a (fun v => { v with role := x }) p) := by
    refine settles_of rfl rfl rfl rfl rfl (fun b hb => ?_) (fun b => ?_) (fun _ _ => id) (fun _ _ => id) rfl (.refl p)
    · simp only [holds, view_modView] at hb ⊢
      split
      · next hba =>
        subst hba
        exact decide_eq_true (h hb)
      · exact hb
    · simp only [emergency, view_modView]
      split
      · next hba => rw [hba]
      · rfl
  unfold changeRole
  split
  · exact .refl p
  · refine Settles.trans ?_ (settles_deriveHorn _)
    exact settles_ite _ (hview.trans (settles_raiseStanding a _)) hview

theorem settles_refreshRoles (p : Part) : Settles p (refreshRoles p) := by
  refine settles_foldl (fun p a => ?_) allAreas p
  unfold refreshRole
  split
  · exact .refl p
  · next hnot => exact settles_changeRole fun h => absurd h hnot

theorem settles_dropOwedSync (a : Area) (p : Part) : Settles p (dropOwedSync a p) := by
  unfold dropOwedSync leaveWaiting
  exact (settles_modView a (fun _ h => by exact h) (fun _ => by rfl) p).trans (queues_modLif _ _).settles

theorem settles_startGrace (p : Part) : Settles p (startGrace p) := by
  refine settles_of_frame rfl rfl rfl ?_ rfl (.refl p)
  change (if _ then p.aru else _).views = p.aru.views
  split <;> rfl

theorem settles_gainArea (a : Area) (p : Part) : Settles p (gainArea a p) := by
  have hcleared := (settles_modView a (f := fun v => { noHolder v with relinquished := false, startup := false })
    (fun _ h => by exact h) (fun _ => by rfl) p).trans (settles_dropOwedSync a _)
  have hgain := hcleared.trans ((settles_changeRole (a := a) fun _ => rfl).trans (queues_callBeacon _).settles)
  exact settles_ite _ hgain (hgain.trans (settles_startGrace _))

theorem settles_judgeClaims (p : Part) : Settles p (judgeClaims p) := by
  refine settles_foldl (fun p a => ?_) allAreas p
  exact settles_ite _ ((settles_gainArea a p).trans (settles_produce ..)) (.refl p)

/-! ## The follow set (R4, R5) -/

theorem followed_of_holds {a : Area} (h : holds p a = true) : followed p a = true := by simp [followed, h]

theorem zero_and_areaSet (x : AreaSet) : (0 : AreaSet) &&& x = 0 := BitVec.zero_and

theorem settles_purgeUnfollowed (p : Part) : Settles p (purgeUnfollowed p) := by
  refine Settles.trans (q := { p with atu := (purgeUnfollowed p).atu, ldm := (purgeUnfollowed p).ldm }) ?_ ?_
  · refine { settles_of_frame (p := p) (q := { p with ldm := (purgeUnfollowed p).ldm }) rfl rfl rfl rfl rfl (.refl p) with
      kept := fun e he hheld => ?_, only := fun e he => ?_, shrinks := ?_, overflow := fun h => ?_, clears := fun hlt hlow => ?_ }
    · exact List.mem_filter.2 ⟨he, followed_of_holds hheld⟩
    · exact List.mem_of_mem_filter he
    · exact List.length_filter_le ..
    · simp [purgeUnfollowed, keepEntries, h]
    · have hcut : (keepEntries (fun e => followed p e.area) p).atu.overflow = 0 := if_pos ⟨hlt, hlow⟩
      change (keepEntries (fun e => followed p e.area) p).atu.overflow &&& _ = 0
      rw [hcut]
      exact zero_and_areaSet _
  · have := settles_deriveHorn { p with atu := (purgeUnfollowed p).atu, ldm := (purgeUnfollowed p).ldm }
    exact this

theorem settles_settleAreas (p : Part) : Settles p (settleAreas p) :=
  (settles_refreshRoles p).trans (settles_purgeUnfollowed _)

theorem settles_afterReceptionFreed (p : Part) : Settles p (afterReceptionFreed p) :=
  (settles_settleAreas p).trans (settles_judgeClaims _)

end Sys2Proof.Machine
end


section
/-! PROOFS. The flush of an area that enters EMERGENCY (R40, R46): what it leaves of each entry, and the demands of the entries it
uncovers. -/

namespace Sys2Proof.Machine

variable {p q : Part} {a : Area}

/-! ## Entry by entry -/

/-- The entry, not quiet when it is the area's (R40). -/
def unquiet (a : Area) (e : Entry) : Entry := if e.area = a then { e with quiet := false } else e

@[simp] theorem unquiet_tag (a : Area) (e : Entry) : (unquiet a e).tag = e.tag := by unfold unquiet; split <;> rfl

@[simp] theorem unquiet_area (a : Area) (e : Entry) : (unquiet a e).area = e.area := by unfold unquiet; split <;> rfl

theorem find_map_unquiet (a : Area) (t : Tag) (l : List Entry) :
    (l.map (unquiet a)).find? (fun e => decide (e.tag = t)) =
      (l.find? fun e => decide (e.tag = t)).map (unquiet a) := by
  rw [List.find?_map]
  congr 2
  funext e
  simp

theorem findEntry_clearQuiet (a : Area) (p : Part) (t : Tag) :
    findEntry (clearQuiet a p) t = (findEntry p t).map (unquiet a) := find_map_unquiet a t p.atu.table

/-- What the removal of its shelf, if it has one, leaves of an entry (R39). -/
def bared (p : Part) (e : Entry) : Option Entry := if e.shelf.isSome then bareEntry p e else some e

theorem bared_stc (h : q.stc = p.stc) : bared q = bared p := by
  funext e
  simp [bared, bareEntry, h]

theorem bared_eq_some {e y : Entry} (h : bared p e = some y) :
    y.tag = e.tag ∧ y.area = e.area ∧ y.quiet = e.quiet ∧ y.shelf = none := by
  unfold bared bareEntry at h
  (repeat' split at h)
  · cases h
  · obtain rfl := Option.some.inj h
    exact ⟨rfl, rfl, rfl, rfl⟩
  · next hs =>
    obtain rfl := Option.some.inj h
    exact ⟨rfl, rfl, rfl, by simpa using hs⟩

theorem bared_bared (o : Option Entry) : (o.bind (bared p)).bind (bared p) = o.bind (bared p) := by
  cases o with
  | none => rfl
  | some e =>
    cases h : bared p e with
    | none => simp [h]
    | some y =>
      obtain ⟨-, -, -, hs⟩ := bared_eq_some h
      rw [Option.bind_some, h, Option.bind_some]
      simp [bared, hs]

@[simp] theorem removeShelfOf_stc (t : Tag) (p : Part) : (removeShelfOf p t).stc = p.stc := by
  unfold removeShelfOf; (repeat' split) <;> simp

@[simp] theorem removeShelfOf_aru (t : Tag) (p : Part) : (removeShelfOf p t).aru = p.aru := by
  unfold removeShelfOf; (repeat' split) <;> simp

theorem findEntry_removeShelfOf (p : Part) (t y : Tag) :
    findEntry (removeShelfOf p t) y = if y = t then (findEntry p y).bind (bared p) else findEntry p y := by
  unfold removeShelfOf
  cases he : findEntry p t with
  | none =>
    by_cases h : y = t
    · simp [h, he]
    · simp [h]
  | some e =>
    have htag := findEntry_tag he
    cases hs : e.shelf with
    | none =>
      simp only [hs, Option.isSome_none, Bool.false_eq_true, if_false]
      split
      · next h => simp [h, he, bared, hs]
      · rfl
    | some x =>
      simp only [hs, Option.isSome_some, if_true, findEntry_removeShelf, htag, unlessRemoved_unshelved]
      split
      · next h => simp [h, he, bared, hs]
      · rfl

theorem removeShelfOf_cases (p : Part) (t : Tag) : removeShelfOf p t = p ∨ ∃ e, removeShelfOf p t = removeShelf e p := by
  unfold removeShelfOf
  (repeat' split)
  · exact .inr ⟨_, rfl⟩
  · exact .inl rfl
  · exact .inl rfl

theorem findEntry_removeShelves (l : List Tag) (p : Part) (t : Tag) :
    findEntry (l.foldl removeShelfOf p) t = if t ∈ l then (findEntry p t).bind (bared p) else findEntry p t := by
  induction l generalizing p with
  | nil => simp
  | cons x xs ih =>
    rw [List.foldl_cons, ih, findEntry_removeShelfOf, bared_stc (removeShelfOf_stc x p)]
    by_cases hx : t = x <;> by_cases hxs : t ∈ xs <;> simp [hx, hxs, bared_bared]

theorem flushArea_kept (h : p.stc.settings.keepShelves = true) : flushArea a p = clearQuiet a p := if_pos h

theorem flushArea_swept (h : p.stc.settings.keepShelves = false) :
    flushArea a p = ((areaEntries (clearQuiet a p) a).map Entry.tag).foldl removeShelfOf (clearQuiet a p) :=
  if_neg (by rw [show (clearQuiet a p).stc = p.stc from rfl, h]; exact Bool.false_ne_true)

theorem clearQuiet_area {e : Entry} (he : e ∈ (clearQuiet a p).atu.table) (ha : e.area = a) : e.quiet = false := by
  obtain ⟨y, -, rfl⟩ := List.mem_map.1 (show e ∈ p.atu.table.map (unquiet a) from he)
  rw [unquiet_area] at ha
  rw [unquiet, if_pos ha]

/-- After the flush no entry of the area is quiet, and none carries a shelf unless shelves are kept (R40). -/
theorem flushArea_entries (h : TableFine p) {e : Entry} (he : e ∈ (flushArea a p).atu.table) (ha : e.area = a) :
    e.quiet = false ∧ (p.stc.settings.keepShelves = false → e.shelf = none) := by
  cases hk : p.stc.settings.keepShelves with
  | true =>
    rw [flushArea_kept hk] at he
    exact ⟨clearQuiet_area he ha, nofun⟩
  | false =>
    have hfind := findEntry_of_mem (tableFine_flushArea h a).2.1 he
    rw [flushArea_swept hk, findEntry_removeShelves] at hfind
    split at hfind
    · obtain ⟨y, hy, hyb⟩ := Option.bind_eq_some_iff.1 hfind
      obtain ⟨-, harea, hquiet, hshelf⟩ := bared_eq_some hyb
      refine ⟨?_, fun _ => hshelf⟩
      rw [hquiet]
      exact clearQuiet_area (findEntry_mem hy) (harea.symm.trans ha)
    · next hnot =>
      exact absurd (List.mem_map.2 ⟨e, List.mem_filter.2 ⟨findEntry_mem hfind, decide_eq_true ha⟩, rfl⟩) hnot

/-! ## The table's size and the indicators (R18) -/

/-- Where the table shrinks to 448 entries or fewer no indicator is left, and none is set. -/
structure Cuts (p q : Part) : Prop where
  overflow : p.atu.overflow = 0 → q.atu.overflow = 0
  clears : q.atu.table.length < p.atu.table.length → q.atu.table.length ≤ 448 → q.atu.overflow = 0

theorem Cuts.refl (p : Part) : Cuts p p := ⟨id, fun h => absurd h (Nat.lt_irrefl _)⟩

theorem Cuts.trans {r : Part} (h : Cuts p q) (k : Cuts q r) : Cuts p r where
  overflow := k.overflow ∘ h.overflow
  clears := fun hlt hlow => by
    rcases Nat.lt_or_ge r.atu.table.length q.atu.table.length with hk | hk
    · exact k.clears hk hlow
    · exact k.overflow (h.clears (by omega) (by omega))

theorem Settles.cuts (h : Settles p q) : Cuts p q := ⟨h.overflow, h.clears⟩

theorem cuts_of_indicatorsFollow (h : indicatorsFollow p q) : Cuts p q := by
  unfold indicatorsFollow at h
  refine ⟨fun h0 => ?_, fun hlt hlow => ?_⟩
  · rw [h]; split
    · rfl
    · exact h0
  · rw [h, if_pos ⟨hlt, hlow⟩]

theorem cuts_removeShelfOf (h : TagsRise p.atu.table) (t : Tag) : Cuts p (removeShelfOf p t) := by
  unfold removeShelfOf
  split
  · next e f =>
    rw [← findEntry_tag f] at f
    split
    · exact cuts_of_indicatorsFollow (indicatorsFollow_removeShelf h f)
    · exact .refl p
  · exact .refl p

theorem cuts_flushArea (h : TableFine p) (a : Area) : Cuts p (flushArea a p) := by
  have hclear : Cuts p (clearQuiet a p) :=
    cuts_of_indicatorsFollow (by simp [indicatorsFollow, clearQuiet])
  cases hk : p.stc.settings.keepShelves with
  | true => rwa [flushArea_kept hk]
  | false =>
    rw [flushArea_swept hk]
    refine (foldl_keeps (P := fun q => Cuts p q ∧ TableFine q) (fun q t hq => ?_) ⟨hclear, tableFine_clearQuiet h a⟩ _).1
    exact ⟨hq.1.trans (cuts_removeShelfOf hq.2.2.1 t), tableFine_removeShelfOf hq.2 t⟩

/-! ## The demands of the entries uncovered (R45) -/

theorem demandStands_of_tagSounds {t : Tag} {l : Level} (h : tagSounds p t l) : demandStands p l := by
  obtain ⟨e, he, hs⟩ := h
  exact ⟨e, findEntry_mem he, hs⟩

theorem demandOf_of_derived {raised : Level → Prop} (h : demandsDerived p q raised) {l : Level}
    (hr : demandOf p l = true ∨ raised l) (hs : demandStands q l) : demandOf q l = true := by
  obtain ⟨hu, hro, -⟩ := h
  cases l with
  | urgent => exact hu.2 ⟨hr, hs⟩
  | routine => exact hro.2 ⟨hr, hs⟩

/-- The demand of an entry that sounds survives the removal of any other's shelf. -/
theorem rings_removeShelfOf {t : Tag} {l : Level} (hs : tagSounds p t l) (hd : demandOf p l = true) (y : Tag) :
    tagSounds (removeShelfOf p y) t l ∧ demandOf (removeShelfOf p y) l = true := by
  obtain ⟨e, he, hsound⟩ := hs
  have hbare : bared p e = some e := by
    obtain ⟨-, hstate, -⟩ := hsound
    cases hx : e.shelf with
    | none => simp [bared, hx]
    | some x => simp [entryState, hx] at hstate
  have hfind : findEntry (removeShelfOf p y) t = some e := by
    rw [findEntry_removeShelfOf]
    split
    · rw [he, Option.bind_some, hbare]
    · exact he
  have hsounds : tagSounds (removeShelfOf p y) t l := ⟨e, hfind, (sounds_congr (by simp) l e).2 hsound⟩
  refine ⟨hsounds, ?_⟩
  rcases removeShelfOf_cases p y with hsame | ⟨z, hz⟩
  · rw [hsame]; exact hd
  · rw [hz] at hsounds ⊢
    exact demandOf_of_derived (demandsDerived_removeShelf z p) (.inl hd) (demandStands_of_tagSounds hsounds)

/-- An ALERTING entry that the sweep uncovers in an annunciated area raises the demand of its level. -/
theorem rings_removeShelves {l : List Tag} {e : Entry} (hl : e.tag ∈ l) (he : findEntry p e.tag = some e)
    (hs : e.shelf ≠ none) (hact : e.active = true) (hack : e.acknowledged = false) (hquiet : e.quiet = false)
    (hann : annunciated p e.area = true) :
    tagSounds (l.foldl removeShelfOf p) e.tag (levelOf e.priority) ∧
      demandOf (l.foldl removeShelfOf p) (levelOf e.priority) = true := by
  induction l generalizing p with
  | nil => exact absurd hl List.not_mem_nil
  | cons x xs ih =>
    rw [List.foldl_cons]
    by_cases hx : e.tag = x
    · have hremoved : removeShelfOf p x = removeShelf e p := by
        simp [removeShelfOf, ← hx, he, Option.isSome_iff_ne_none.2 hs]
      have hsounds : tagSounds (removeShelf e p) e.tag (levelOf e.priority) := by
        refine ⟨{ e with shelf := none, lastChange := p.stc.seconds }, ?_, ?_⟩
        · rw [findEntry_removeShelf, if_pos rfl, unlessRemoved_unshelved]
          simp [bareEntry, hact]
        · exact (sounds_congr (by simp) _ _).2 ⟨hann, by simp [entryState, hact, hack], hquiet, rfl⟩
      rw [hremoved]
      refine foldl_keeps (P := fun q => tagSounds q e.tag (levelOf e.priority) ∧ demandOf q (levelOf e.priority) = true)
        (fun q y h => rings_removeShelfOf h.1 h.2 y) ⟨hsounds, ?_⟩ xs
      exact demandOf_of_derived (demandsDerived_removeShelf e p) (.inr hsounds) (demandStands_of_tagSounds hsounds)
    · refine ih ((List.mem_cons.1 hl).resolve_left hx) ?_ ?_
      · rw [findEntry_removeShelfOf, if_neg hx, he]
      · unfold annunciated view at hann ⊢
        rw [removeShelfOf_aru]
        exact hann

/-- The flush of a held area raises the demand of each ALERTING entry that it uncovers (R40, R45). -/
theorem flushArea_rings (h : TableFine p) (hheld : holds p a = true) (hk : p.stc.settings.keepShelves = false) {e : Entry}
    (he : e ∈ p.atu.table) (ha : e.area = a) (hs : e.shelf ≠ none) (hact : e.active = true) (hack : e.acknowledged = false) :
    heldSounds (flushArea a p) (levelOf e.priority) ∧ demandOf (flushArea a p) (levelOf e.priority) = true := by
  have hann : annunciated p a = true := by simpa [annunciated, holds] using Or.inl (of_decide_eq_true hheld)
  have hquiet : unquiet a e = { e with quiet := false } := if_pos ha
  have hclear : findEntry (clearQuiet a p) e.tag = some { e with quiet := false } := by
    rw [findEntry_clearQuiet, findEntry_of_mem h.2.1 he, Option.map_some, hquiet]
  have hin : e.tag ∈ (areaEntries (clearQuiet a p) a).map Entry.tag :=
    List.mem_map.2 ⟨_, List.mem_filter.2 ⟨findEntry_mem hclear, decide_eq_true ha⟩, rfl⟩
  obtain ⟨hsounds, hdemand⟩ := rings_removeShelves (e := { e with quiet := false }) hin hclear hs hact hack rfl
    (by rw [← ha] at hann; exact hann)
  rw [← flushArea_swept hk] at hsounds hdemand
  refine ⟨?_, hdemand⟩
  obtain ⟨y, hy, -, hstate, hyq, hlevel⟩ := hsounds
  refine ⟨y, findEntry_mem hy, ?_, hstate, hyq, hlevel⟩
  rw [flushArea_swept hk, findEntry_removeShelves, if_pos hin, hclear, Option.bind_some] at hy
  obtain ⟨-, harea, -⟩ := bared_eq_some hy
  rw [harea]
  change holds (flushArea a p) e.area = true
  rw [ha]
  unfold holds view at hheld ⊢
  rw [(flushArea_frame p a).2.2.2.2.1]
  exact hheld

end Sys2Proof.Machine
end


section
/-! PROOFS. TRIP and RESTORE telegrams (R40, R46, R107, R108, R132, O46). -/

namespace Sys2Proof.Machine

variable {p q : Part} {a : Area} {t : Telegram}

/-! ## The records of a tripped area (R132) -/

theorem dropOffer_get (i : Fin 4) (p : Part) : (dropOffer i p).hou.offers.get i = none := by
  unfold dropOffer
  split
  · assumption
  · change (setAt _ i none).get i = none
    rw [setAt_get, if_pos rfl]

theorem closeOffer_get (i : Fin 4) (x : Reason) (p : Part) : (closeOffer i x false p).hou.offers.get i = none := by
  have hdrop := dropOffer_get i p
  unfold closeOffer
  (repeat' split)
  · assumption
  · exact hdrop
  · contradiction
  · exact hdrop

theorem dropReception_get (i : Fin 4) (p : Part) : (dropReception i p).hou.receptions.get i = none := by
  unfold dropReception
  split
  · assumption
  · change (setAt _ i none).get i = none
    rw [setAt_get, if_pos rfl]

theorem closeReception_get (i : Fin 4) (x : Reason) (p : Part) : (closeReception i x p).hou.receptions.get i = none := by
  unfold closeReception
  (repeat' split)
  · assumption
  · exact dropReception_get i p
  · exact dropReception_get i p

theorem settles_tripOffer (a : Area) (p : Part) (i : Fin 4) : Settles p (tripOffer a p i) := by
  unfold tripOffer
  split
  · exact settles_ite _ (settles_closeOffer ..) (.refl p)
  · exact .refl p

theorem settles_tripReception (a : Area) (p : Part) (i : Fin 4) : Settles p (tripReception a p i) := by
  unfold tripReception
  split
  · exact settles_ite _ (settles_closeReception ..) (.refl p)
  · exact .refl p

theorem settles_tripRecords (a : Area) (p : Part) : Settles p (tripRecords a p) :=
  (settles_foldl (settles_tripOffer a) _ p).trans (settles_foldl (settles_tripReception a) _ _)

theorem tripOffer_area (a : Area) (p : Part) (i : Fin 4) :
    ((tripOffer a p i).hou.offers.get i).map Offer.area ≠ some a := by
  unfold tripOffer
  split
  · next o ho =>
    split
    · rw [closeOffer_get]; exact nofun
    · next hne => rw [ho]; exact fun h => hne (Option.some.inj h)
  · next hnone => rw [hnone]; exact nofun

theorem tripReception_area (a : Area) (p : Part) (i : Fin 4) :
    ((tripReception a p i).hou.receptions.get i).map Reception.area ≠ some a := by
  unfold tripReception
  split
  · next o ho =>
    split
    · rw [closeReception_get]; exact nofun
    · next hne => rw [ho]; exact fun h => hne (Option.some.inj h)
  · next hnone => rw [hnone]; exact nofun

theorem tripOffers_area (a : Area) (l : List (Fin 4)) (p : Part) {i : Fin 4} (hi : i ∈ l) :
    ((l.foldl (tripOffer a) p).hou.offers.get i).map Offer.area ≠ some a := by
  induction l generalizing p with
  | nil => exact absurd hi List.not_mem_nil
  | cons j js ih =>
    rw [List.foldl_cons]
    rcases List.mem_cons.1 hi with rfl | hj
    · exact fun h => tripOffer_area a p i ((settles_foldl (settles_tripOffer a) js _).offers i a h)
    · exact ih _ hj

theorem tripReceptions_area (a : Area) (l : List (Fin 4)) (p : Part) {i : Fin 4} (hi : i ∈ l) :
    ((l.foldl (tripReception a) p).hou.receptions.get i).map Reception.area ≠ some a := by
  induction l generalizing p with
  | nil => exact absurd hi List.not_mem_nil
  | cons j js ih =>
    rw [List.foldl_cons]
    rcases List.mem_cons.1 hi with rfl | hj
    · exact fun h => tripReception_area a p i ((settles_foldl (settles_tripReception a) js _).receptions i a h)
    · exact ih _ hj

/-- No record of either kind stands for a tripped area (R132). -/
theorem tripRecords_none (a : Area) (p : Part) :
    offerFor (tripRecords a p) a = none ∧ receptionFor (tripRecords a p) a = none := by
  unfold tripRecords
  have hoffers : offerFor ((List.finRange 4).foldl (tripOffer a) p) a = none :=
    offerFor_eq_none.2 fun i => tripOffers_area a _ p (List.mem_finRange i)
  refine ⟨(settles_foldl (settles_tripReception a) (List.finRange 4) _).offerFor hoffers, ?_⟩
  exact receptionFor_eq_none.2 fun i => tripReceptions_area a _ _ (List.mem_finRange i)

/-! ## The roles while the records go -/

/-- Every area's role is as it was. -/
def SameRoles (p q : Part) : Prop := ∀ a, (view q a).role = (view p a).role

theorem SameRoles.refl (p : Part) : SameRoles p p := fun _ => rfl

theorem SameRoles.trans {r : Part} (h : SameRoles p q) (k : SameRoles q r) : SameRoles p r := fun a => (k a).trans (h a)

theorem SameRoles.annunciated (h : SameRoles p q) (a : Area) : annunciated q a = annunciated p a := by
  unfold Machine.annunciated; rw [h a]

theorem SameRoles.holds (h : SameRoles p q) (a : Area) : holds q a = holds p a := by
  unfold Machine.holds; rw [h a]

theorem sameRoles_of_aru (h : q.aru = p.aru) : SameRoles p q := fun a => by unfold view; rw [h]

theorem Queues.sameRoles (h : Queues p q) : SameRoles p q := fun a => by
  obtain ⟨m, hm⟩ := h.views a
  rw [hm]

theorem sameRoles_dropOffer (i : Fin 4) (p : Part) : SameRoles p (dropOffer i p) := by
  unfold dropOffer
  split
  · exact .refl p
  · exact (queues_withdrawTelegram _ p).sameRoles.trans (sameRoles_of_aru rfl)

theorem sameRoles_dropReception (i : Fin 4) (p : Part) : SameRoles p (dropReception i p) := by
  unfold dropReception
  split
  · exact .refl p
  · exact (queues_withdrawTelegram _ p).sameRoles.trans (sameRoles_of_aru rfl)

theorem sameRoles_closeOffer (i : Fin 4) (x : Reason) (p : Part) : SameRoles p (closeOffer i x false p) := by
  have hdrop := sameRoles_dropOffer i p
  unfold closeOffer
  (repeat' split)
  · exact .refl p
  · exact hdrop
  · contradiction
  · exact hdrop.trans (sameRoles_of_aru rfl)

theorem sameRoles_closeReception (i : Fin 4) (x : Reason) (p : Part) : SameRoles p (closeReception i x p) := by
  have hdrop := sameRoles_dropReception i p
  unfold closeReception
  (repeat' split)
  · exact .refl p
  · exact hdrop
  · exact hdrop.trans (sameRoles_of_aru rfl)

theorem sameRoles_tripRecords (a : Area) (p : Part) : SameRoles p (tripRecords a p) := by
  refine foldl_keeps (P := SameRoles p) (fun q i h => h.trans ?_)
    (foldl_keeps (P := SameRoles p) (fun q i h => h.trans ?_) (SameRoles.refl p) _) _
  · unfold tripReception
    (repeat' split)
    · exact sameRoles_closeReception _ _ q
    · exact .refl q
    · exact .refl q
  · unfold tripOffer
    (repeat' split)
    · exact sameRoles_closeOffer _ _ q
    · exact .refl q
    · exact .refl q

theorem sameRoles_cancelRelief (x : Reason) (a : Option Area) (p : Part) : SameRoles p (cancelRelief x a p) := by
  unfold cancelRelief
  split
  · exact sameRoles_of_aru rfl
  · exact .refl p

/-! ## Entering EMERGENCY (R107) -/

/-- The area is in EMERGENCY, with AREA-TRIPPED: what comes before the flush. -/
def tripped (a : Area) (x : StationNo) (w : Reason) (p : Part) : Part :=
  produce { kind := .areaTripped, area := some a, station := some x, reason := some w }
    (modView a (fun v => { v with emergency := true }) p)

theorem view_tripped (a : Area) (x : StationNo) (w : Reason) (p : Part) (b : Area) :
    view (tripped a x w p) b = view (modView a (fun v => { v with emergency := true }) p) b := rfl

theorem emergency_tripped (a : Area) (x : StationNo) (w : Reason) (p : Part) (b : Area) :
    emergency (tripped a x w p) b = (emergency p b || decide (b = a)) := by
  rw [emergency, view_tripped, view_modView]
  by_cases h : b = a <;> simp [h, emergency]

theorem sameRoles_tripped (a : Area) (x : StationNo) (w : Reason) (p : Part) : SameRoles p (tripped a x w p) := fun b => by
  rw [view_tripped, view_modView]
  split
  · next h => rw [h]
  · rfl

theorem tripped_events (a : Area) (x : StationNo) (w : Reason) (h : p.cnp.events.length < 64) :
    p.cnp.events ++ [{ kind := .areaTripped, time := p.stc.seconds, area := some a, station := some x, reason := some w }]
      <+: (tripped a x w p).cnp.events :=
  storing_events_prefix rfl h p.stc.seconds { kind := .areaTripped, area := some a, station := some x, reason := some w }

/-- The area's flush and its records, after which the relief goes and the notice is given. -/
def swept (a : Area) (x : StationNo) (w : Reason) (p : Part) : Part := tripRecords a (flushArea a (tripped a x w p))

/-- A held area's trip ends an armed relief (R140). -/
def relieved (a : Area) (p : Part) : Part := if holds p a then cancelRelief .trip (some a) p else p

theorem settles_relieved (a : Area) (p : Part) : Settles p (relieved a p) := settles_ite _ (settles_cancelRelief ..) (.refl p)

theorem sameRoles_relieved (a : Area) (p : Part) : SameRoles p (relieved a p) := by
  unfold relieved
  split
  · exact sameRoles_cancelRelief _ _ p
  · exact .refl p

theorem settles_ifHeld (a : Area) (p : Part) : Settles p (if holds p a then callBeacon p else p) :=
  settles_ite _ (queues_callBeacon p).settles (.refl p)

theorem enterEmergency_eq (x : StationNo) (w : Reason) (h : emergency p a = false) : enterEmergency a x w p =
    if holds (noticeEmergency a (relieved a (swept a x w p))) a
    then callBeacon (noticeEmergency a (relieved a (swept a x w p)))
    else noticeEmergency a (relieved a (swept a x w p)) := by
  rw [enterEmergency, if_neg (by simp [h])]
  rfl

theorem settles_enterEmergency (x : StationNo) (w : Reason) (h : emergency p a = false) :
    Settles (swept a x w p) (enterEmergency a x w p) := by
  rw [enterEmergency_eq x w h]
  exact ((settles_relieved a _).trans (settles_noticeEmergency a _)).trans (settles_ifHeld a _)

theorem sameRoles_swept (a : Area) (x : StationNo) (w : Reason) (p : Part) : SameRoles p (swept a x w p) := by
  have hflush : SameRoles (tripped a x w p) (flushArea a (tripped a x w p)) := sameRoles_of_aru (by simp)
  exact ((sameRoles_tripped a x w p).trans hflush).trans (sameRoles_tripRecords a _)

/-- T is set when the area is annunciated (R46). -/
theorem enterEmergency_trip (x : StationNo) (w : Reason) (h : emergency p a = false) (hann : annunciated p a = true) :
    (enterEmergency a x w p).anu.trip = true := by
  have hroles := (sameRoles_swept a x w p).trans (sameRoles_relieved a _)
  have hnotice : (noticeEmergency a (relieved a (swept a x w p))).anu.trip = true := by
    rw [noticeEmergency, hroles.annunciated, hann]
    rfl
  rw [enterEmergency_eq x w h]
  exact (settles_ifHeld a _).trip hnotice

/-- A trip that finds its area NORMAL, from the flush on. -/
theorem settles_tripArea (x : StationNo) (h : emergency p a = false) :
    Settles (enterEmergency a x .telegram p) (tripArea a x p) := by
  rw [tripArea, if_neg (by simp [h])]
  exact settles_afterReceptionFreed _

theorem settles_swept (x : StationNo) (h : emergency p a = false) : Settles (swept a x .telegram p) (tripArea a x p) :=
  (settles_enterEmergency x .telegram h).trans (settles_tripArea x h)

theorem settles_flushed (x : StationNo) (h : emergency p a = false) :
    Settles (flushArea a (tripped a x .telegram p)) (tripArea a x p) :=
  (settles_tripRecords a _).trans (settles_swept x h)

theorem tableFine_tripped (x : StationNo) (w : Reason) (h : TableFine p) : TableFine (tripped a x w p) :=
  (tableFine_congr rfl).2 h

theorem emergency_tripArea (x : StationNo) (h : emergency p a = false) (b : Area) :
    emergency (tripArea a x p) b = (emergency p b || decide (b = a)) := by
  rw [(settles_flushed x h).emergency, ← emergency_tripped a x .telegram p b]
  exact emergency_congr (by simp) b

theorem tripArea_events (x : StationNo) (h : emergency p a = false) (hroom : p.cnp.events.length < 64) :
    p.cnp.events ++ [{ kind := .areaTripped, time := p.stc.seconds, area := some a, station := some x,
                       reason := some .telegram }] <+: (tripArea a x p).cnp.events := by
  have hlog := (settles_flushed x h).log
  refine (tripped_events a x .telegram hroom).trans ?_
  rwa [LogGrows, (flushArea_frame _ a).2.2.2.2.2.2] at hlog

theorem tripArea_entries (x : StationNo) (h : emergency p a = false) (hfine : TableFine p) {e : Entry}
    (he : e ∈ (tripArea a x p).atu.table) (ha : e.area = a) :
    e.quiet = false ∧ (p.stc.settings.keepShelves = false → e.shelf = none) :=
  flushArea_entries (tableFine_tripped x .telegram hfine)
    ((settles_flushed x h).only e he) ha

theorem cuts_tripArea (x : StationNo) (h : emergency p a = false) (hfine : TableFine p) : Cuts p (tripArea a x p) := by
  have htripped : Cuts p (tripped a x .telegram p) := ⟨id, fun hlt => absurd hlt (Nat.lt_irrefl _)⟩
  exact (htripped.trans (cuts_flushArea (tableFine_tripped x .telegram hfine) a)).trans (settles_flushed x h).cuts

theorem tripArea_rings (x : StationNo) (h : emergency p a = false) (hfine : TableFine p) (hheld : holds p a = true)
    (hk : p.stc.settings.keepShelves = false) {e : Entry} (he : e ∈ p.atu.table) (ha : e.area = a) (hs : e.shelf ≠ none)
    (hact : e.active = true) (hack : e.acknowledged = false) : demandOf (tripArea a x p) (levelOf e.priority) = true := by
  have hheld' : holds (tripped a x .telegram p) a = true := ((sameRoles_tripped a x .telegram p).holds a).trans hheld
  obtain ⟨hsounds, hdemand⟩ := flushArea_rings (tableFine_tripped x .telegram hfine) hheld' hk he ha hs hact hack
  exact (settles_flushed x h).demand _ hsounds hdemand

/-! ## Leaving EMERGENCY (R108) -/

/-- The area is NORMAL, with AREA-RESTORED. -/
def restored (a : Area) (x : StationNo) (p : Part) : Part :=
  deriveHorn (produce { kind := .areaRestored, area := some a, station := some x }
    (modView a (fun v => { v with emergency := false }) p))

theorem view_restored (a : Area) (x : StationNo) (p : Part) (b : Area) :
    view (restored a x p) b = view (modView a (fun v => { v with emergency := false }) p) b := rfl

theorem leaveEmergency_eq (x : StationNo) (h : emergency p a = true) : leaveEmergency a x p =
    if holds p a then callBeacon (restored a x p) else restored a x p := by
  have hheld : holds (restored a x p) a = holds p a := by
    rw [holds, view_restored, view_modView, if_pos rfl]
    rfl
  rw [← hheld, leaveEmergency, if_pos h]
  rfl

/-- A beacon called for touches the queue and the beacon's marks alone (R97). -/
theorem callBeacon_eq (p : Part) : callBeacon p = { p with lif := (callBeacon p).lif, aru := (callBeacon p).aru } ∧
    (callBeacon p).aru.views = p.aru.views ∧ (callBeacon p).lif.ring = p.lif.ring ∧
    (callBeacon p).lif.readPos = p.lif.readPos := by
  unfold callBeacon
  (repeat' split)
  · simp only [pushTelegram, ownerTelegram]
    (repeat' split)
    · simp only [placeTelegram]
      split <;> exact ⟨rfl, rfl, rfl, rfl⟩
    · exact ⟨rfl, rfl, rfl, rfl⟩
    · exact ⟨rfl, rfl, rfl, rfl⟩
  · exact ⟨rfl, rfl, rfl, rfl⟩
  · exact ⟨rfl, rfl, rfl, rfl⟩
  · exact ⟨rfl, rfl, rfl, rfl⟩

theorem callBeacon_idle (hr : running p = true) (hb : p.aru.beaconMark = .idle) (ho : occupied p < 12) :
    (callBeacon p).aru.beaconMark = .queued := by
  have hmay : ownerMayQueue p .beacon = true := hr
  simp [callBeacon, hr, hb, pushTelegram, ownerTelegram, hmay, Config.slotCount, ho, markEntered]

theorem callBeacon_sending (hr : running p = true) (hb : p.aru.beaconMark = .sending) :
    (callBeacon p).aru.beaconOwed = true := by simp [callBeacon, hr, hb]

end Sys2Proof.Machine
end


section
/-! PROOFS. O46: the telegrams TRIP and RESTORE taken. -/

namespace Sys2Proof.Machine

variable {p q : Part} {a : Area} {t : Telegram} {s : State} {c : Credential}

theorem exec_takeTrip (h : nextTelegram s.part t) (hp : t.payload = .trip false a c) :
    Machine.exec .takeTrip s = .next (s.withPart (popRing (tripArea a t.source s.part))) := by
  rw [← takeTelegram_eq (f := takenTrip) h (by rw [takenTrip, hp])]
  rfl

theorem exec_takeRestore (h : nextTelegram s.part t) (hp : t.payload = .trip true a c) :
    Machine.exec .takeRestore s = .next (s.withPart (popRing (leaveEmergency a t.source s.part))) := by
  rw [← takeTelegram_eq (f := takenRestore) h (by rw [takenRestore, hp])]
  rfl

/-- The ring's head leaves a ring that the effect did not touch. -/
theorem popRing_ring (h : nextTelegram p t) (hr : q.lif.ring = p.lif.ring) :
    (popRing q).lif.ring = (p.lif.taken (encodeTelegram t).length).ring := by
  obtain ⟨l, hring⟩ := ring_of_nextTelegram h
  simp [popRing, modLif, hr, hring, Lif.taken]

theorem tripArea_same (x : StationNo) (h : emergency p a = true) : tripArea a x p = p := if_pos h

theorem leaveEmergency_same (x : StationNo) (h : emergency p a = false) : leaveEmergency a x p = p := by
  rw [leaveEmergency, if_neg (by simp [h])]

/-- What a RESTORE of an area in EMERGENCY leaves (R46, R108). -/
theorem leaveEmergency_effect (x : StationNo) (h : emergency p a = true) :
    let q := leaveEmergency a x p
    let views := setAt p.aru.views a { view p a with emergency := false }
    q = { p with
      lif := q.lif, anu := q.anu, aru := q.aru,
      cnp := p.cnp.storing p.stc.seconds { kind := .areaRestored, area := some a, station := some x } } ∧
    q.anu.trip = p.anu.trip ∧ q.aru.views = views ∧ q.lif.ring = p.lif.ring ∧
    (holds p a = false → q.lif = p.lif ∧ q.aru = { p.aru with views := views }) ∧
    (holds p a = true → running p = true →
      (p.aru.beaconMark = .idle → occupied p < 12 → q.aru.beaconMark = .queued) ∧
      (p.aru.beaconMark = .sending → q.aru.beaconOwed = true)) := by
  simp only [leaveEmergency_eq x h]
  obtain ⟨hbeacon, hviews, hring, -⟩ := callBeacon_eq (restored a x p)
  cases hheld : holds p a with
  | false =>
    simp only [Bool.false_eq_true, if_false]
    exact ⟨rfl, rfl, rfl, rfl, fun _ => ⟨rfl, rfl⟩, nofun⟩
  | true =>
    simp only [if_true]
    refine ⟨hbeacon.trans ?_, congrArg (fun r => r.anu.trip) hbeacon, hviews, hring, nofun, fun _ hrun => ⟨fun hb ho => ?_,
      fun hb => ?_⟩⟩
    · rw [congrArg Part.anu hbeacon]
      rfl
    · exact callBeacon_idle (p := restored a x p) hrun hb ho
    · exact callBeacon_sending (p := restored a x p) hrun hb

end Sys2Proof.Machine

open Sys2Proof.Machine in
/-- Settles O46: a TRIP through what the flush leaves and what follows keeps (`settles_flushed`), a RESTORE by
`leaveEmergency_effect`. -/
theorem tripAndRestoreTelegramsApply : Obligations.TripAndRestoreTelegramsApply := by
  refine ⟨fun s t a c h hp => ⟨fun hem => ?_, fun hem hfine => ?_⟩, fun s t a c h hp => ⟨fun hem => ?_, fun hem => ?_⟩⟩
  · rw [exec_takeTrip h hp, tripArea_same _ hem, popRing_of_nextTelegram h rfl]
  · have hflush := settles_flushed (a := a) t.source hem
    obtain ⟨hoffers, hreceptions⟩ := tripRecords_none a (flushArea a (tripped a t.source .telegram s.part))
    have hafter := settles_swept (a := a) t.source hem
    refine ⟨_, exec_takeTrip h hp, rfl, hflush.stc.trans (by simp [tripped]), emergency_tripArea t.source hem,
      hafter.offerFor hoffers, hafter.receptionFor hreceptions, fun e he ha => tripArea_entries t.source hem hfine he ha,
      (cuts_tripArea t.source hem hfine).clears,
      fun hann => (settles_tripArea t.source hem).trip (enterEmergency_trip t.source .telegram hem hann),
      fun hheld hk e he ha hs hact hack => ?_, tripArea_events t.source hem⟩
    have hring := tripArea_rings t.source hem hfine hheld hk he ha hs hact hack
    exact ⟨fun hl => by rw [hl] at hring; exact hring, fun hl => by rw [hl] at hring; exact hring⟩
  · rw [exec_takeRestore h hp, leaveEmergency_same _ hem, popRing_of_nextTelegram h rfl]
  · obtain ⟨heq, htrip, hviews, hring, hunheld, hheld⟩ := leaveEmergency_effect t.source hem
    refine ⟨_, exec_takeRestore h hp, ?_, htrip, hviews, popRing_ring h hring, fun hno => ?_, hheld⟩
    · exact congrArg (fun r => s.withPart { r with lif := (popRing (leaveEmergency a t.source s.part)).lif }) heq
    · obtain ⟨hlif, haru⟩ := hunheld hno
      exact ⟨congrArg Part.lif (popRing_of_nextTelegram h hlif), haru⟩
end


section
/-! PROOFS. The completions of a station's own telegrams (R29, R58, R60, R107, R108, R152, O33). -/

namespace Sys2Proof.Machine

variable {p q : Part} {k : Fin 12} {x : Slot} {s : State}

/-! ## The mark at the read position (R152) -/

theorem ring_of_nextMark (h : nextMark p k x) : ∃ l, p.lif.ring = .mark k :: l := by
  obtain ⟨-, hhead, -⟩ := h
  cases hr : p.lif.ring with
  | nil => simp [hr] at hhead
  | cons i l =>
    rw [hr, List.head?_cons] at hhead
    exact ⟨l, by rw [Option.some.inj hhead]⟩

theorem takeMark_eq {f : Slot → Part → Option Part} (h : nextMark p k x) (hf : f x p = some q) :
    takeMark f p = popRing (freeSlot k q) := by
  obtain ⟨l, hring⟩ := ring_of_nextMark h
  obtain ⟨hl, -, hslot, hstate⟩ := h
  simp [takeMark, hring, hslot, hl, hstate, hf]

/-- With nothing waiting for a slot, the freed slot stays free (R154). -/
theorem freeSlot_of_noneWaiting (hn : noneWaiting p) (hlif : q.lif = p.lif) (hssu : q.ssu = p.ssu) :
    freeSlot k q = setSlot k none q := by
  obtain ⟨hwait, hsession⟩ := hn
  have hserve : serveWaiting (setSlot k none q) = setSlot k none q := by
    have hnone : (setSlot k none q).lif.waiting = [] := by rw [← hwait, ← hlif]; rfl
    rw [serveWaiting, hnone]
    rfl
  rw [freeSlot, hserve, placeOwedLogin, show (setSlot k none q).ssu = p.ssu from hssu]
  cases hs : p.ssu.session with
  | none => rfl
  | some y => simp [hsession y hs]

theorem popRing_freeSlot (h : nextMark p k x) (hn : noneWaiting p) (hlif : q.lif = p.lif) (hssu : q.ssu = p.ssu) :
    popRing (freeSlot k q) = { q with lif := p.lif.freed k } := by
  obtain ⟨l, hring⟩ := ring_of_nextMark h
  rw [freeSlot_of_noneWaiting hn hlif hssu]
  simp [popRing, modLif, setSlot, hlif, hring, Lif.freed, Lif.taken, itemSize, Config.markBytes, Config.ringBytes]

/-- A completion that leaves the link and the session alone: its effect, with the slot free and the mark gone. -/
theorem takeMark_freed {f : Slot → Part → Option Part} (h : nextMark p k x) (hn : noneWaiting p) (hf : f x p = some q)
    (hlif : q.lif = p.lif) (hssu : q.ssu = p.ssu) : takeMark f p = { q with lif := p.lif.freed k } := by
  rw [takeMark_eq h hf, popRing_freeSlot h hn hlif hssu]

/-- What the freeing of the slot and the mark's leaving keep of the completion's effect. -/
theorem queues_popRing_freeSlot (k : Fin 12) (q : Part) : Queues q (popRing (freeSlot k q)) :=
  (queues_freeSlot k q).trans (queues_modLif _ _)

/-! ## The inputs' records through a CONDITION's effect -/

theorem inputs_raiseDemand (l : Level) (p : Part) : (raiseDemand l p).anu.inputs = p.anu.inputs := by cases l <;> rfl

theorem inputs_noticeOccurrence (e : Entry) (p : Part) : (noticeOccurrence e p).anu.inputs = p.anu.inputs := by
  unfold noticeOccurrence
  split
  · exact inputs_raiseDemand (levelOf e.priority) p
  · rfl

theorem inputs_newOccurrence (e : Entry) (p : Part) : (newOccurrence e p).anu.inputs = p.anu.inputs := by
  rw [newOccurrence_eq, inputs_noticeOccurrence]
  simp

theorem inputs_removeShelf (e : Entry) (p : Part) : (removeShelf e p).anu.inputs = p.anu.inputs := by
  have hanu : (applyRemoval e.tag (putEntry (unshelved p e) p)).anu = p.anu := by simp
  rw [removeShelf_eq]
  split
  · rw [← hanu, noticeShelfRelease]
    split
    · exact inputs_raiseDemand (levelOf e.priority) _
    · rfl
  · rw [← hanu]
    rfl

theorem inputs_storeOccurrence (e : Entry) (p : Part) : (storeOccurrence e p).anu.inputs = p.anu.inputs := by
  unfold storeOccurrence
  rcases storeNew_cases e p with ⟨-, hs⟩ | ⟨-, y, -, -, hs⟩ | ⟨-, -, hs⟩
  · rw [hs]; exact inputs_newOccurrence ..
  · rw [hs]; exact inputs_newOccurrence ..
  · rw [hs]; rfl

theorem inputs_repeatActive (e : Entry) (y : Priority) (p : Part) : (repeatActive e y p).anu.inputs = p.anu.inputs := by
  rw [repeatActive_eq]
  (repeat' split)
  · exact inputs_removeShelf ..
  · rfl
  · rfl

theorem inputs_deriveHorn (p : Part) : (deriveHorn p).anu.inputs = p.anu.inputs := rfl

theorem inputs_clearEqual (e : Entry) (p : Part) : (clearEqual e p).anu.inputs = p.anu.inputs := by
  unfold clearEqual
  split
  · rw [inputs_deriveHorn]; simp
  · rfl

theorem inputs_applyCondition (t : Tag) (y : Priority) (b : Bool) (n : Occurrence) (p : Part) :
    (applyCondition t y b n p).anu.inputs = p.anu.inputs := by
  unfold applyCondition
  split
  · rfl
  · split
    · split
      · exact inputs_storeOccurrence ..
      · split
        · exact inputs_newOccurrence ..
        · rfl
        · split
          · exact inputs_repeatActive ..
          · exact inputs_clearEqual ..
    · rfl

/-! ## An input's own CONDITION (R58) -/

/-- What an input has published, as its telegram had it. -/
def publishedInput (i : Fin 8) (b : Bool) (n : Occurrence) (p : Part) : Part :=
  modInput i (fun y => { y with published := b, publishedOccurrence := n }) p

theorem conditionCompleted_settled {i : Fin 8} {t : Tag} {y : Priority} {b : Bool} {n : Occurrence}
    (hc : (input p i).condition = if b then .active else .clear) :
    conditionCompleted i t y b n p = settleInput i (applyCondition t y b n (publishedInput i b n p)) := by
  have hinput : input (applyCondition t y b n (publishedInput i b n p)) i =
      { input p i with published := b, publishedOccurrence := n } := by
    rw [input, inputs_applyCondition]
    exact input_modInput_self p i _
  have hmatch : inputMatches (input (applyCondition t y b n (publishedInput i b n p)) i) = true := by
    rw [hinput, inputMatches]
    simp only [hc]
    cases b <;> rfl
  exact if_pos hmatch

theorem settleInput_effect (i : Fin 8) (p : Part) :
    (settleInput i p).atu = p.atu ∧ (settleInput i p).ldm = p.ldm ∧ (settleInput i p).ssu = p.ssu ∧
      (p.lif.waiting = [] → (settleInput i p).lif = p.lif) ∧
      input (settleInput i p) i = { input p i with publication := .settled, unpublished := 0 } := by
  refine ⟨rfl, rfl, rfl, fun hw => ?_, input_modInput_self (leaveWaiting (.input i) p) i
    (fun x => { x with publication := .settled, unpublished := 0 })⟩
  have hleave : (leaveWaiting (.input i) p).lif = p.lif := by
    simp only [leaveWaiting, modLif_lif, hw, List.filter_nil]
    rw [← hw]
  exact hleave

/-- The completion of an input's own CONDITION whose debounced condition is the telegram's: the input is SETTLED (R58). -/
theorem takeMark_condition {i : Fin 8} {t : Tag} {y : Priority} {b : Bool} {n : Occurrence} (h : nextMark p k x)
    (hn : noneWaiting p) (ho : x.owner = .input i) (hp : x.telegram.payload = .condition t y b n)
    (hc : (input p i).condition = if b then .active else .clear) :
    ∃ q, takeMark completedCondition p = { q with lif := p.lif.freed k } ∧
      input q i = { input p i with published := b, publishedOccurrence := n, publication := .settled, unpublished := 0 } ∧
      q.atu = (applyCondition t y b n (publishedInput i b n p)).atu ∧
      q.ldm = (applyCondition t y b n (publishedInput i b n p)).ldm := by
  have hf : completedCondition x p = some (conditionCompleted i t y b n p) := by rw [completedCondition, ho, hp]
  rw [conditionCompleted_settled hc] at hf
  obtain ⟨hatu, hldm, hssu, hlif, hinput⟩ := settleInput_effect i (applyCondition t y b n (publishedInput i b n p))
  obtain ⟨-, hlink, hsession, -⟩ := applyCondition_frame (publishedInput i b n p) t y b n
  have hwait : (applyCondition t y b n (publishedInput i b n p)).lif.waiting = [] := by rw [hlink]; exact hn.1
  have hpublished : input (applyCondition t y b n (publishedInput i b n p)) i =
      { input p i with published := b, publishedOccurrence := n } := by
    rw [input, inputs_applyCondition]
    exact input_modInput_self p i _
  exact ⟨_, takeMark_freed h hn hf ((hlif hwait).trans hlink) (hssu.trans hsession), by rw [hinput, hpublished], hatu, hldm⟩

/-! ## An own TRIP and RESTORE (R107, R108) -/

/-- A completed TRIP lets its input's record return to IDLE (R60). -/
def tripIdle (x : Slot) (p : Part) : Part :=
  match x.owner with
  | .input i => modInput i (fun y => { y with trip := .idle }) p
  | _ => p

theorem completedTrip_eq {a : Area} {c : Credential} (hp : x.telegram.payload = .trip false a c) :
    completedTrip x p = some (tripArea a p.stc.number (tripIdle x p)) := by
  rw [completedTrip, hp]
  rfl

theorem tripIdle_queues (x : Slot) (p : Part) : Queues p (tripIdle x p) := by
  unfold tripIdle
  split
  · exact queues_modInput ..
  · exact .refl p

theorem emergency_leaveEmergency {a : Area} (y : StationNo) (h : emergency p a = true) :
    emergency (leaveEmergency a y p) a = false := by
  obtain ⟨-, -, hviews, -⟩ := leaveEmergency_effect y h
  rw [emergency, view, hviews, setAt_get, if_pos rfl]

theorem leaveEmergency_events {a : Area} (y : StationNo) (h : emergency p a = true) (hroom : p.cnp.events.length < 64) :
    (leaveEmergency a y p).cnp.events = p.cnp.events ++
      [{ kind := .areaRestored, time := p.stc.seconds, area := some a, station := some y }] := by
  obtain ⟨heq, -⟩ := leaveEmergency_effect y h
  rw [heq]
  exact storing_events hroom p.stc.seconds { kind := .areaRestored, area := some a, station := some y }

end Sys2Proof.Machine

open Sys2Proof.Machine in
/-- Settles O33: ATU's effects leave the link alone (`takeMark_freed`); a trip and a restore keep theirs through the freeing of
the slot (`queues_popRing_freeSlot`). -/
theorem ownCompletionAppliesTelegram : Obligations.OwnCompletionAppliesTelegram := by
  intro s k x h hn
  refine ⟨fun t n c hp => ?_, fun t n c hp => ?_, fun i t y b n ho hp hc => ?_, fun a c hp hem => ?_,
    fun a c i hp hem ho => ?_, fun a c hp hem => ?_⟩
  · have hf : completedAcknowledge x s.part = some (applyAcknowledge t n c s.part) := by rw [completedAcknowledge, hp]
    rw [← takeMark_freed h hn hf (by simp) (by simp)]
    rfl
  · have hf : completedShelve x s.part =
        some (if n = 0 then applyUnshelve t s.part else applyShelve t n c s.part.stc.number s.part) := by
      rw [completedShelve, hp]
    rw [← takeMark_freed h hn hf (by split <;> simp) (by split <;> simp)]
    rfl
  · obtain ⟨q, hmark, hinput, hatu, hldm⟩ := takeMark_condition h hn ho hp hc
    refine ⟨s.withPart (takeMark completedCondition s.part), rfl, ?_⟩
    have hlast := (congrArg (fun r => input r i) hmark).trans hinput
    refine ⟨congrArg Part.lif hmark, ?_, ?_, ?_, ?_, (congrArg Part.atu hmark).trans hatu, (congrArg Part.ldm hmark).trans hldm⟩
    · exact congrArg InputRecord.published hlast
    · exact congrArg InputRecord.publishedOccurrence hlast
    · exact congrArg InputRecord.publication hlast
    · exact congrArg InputRecord.unpublished hlast
  · have hidle := tripIdle_queues x s.part
    have hem' : emergency (tripIdle x s.part) a = false := (hidle.settles.emergency a).trans hem
    have hafter := queues_popRing_freeSlot k (tripArea a s.part.stc.number (tripIdle x s.part))
    refine ⟨s.withPart (takeMark completedTrip s.part), rfl, ?_⟩
    rw [takeMark_eq h (completedTrip_eq hp)]
    refine ⟨(hafter.settles.emergency a).trans ?_, fun hroom => ?_⟩
    · rw [emergency_tripArea _ hem', decide_eq_true rfl, Bool.or_true]
    · have hevents := tripArea_events s.part.stc.number hem' (hidle.events ▸ hroom)
      rw [hidle.events, hidle.stc] at hevents
      exact hevents.trans hafter.settles.log
  · have hidle : tripIdle x s.part = modInput i (fun y => { y with trip := .idle }) s.part := by rw [tripIdle, ho]
    have hem' : emergency (tripIdle x s.part) a = true := ((tripIdle_queues x s.part).settles.emergency a).trans hem
    have hf : completedTrip x s.part = some (modInput i (fun y => { y with trip := .idle }) s.part) := by
      rw [completedTrip_eq hp, tripArea_same _ hem', hidle]
    have hmark := takeMark_freed h hn hf rfl rfl
    exact congrArg (fun q => Host.Outcome.next (s.withPart q)) hmark
  · have hf : completedRestore x s.part = some (leaveEmergency a s.part.stc.number s.part) := by rw [completedRestore, hp]
    have hafter := queues_popRing_freeSlot k (leaveEmergency a s.part.stc.number s.part)
    refine ⟨s.withPart (takeMark completedRestore s.part), rfl, ?_⟩
    rw [takeMark_eq h hf]
    refine ⟨(hafter.settles.emergency a).trans (emergency_leaveEmergency _ hem), hafter.atu.trans (by simp), fun hroom => ?_⟩
    exact hafter.events.trans (leaveEmergency_events _ hem hroom)
end


section
/-! PROOFS. The presentation order and latched summaries (R19, R115), a free slot (R153), and the SYNC-REQUEST (R106, R134, O45). -/

namespace Sys2Proof.Machine

variable {p : Part} {a : Area}

/-! ## The presentation order (R19) -/

/-- `x` does not stand after `y` in the presentation order. -/
def presentedAt (x y : Entry) : Prop :=
  priorityNumber x.priority < priorityNumber y.priority ∨
    (priorityNumber x.priority = priorityNumber y.priority ∧ (x.firstRaised.toNat < y.firstRaised.toNat ∨
      (x.firstRaised = y.firstRaised ∧ x.tag.toNat ≤ y.tag.toNat)))

theorem presentedAt_trans {x y z : Entry} (h : presentedAt x y) (k : presentedAt y z) : presentedAt x z := by
  unfold presentedAt at *
  simp only [← BitVec.toNat_inj] at *
  omega

theorem presentedAt_of_before {x y : Entry} (h : presentedBefore x y = true) : presentedAt x y := by
  unfold presentedBefore at h
  unfold presentedAt
  split at h
  · next hp =>
    split at h
    · next hf => exact .inr ⟨hp, .inr ⟨hf, Nat.le_of_lt (of_decide_eq_true h)⟩⟩
    · exact .inr ⟨hp, .inl (of_decide_eq_true h)⟩
  · exact .inl (of_decide_eq_true h)

theorem presentedAt_of_not_before {x y : Entry} (h : presentedBefore x y = false) : presentedAt y x := by
  unfold presentedBefore at h
  unfold presentedAt
  simp only [← BitVec.toNat_inj] at *
  (repeat' split at h) <;> (have := of_decide_eq_false h; omega)

theorem presentInto_perm (e : Entry) (l : List Entry) : (presentInto e l).Perm (e :: l) := by
  induction l with
  | nil => exact .refl _
  | cons x xs ih =>
    unfold presentInto
    split
    · exact .refl _
    · exact (ih.cons x).trans (.swap e x xs)

theorem presentation_perm (l : List Entry) : (presentation l).Perm l := by
  induction l with
  | nil => exact .refl _
  | cons x xs ih => exact (presentInto_perm x (presentation xs)).trans (ih.cons x)

theorem presentInto_pairwise (e : Entry) {l : List Entry} (h : l.Pairwise presentedAt) :
    (presentInto e l).Pairwise presentedAt := by
  induction l with
  | nil => exact List.pairwise_singleton ..
  | cons x xs ih =>
    obtain ⟨hx, hs⟩ := List.pairwise_cons.1 h
    unfold presentInto
    cases hb : presentedBefore e x with
    | true =>
      have hex := presentedAt_of_before hb
      refine List.pairwise_cons.2 ⟨fun y hy => ?_, h⟩
      rcases List.mem_cons.1 hy with rfl | hy
      · exact hex
      · exact presentedAt_trans hex (hx y hy)
    | false =>
      refine List.pairwise_cons.2 ⟨fun y hy => ?_, ih hs⟩
      rcases List.mem_cons.1 ((presentInto_perm e xs).mem_iff.1 hy) with rfl | hy
      · exact presentedAt_of_not_before hb
      · exact hx y hy

theorem presentation_pairwise (l : List Entry) : (presentation l).Pairwise presentedAt := by
  induction l with
  | nil => exact .nil
  | cons x xs ih => exact presentInto_pairwise x ih

theorem carries_summaryOfEntry (p : Part) (e : Entry) : carries p e (summaryOfEntry p e) := by
  refine ⟨rfl, rfl, rfl, rfl, rfl, ?_, ?_⟩
  · cases h : e.shelf <;> simp [summaryOfEntry, h]
  · change (BitVec.ofNat 16 (min 65535 (now p - e.firstRaised).toNat)).toNat = _
    rw [BitVec.toNat_ofNat]
    exact Nat.mod_eq_of_lt (by omega)

/-- The summaries a record latches are those of R115. -/
theorem latched_latchSummaries (p : Part) (a : Area) : latched p a (latchSummaries p a) := by
  refine ⟨presentation (areaEntries p a), presentation_perm _, presentation_pairwise _, ?_⟩
  rw [latchSummaries, List.forall₂_map_right_iff, List.forall₂_same]
  exact fun e _ => carries_summaryOfEntry p e

/-! ## A free slot (R153) -/

/-- Fewer than 12 occupied slots leave a free one. -/
theorem freeSlotOf_of_occupied (h : occupied p < 12) : ∃ k, freeSlotOf p = some k ∧ p.lif.slots.get k = none := by
  cases hf : freeSlotOf p with
  | none =>
    have hall : ∀ k ∈ List.finRange 12, (p.lif.slots.get k).isSome = true := fun k hk => by
      have := List.find?_eq_none.1 hf k hk
      simpa [Option.isNone_iff_eq_none, Option.isSome_iff_ne_none] using this
    have hfull : occupied p = 12 := by
      rw [occupied, List.countP_eq_length.2 hall, List.length_finRange]
    omega
  | some k =>
    have hfree := List.find?_some (p := fun k => (p.lif.slots.get k).isNone) hf
    exact ⟨k, rfl, Option.isNone_iff_eq_none.1 hfree⟩

/-- A telegram placed in a free slot, behind those of its class. -/
def placedIn (k : Fin 12) (o : Owner) (t : Telegram) (l : Lif) : Lif :=
  { l with
    slots := setAt l.slots k (some { telegram := t, owner := o, order := l.nextOrder, state := .waiting, final := false }),
    nextOrder := l.nextOrder + 1 }

theorem placeTelegram_eq {k : Fin 12} (h : freeSlotOf p = some k) (o : Owner) (t : Telegram) :
    placeTelegram o t p = { p with lif := placedIn k o t p.lif } := by
  rw [placeTelegram, h]
  rfl

theorem freeSlotOf_congr {q : Part} (h : q.lif.slots = p.lif.slots) : freeSlotOf q = freeSlotOf p := by
  unfold freeSlotOf; rw [h]

/-- An owner that may queue and finds a slot free: its telegram enters, and its mark says so (R153, R154). -/
theorem pushTelegram_entered {o : Owner} {t : Telegram} (ht : ownerTelegram p o = some t) (hq : ownerMayQueue p o = true)
    (ho : occupied p < 12) : ∃ k, p.lif.slots.get k = none ∧
      pushTelegram o p = markEntered o { p with lif := placedIn k o t (leaveWaiting o p).lif } := by
  obtain ⟨k, hk, hfree⟩ := freeSlotOf_of_occupied ho
  have hk' : freeSlotOf (leaveWaiting o p) = some k := (freeSlotOf_congr (p := p) rfl).trans hk
  refine ⟨k, hfree, ?_⟩
  rw [pushTelegram, ht]
  simp only [hq, if_true, Config.slotCount, ho]
  rw [placeTelegram_eq hk']
  rfl

/-! ## The sync digest's first segment (R106, R134) -/

variable {s : State} {t : Telegram}

theorem exec_takeSyncRequest (h : nextTelegram s.part t) (hp : t.payload = .syncRequest a) :
    Machine.exec .takeSyncRequest s =
      .next (s.withPart (popRing (if addressed t then applySyncRequest a s.part else s.part))) := by
  rw [← takeTelegram_eq (f := takenSyncRequest) h (by rw [takenSyncRequest, hp])]
  rfl

theorem setAt_get_self {α : Type} {n : Nat} (v : Vector α n) (i : Fin n) (x : α) : (setAt v i x).get i = x := by
  rw [setAt_get, if_pos rfl]

theorem markEntered_offer {r : Fin 4} {o : Offer} {n : Nat} (hget : p.hou.offers.get r = some o) (hn : o.serial = n) :
    markEntered (.offer r n) p = setOffer r (some { o with mark := .queued }) p := by
  rw [markEntered, modOffer, hget]
  exact if_pos hn

theorem popRing_of_ring {q : Part} (h : nextTelegram p t) (hr : q.lif.ring = p.lif.ring) :
    popRing q = { q with lif := q.lif.taken (encodeTelegram t).length } := by
  obtain ⟨l, hring⟩ := ring_of_nextTelegram h
  simp [popRing, modLif, hr, hring, Lif.taken, itemSize, Config.ringBytes]

theorem addressed_of (h : t.destination ≠ 0) : addressed t = true := decide_eq_true h

theorem not_addressed_of (h : t.destination = 0) : addressed t = false := decide_eq_false (not_not_intro h)

/-- The SYNC record of area `a`, its first segment queued. -/
def syncOffer (p : Part) (a : Area) : Offer := { latchOffer p .sync a 0 0 syncSegmentsFor with mark := .queued }

/-- The first segment of a sync digest (R134). -/
def firstSyncSegment (p : Part) (a : Area) : Telegram :=
  { source := p.stc.number, destination := 0, payload := .digest {
      area := a, number := 0, entryCount := BitVec.ofNat 16 (areaCount p a), index := 1, first := true,
      last := decide (areaCount p a ≤ 8), load := loadOf p a, summaries := (latchSummaries p a).take 8 } }

theorem ownerTelegram_sync (p : Part) (a : Area) (r : Fin 4) :
    ownerTelegram (createOffer r (latchOffer p .sync a 0 0 syncSegmentsFor) p) (.offer r p.hou.nextSerial) =
      some (firstSyncSegment p a) := by
  have hget : (createOffer r (latchOffer p .sync a 0 0 syncSegmentsFor) p).hou.offers.get r =
      some (latchOffer p .sync a 0 0 syncSegmentsFor) := by
    exact setAt_get_self ..
  have hlast : (areaCount p a + 7) / 8 ≤ 1 ↔ areaCount p a ≤ 8 := by omega
  rw [ownerTelegram, hget]
  simp [latchOffer, offerTelegram, segmentContent, syncSegmentsFor, segmentsFor, hlast, ownTelegram,
    firstSyncSegment, createOffer]

theorem startSync_effect {r : Fin 4} (hheld : holds p a = true) (hoffer : offerFor p a = none)
    (hfree : freeOfferRecord p = some r) (hroom : areaCount p a + storeReserved p ≤ 512) (hrun : running p = true)
    (ho : occupied p < 12) : ∃ k anu, p.lif.slots.get k = none ∧ startSync a p = { p with
      lif := placedIn k (.offer r p.hou.nextSerial) (firstSyncSegment p a) (leaveWaiting (.offer r p.hou.nextSerial) p).lif,
      anu := anu,
      hou := { p.hou with
        offers := setAt p.hou.offers r (some (syncOffer p a)), nextSerial := p.hou.nextSerial + 1 } } := by
  have hroom' : storeHasRoom p (areaCount p a) = true := by simp [storeHasRoom, Config.storeCapacity, hroom]
  obtain ⟨k, hk, hpush⟩ := pushTelegram_entered (ownerTelegram_sync p a r)
    (show ownerMayQueue (createOffer r (latchOffer p .sync a 0 0 syncSegmentsFor) p) (.offer r p.hou.nextSerial) = true from hrun)
    (show occupied (createOffer r (latchOffer p .sync a 0 0 syncSegmentsFor) p) < 12 from ho)
  refine ⟨k, (createOffer r (latchOffer p .sync a 0 0 syncSegmentsFor) p).anu, hk, ?_⟩
  have hstart : startSync a p = pushTelegram (.offer r p.hou.nextSerial)
      (createOffer r (latchOffer p .sync a 0 0 syncSegmentsFor) p) := by
    simp [startSync, hfree, hheld, hoffer, hroom', latchOffer]
  rw [hstart, hpush, markEntered_offer (o := latchOffer p .sync a 0 0 syncSegmentsFor)
    (n := p.hou.nextSerial) (setAt_get_self ..) rfl]
  exact congrArg (fun v => { p with
    lif := placedIn k (.offer r p.hou.nextSerial) (firstSyncSegment p a) (leaveWaiting (.offer r p.hou.nextSerial) p).lif,
    anu := (createOffer r (latchOffer p .sync a 0 0 syncSegmentsFor) p).anu,
    hou := { p.hou with offers := v, nextSerial := p.hou.nextSerial + 1 } }) (setAt_setAt ..)

end Sys2Proof.Machine

open Sys2Proof.Machine in
/-- Settles O45: a request that may not start one leaves only the ring shorter; else `startSync_effect`. -/
theorem syncRequestStartsSync : Obligations.SyncRequestStartsSync := by
  intro s t a h hp
  refine ⟨fun hdrop => ?_, fun r hdest hheld hem hoffer hfree hroom hrun ho => ?_⟩
  · have hsame : (if addressed t then applySyncRequest a s.part else s.part) = s.part := by
      rcases hdrop with hd | hh | he
      · simp [addressed, hd]
      · simp [applySyncRequest, hh]
      · simp [applySyncRequest, he]
    rw [exec_takeSyncRequest h hp, hsame, popRing_of_nextTelegram h rfl]
  · obtain ⟨k, anu, hk, hstart⟩ := startSync_effect hheld hoffer hfree hroom hrun ho
    have hpost : (if addressed t then applySyncRequest a s.part else s.part) = startSync a s.part := by
      rw [if_pos (addressed_of hdest), applySyncRequest, hheld, hem]
      rfl
    have hpop := popRing_of_ring (q := startSync a s.part) h (by rw [hstart]; rfl)
    refine ⟨_, syncOffer s.part a, exec_takeSyncRequest h hp, ?_⟩
    rw [hpost, hpop, hstart]
    refine ⟨rfl, ?_, latched_latchSummaries s.part a, rfl, rfl, k, _, hk, rfl⟩
    rw [syncOffer, latchOffer, latchSummaries_length]
    rfl
end


section
/-! PROOFS. The OFFER request (R116, R118, R119, O17): ten checks in order, then a record and its telegram. -/

namespace Sys2Proof.Machine

variable {p : Part} {a : Area} {b : Byte}

/-! ## A request of the right form (R161, R162) -/

theorem areaOfByte_areaByte (a : Area) : areaOfByte (areaByte a) = some a := by
  have h : (areaByte a).toNat = a.val := by
    rw [areaByte, BitVec.toNat_ofNat]
    exact Nat.mod_eq_of_lt (by omega)
  simp [areaOfByte, h]

/-- The port with a request taken up. -/
def requested (code : Byte) (p : Part) : Part := modCnp (fun c => { c with outstanding := some code }) p

theorem unconfigured_of_listening (h : listening p = true) : unconfigured p = false := by
  unfold listening starting running isolated at h
  unfold unconfigured
  cases hst : p.stc.station with
  | none => rfl
  | some st =>
    rw [hst] at h
    cases st
    · exact absurd h (by decide)
    all_goals rfl

/-- At an open port of a configured station a well-formed request is served. -/
theorem request_served {α : Type} {code : Byte} {always : Bool} {form : List Byte → Option α} {serve : α → Part → Part}
    {f : Frame} {x : α} (hl : listening p = true) (ho : portOpen p = true) (hs : frameShort f = false)
    (hx : requestForm form f = some x) : request code always form serve f p = serve x (requested code p) := by
  obtain ⟨⟨hstation, hresponse⟩, hout⟩ : (p.stc.station.isSome = true ∧ p.cnp.response.isNone = true) ∧
      p.cnp.outstanding.isNone = true := by
    simpa only [portOpen, Bool.and_eq_true] using ho
  have hconf : unconfigured (requested code p) = false := unconfigured_of_listening hl
  have h1 : ¬p.stc.station.isNone = true := by rw [Option.isSome_iff_ne_none] at hstation; simp [hstation]
  have h2 : ¬(p.cnp.response.isSome = true ∨ p.cnp.outstanding.isSome = true) := by
    simp only [Option.isNone_iff_eq_none] at hresponse hout
    simp [hresponse, hout]
  rw [request, if_neg h1, if_neg h2, hs, if_neg Bool.false_ne_true, hx]
  exact if_neg (by rw [show unconfigured (modCnp _ p) = false from hconf]; exact Bool.false_ne_true)

/-! ## The checks (R118) -/

/-- The first check that fails gives the result. -/
theorem firstFailing_cons {ok : Bool} {code : ResultCode} {l : List (Bool × ResultCode)} {q : Prop} [Decidable q]
    (h : ok = false ↔ q) (d : ResultCode) :
    (firstFailing ((ok, code) :: l)).getD d = if q then code else (firstFailing l).getD d := by
  cases ok <;> simp_all [firstFailing]

/-- The result of an OFFER request by R118's checks in order. -/
def offerCode (p : Part) (a : Area) (b : Byte) : ResultCode :=
  if running p = false then .notRunning
  else if sessionActive p = false then .noSession
  else if holds p a = false then .notActing
  else if ¬(1 ≤ b.toNat ∧ b.toNat ≤ 62 ∧ b.toNat ≠ p.stc.number.toNat ∧
      (heardRecord p (b.setWidth 6)).isSome = true) then .badTarget
  else if (offerFor p a).isSome = true ∨ (∀ r, p.hou.offers.get r ≠ none) then .busy
  else if emergency p a = true then .emergency
  else if urgentAlerting p a = true then .unackedUrgent
  else if handoverCeilingPasses p a = false then .load
  else if areaCount p a ≠ 0 ∧ 512 < areaCount p a + storeReserved p then .noRoom
  else if 8 ≤ occupied p then .busy
  else .queued

theorem freeOfferRecord_eq_none : freeOfferRecord p = none ↔ ∀ r, p.hou.offers.get r ≠ none := by
  simp [freeOfferRecord, List.find?_eq_none]

theorem freeOfferRecord_get {r : Fin 4} (h : freeOfferRecord p = some r) : p.hou.offers.get r = none :=
  Option.isNone_iff_eq_none.1 (List.find?_some (p := fun r => (p.hou.offers.get r).isNone) h)

theorem offerRefusal_getD (p : Part) (a : Area) (b : Byte) : (offerRefusal p a b).getD .queued = offerCode p a b := by
  have htarget : (decide (1 ≤ b.toNat) && decide (b.toNat ≤ 62) && decide (b.toNat ≠ p.stc.number.toNat)
      && (heardRecord p (b.setWidth 6)).isSome) = false ↔ ¬(1 ≤ b.toNat ∧ b.toNat ≤ 62 ∧ b.toNat ≠ p.stc.number.toNat ∧
        (heardRecord p (b.setWidth 6)).isSome = true) := by
    rw [Bool.eq_false_iff]
    simp [and_assoc]
  have hbusy : ((offerFor p a).isNone && (freeOfferRecord p).isSome) = false ↔
      (offerFor p a).isSome = true ∨ ∀ r, p.hou.offers.get r ≠ none := by
    rw [← freeOfferRecord_eq_none]
    cases offerFor p a <;> cases freeOfferRecord p <;> simp
  have hroom : storeHasRoom p (areaCount p a) = false ↔ areaCount p a ≠ 0 ∧ 512 < areaCount p a + storeReserved p := by
    rw [storeHasRoom, Bool.or_eq_false_iff, decide_eq_false_iff_not, decide_eq_false_iff_not, Nat.not_le]
    rfl
  unfold offerRefusal offerCode
  rw [firstFailing_cons Iff.rfl]
  split
  · rfl
  · next hrun =>
    have hadmits : admitsRequest p = false ↔ 8 ≤ occupied p := by
      have hopen : sendingOpen p = true := by simp [sendingOpen, hrun]
      rw [admitsRequest, hopen, Bool.true_and, decide_eq_false_iff_not, Nat.not_lt]
      rfl
    rw [firstFailing_cons Iff.rfl, firstFailing_cons Iff.rfl, firstFailing_cons htarget, firstFailing_cons hbusy,
      firstFailing_cons (Bool.not_eq_false' _).to_iff, firstFailing_cons (Bool.not_eq_false' _).to_iff, firstFailing_cons Iff.rfl,
      firstFailing_cons hroom, firstFailing_cons hadmits]
    rfl

theorem offerRefusal_code_ne_queued (p : Part) (a : Area) (b : Byte) : offerRefusal p a b ≠ some .queued := by
  unfold offerRefusal
  simp only [firstFailing]
  (repeat' split) <;> simp

/-! ## The record of an admitted request (R116, R119) -/

/-- The offer record of an admitted request, its telegram queued. -/
def offeredRecord (p : Part) (a : Area) (b : Byte) : Offer :=
  { latchOffer p .handover a (b.setWidth 6) (nextNumber p.hou.counter) segmentsFor with mark := .queued }

theorem startOffer_effect {r : Fin 4} (hfree : freeOfferRecord p = some r) (ho : occupied p < 12) :
    ∃ k anu, p.lif.slots.get k = none ∧ startOffer a b p = { p with
      lif := placedIn k (.offer r p.hou.nextSerial)
        { source := p.stc.number, destination := b.setWidth 6, payload := .offer (offerContent (offeredRecord p a b)) } p.lif,
      anu := anu,
      hou := { p.hou with
        offers := setAt p.hou.offers r (some (offeredRecord p a b)), nextSerial := p.hou.nextSerial + 1,
        counter := nextNumber p.hou.counter } } := by
  obtain ⟨k, hk, hslot⟩ := freeSlotOf_of_occupied ho
  refine ⟨k, (createOffer r (offeredRecord p a b) (modHou (fun x => { x with counter := nextNumber p.hou.counter }) p)).anu,
    hslot, ?_⟩
  have hslots : freeSlotOf (createOffer r (offeredRecord p a b)
      (modHou (fun x => { x with counter := nextNumber p.hou.counter }) p)) = some k := (freeSlotOf_congr (p := p) rfl).trans hk
  rw [startOffer, hfree]
  exact placeTelegram_eq hslots ..

theorem exec_offer {s : State} (hl : listening s.part = true) (ho : portOpen s.part = true) :
    Machine.exec (.offer (Frame.of [areaByte a, b])) s = .next (s.withPart (serveOffer a b (requested 12 s.part))) := by
  have hform : requestForm formOffer (Frame.of [areaByte a, b]) = some (a, b) := by
    have hlong : frameLong (Frame.of [areaByte a, b]) = false := rfl
    rw [requestForm, hlong]
    exact congrArg (Option.map fun x => (x, b)) (areaOfByte_areaByte a)
  rw [show Machine.exec (.offer (Frame.of [areaByte a, b])) s = .next (s.withPart
    (request 12 false formOffer (fun x => serveOffer x.1 x.2) (Frame.of [areaByte a, b]) s.part)) from rfl]
  rw [request_served hl ho rfl hform]

/-- An admitted request leaves a free record and, by the tenth check, a free slot. -/
theorem admitted_of_offerCode (h : offerCode p a b = .queued) : (∃ r, freeOfferRecord p = some r) ∧ occupied p < 12 := by
  unfold offerCode at h
  (repeat' split at h) <;> try contradiction
  next hrecord _ _ _ _ hslots =>
    refine ⟨?_, by omega⟩
    rw [← Option.isSome_iff_exists, Option.isSome_iff_ne_none, Ne, freeOfferRecord_eq_none]
    exact fun hall => hrecord (.inr hall)

end Sys2Proof.Machine

open Sys2Proof.Machine in
/-- Settles O17: the checks by `offerRefusal_getD`, an admitted request by `startOffer_effect`. -/
theorem offerRequestIsJudgedInOrder : Obligations.OfferRequestIsJudgedInOrder := by
  intro s a b hl ho
  have hcode := offerRefusal_getD s.part a b
  have hsame : offerRefusal (requested 12 s.part) a b = offerRefusal s.part a b := rfl
  refine ⟨_, offerCode s.part a b, exec_offer hl ho, rfl, ?_⟩
  rw [serveOffer, hsame]
  cases hr : offerRefusal s.part a b with
  | some code =>
    rw [hr, Option.getD_some] at hcode
    have hne : code ≠ .queued := fun c => offerRefusal_code_ne_queued s.part a b (c ▸ hr)
    rw [← hcode]
    exact ⟨rfl, fun _ => ⟨rfl, rfl, rfl⟩, fun c => absurd c hne⟩
  | none =>
    rw [hr, Option.getD_none] at hcode
    rw [← hcode]
    obtain ⟨⟨r, hfree⟩, hslots⟩ := admitted_of_offerCode hcode.symm
    obtain ⟨k, anu, hk, hstart⟩ := startOffer_effect (p := requested 12 s.part) (a := a) (b := b) hfree hslots
    simp only [hstart]
    refine ⟨rfl, fun c => absurd rfl c, fun _ => ⟨r, offeredRecord s.part a b, freeOfferRecord_get hfree, rfl, ?_,
      latched_latchSummaries s.part a, k, hk, rfl⟩⟩
    rw [offeredRecord, latchOffer, latchSummaries_length]
    rfl
end


section
/-! PROOFS. The merge of a handover digest, summary by summary (R42, R124). -/

namespace Sys2Proof.Machine

variable {p q : Part} {a : Area} {x : StationNo} {d : Summary}

/-! ## Demands that are only cleared -/

/-- No demand is set, and T stays. -/
structure Quiets (p q : Part) : Prop where
  urgent : q.anu.urgent = true → p.anu.urgent = true
  routine : q.anu.routine = true → p.anu.routine = true
  trip : q.anu.trip = p.anu.trip

theorem Quiets.refl (p : Part) : Quiets p p := ⟨id, id, rfl⟩

theorem Quiets.trans {r : Part} (h : Quiets p q) (k : Quiets q r) : Quiets p r :=
  ⟨h.urgent ∘ k.urgent, h.routine ∘ k.routine, k.trip.trans h.trip⟩

theorem quiets_of_anu (h : q.anu = p.anu) : Quiets p q := ⟨by rw [h]; exact id, by rw [h]; exact id, by rw [h]⟩

theorem quiets_deriveHorn (p : Part) : Quiets p (deriveHorn p) := by
  refine ⟨fun h => ?_, fun h => ?_, rfl⟩
  · rw [deriveHorn_urgent, Bool.and_eq_true] at h; exact h.1
  · rw [deriveHorn_routine, Bool.and_eq_true] at h; exact h.1

theorem quiets_storeNew (e : Entry) (p : Part) : Quiets p (storeNew e p).2 := by
  rcases storeNew_cases e p with ⟨-, hs⟩ | ⟨-, y, -, -, hs⟩ | ⟨-, -, hs⟩
  · rw [hs]; exact quiets_of_anu rfl
  · have hremoved : Quiets p (removeEntry y.tag p) := quiets_of_anu rfl
    rw [hs]
    exact (hremoved.trans (quiets_deriveHorn _)).trans (quiets_of_anu rfl)
  · rw [hs]; exact quiets_of_anu rfl

theorem quiets_removal (e : Entry) (t : Tag) (p : Part) : Quiets p (applyRemoval t (putEntry e p)) := quiets_of_anu (by simp)

theorem quiets_mergeSummary (a : Area) (x : StationNo) (p : Part) (d : Summary) : Quiets p (mergeSummary a x p d) := by
  unfold mergeSummary
  split
  · split
    · unfold storeSummary
      simp only
      split
      · have hstored := quiets_storeNew (summaryEntry p a x d) p
        exact (hstored.trans (quiets_of_anu (applyRemoval_frame _ d.tag).2.2.2.1)).trans (quiets_deriveHorn _)
      · exact quiets_storeNew _ p
    · split
      · exact .refl p
      · split
        · exact .refl p
        · exact (quiets_removal ..).trans (quiets_deriveHorn _)
      · exact (quiets_removal ..).trans (quiets_deriveHorn _)
  · exact .refl p

/-! ## The entry that a summary leaves -/

theorem summaryShelf_eq (p : Part) (a : Area) (y : Priority) (x : StationNo) (d : Summary) :
    summaryShelf p a y x d = shelfTaken p x a y d := rfl

theorem summaryEntry_eq (p : Part) (a : Area) (x : StationNo) (d : Summary) : summaryEntry p a x d = createdBy p x a d := by
  have hraised : summaryRaised p d = (createdBy p x a d).firstRaised := by
    unfold summaryRaised createdBy now
    split
    · rfl
    · next h =>
      apply BitVec.eq_of_toNat_eq
      have := p.stc.seconds.isLt
      have := d.age.isLt
      simp only [BitVec.toNat_sub, BitVec.toNat_ofNat]
      omega
  rw [summaryEntry, hraised]
  rfl

theorem shelfTaken_congr (hs : q.stc = p.stc) (ha : q.aru = p.aru) (x : StationNo) (a : Area) (y : Priority) (d : Summary) :
    shelfTaken q x a y d = shelfTaken p x a y d := by
  rw [shelfTaken, hs, emergency_congr ha]; rfl

theorem createdBy_congr (hs : q.stc = p.stc) (ha : q.aru = p.aru) (x : StationNo) (a : Area) (d : Summary) :
    createdBy q x a d = createdBy p x a d := by
  rw [createdBy, hs, shelfTaken_congr hs ha]; rfl

theorem mergeLeaves_congr (hs : q.stc = p.stc) (ha : q.aru = p.aru) (x : StationNo) (a : Area) (d : Summary)
    (o : Option Entry) : mergeLeaves q x a d o = mergeLeaves p x a d o := by
  cases o with
  | none => rw [mergeLeaves, createdBy_congr hs ha]; rfl
  | some e => simp only [mergeLeaves, createdBy_congr hs ha, shelfTaken_congr hs ha, hs]

/-- The entry of an equal occurrence, as R124 merges it. -/
theorem mergeEqual_eq (p : Part) (x : StationNo) (d : Summary) (e : Entry) : mergeEqual p x d e =
    let shelf := if e.shelf = none then shelfTaken p x e.area e.priority d else e.shelf
    let newly := d.acknowledged = true ∧ e.acknowledged = false
    { e with
      acknowledged := e.acknowledged || d.acknowledged, quiet := if newly then false else e.quiet, shelf := shelf,
      lastChange := if newly ∨ shelf ≠ e.shelf then p.stc.seconds else e.lastChange } := by
  have hshelf : (if e.shelf.isSome then e.shelf else shelfTaken p x e.area e.priority d) =
      if e.shelf = none then shelfTaken p x e.area e.priority d else e.shelf := by cases e.shelf <;> rfl
  simp only [mergeEqual, summaryShelf_eq, hshelf, Bool.and_eq_true, Bool.not_eq_true', now]

/-! The cases of R124, by the comparison of the occurrence numbers. -/

section
variable {e : Entry}

theorem mergeLeaves_equal (hc : compareOccurrence d.occurrence e.occurrence = .equal) :
    mergeLeaves p x a d (some e) = unlessRemoved (mergeEqual p x d e) := by
  rw [compareOccurrence_equal_iff, occurrence_sub_toNat] at hc
  simp only [mergeLeaves, hc, if_true, mergeEqual_eq]

theorem mergeLeaves_newer (hc : compareOccurrence d.occurrence e.occurrence = .newer) :
    mergeLeaves p x a d (some e) = unlessRemoved (createdBy p x e.area d) := by
  rw [compareOccurrence_newer_iff, occurrence_sub_toNat] at hc
  obtain ⟨hpos, hle⟩ := hc
  simp only [mergeLeaves, Nat.ne_of_gt hpos, hle, if_false, if_true]

theorem mergeLeaves_older (hc : compareOccurrence d.occurrence e.occurrence = .older) :
    mergeLeaves p x a d (some e) = some e := by
  rw [compareOccurrence_older_iff, occurrence_sub_toNat] at hc
  obtain ⟨hpos, -⟩ := hc
  have hne : ¬(256 + d.occurrence.toNat - e.occurrence.toNat) % 256 = 0 := by omega
  have hgt : ¬(256 + d.occurrence.toNat - e.occurrence.toNat) % 256 ≤ 127 := by omega
  simp only [mergeLeaves, hne, hgt, if_false]

theorem findEntry_mergeSummary_new (hmap : tagArea p d.tag = some a) (he : findEntry p d.tag = none)
    (hroom : p.atu.table.length < 512) (t : Tag) :
    findEntry (mergeSummary a x p d) t = if t = d.tag then mergeLeaves p x a d none else findEntry p t := by
  have hstore : storeNew (summaryEntry p a x d) p = (true, putEntry (summaryEntry p a x d) p) := if_pos hroom
  simp only [mergeSummary, hmap, he, storeSummary, hstore, if_true]
  rw [summaryEntry_eq]
  exact findEntry_applyRemoval_putEntry (createdBy p x a d) p t

theorem findEntry_mergeSummary_found (hfine : TableFine p) (hmap : tagArea p d.tag = some a)
    (he : findEntry p d.tag = some e) (t : Tag) :
    findEntry (mergeSummary a x p d) t = if t = d.tag then mergeLeaves p x a d (some e) else findEntry p t := by
  have htag := findEntry_tag he
  have hsame : ∀ t, findEntry p t = if t = d.tag then some e else findEntry p t := fun t => by
    split
    · next ht => rw [ht, he]
    · rfl
  cases hc : compareOccurrence d.occurrence e.occurrence with
  | older =>
    simp only [mergeSummary, hmap, he, hc, if_true, mergeLeaves_older hc]
    exact hsame t
  | newer =>
    have hentry : { summaryEntry p e.area x d with tag := e.tag } = createdBy p x e.area d := by
      rw [summaryEntry_eq, htag]; rfl
    simp only [mergeSummary, hmap, he, hc, if_true, mergeLeaves_newer hc, hentry]
    exact findEntry_applyRemoval_putEntry (createdBy p x e.area d) p t
  | equal =>
    simp only [mergeSummary, hmap, he, hc, if_true, mergeLeaves_equal hc]
    split
    · next hunchanged =>
      have hkept : unlessRemoved e = some e :=
        if_neg fun ⟨hclear, hack, hs⟩ => (entryFine_of_find hfine he).1 hs ⟨hclear, hack⟩
      rw [hunchanged, hkept]
      exact hsame t
    · rw [← htag]
      exact findEntry_applyRemoval_putEntry (mergeEqual p x d e) p t

end

/-- A summary of a mapped tag that finds its entry, or room for one: the entry is as R124 leaves it, and no other is touched. -/
theorem findEntry_mergeSummary (hfine : TableFine p) (hmap : tagArea p d.tag = some a) (hroom : p.atu.table.length < 512)
    (t : Tag) :
    findEntry (mergeSummary a x p d) t = if t = d.tag then mergeLeaves p x a d (findEntry p d.tag) else findEntry p t := by
  cases he : findEntry p d.tag with
  | none => exact findEntry_mergeSummary_new hmap he hroom t
  | some e => exact findEntry_mergeSummary_found hfine hmap he t

theorem mergeSummary_unmapped (hmap : tagArea p d.tag ≠ some a) : mergeSummary a x p d = p := if_neg hmap

/-! ## The whole digest, where its summaries have distinct tags and find room -/

theorem applyRemoval_length (t : Tag) (p : Part) : (applyRemoval t p).atu.table.length ≤ p.atu.table.length := by
  unfold applyRemoval
  (repeat' split)
  · exact List.length_filter_le ..
  · exact Nat.le_refl _
  · exact Nat.le_refl _

theorem removal_length (e : Entry) (t : Tag) (p : Part) :
    (applyRemoval t (putEntry e p)).atu.table.length ≤ p.atu.table.length + 1 :=
  Nat.le_trans (applyRemoval_length ..) (insertEntry_length e p.atu.table)

theorem storeNew_room (h : p.atu.table.length < 512) (e : Entry) : storeNew e p = (true, putEntry e p) := if_pos h

/-- A summary that finds room changes the table and the demands alone, and adds at most one entry. -/
theorem mergeSummary_room (hroom : p.atu.table.length < 512) (a : Area) (x : StationNo) (d : Summary) :
    (mergeSummary a x p d).atu.table.length ≤ p.atu.table.length + 1 ∧ (mergeSummary a x p d).cnp = p.cnp := by
  unfold mergeSummary
  split
  · split
    · simp only [storeSummary, storeNew_room hroom, if_true]
      exact ⟨removal_length .., by simp⟩
    · split
      · exact ⟨Nat.le_succ _, rfl⟩
      · split
        · exact ⟨Nat.le_succ _, rfl⟩
        · exact ⟨removal_length .., by simp⟩
      · exact ⟨removal_length .., by simp⟩
  · exact ⟨Nat.le_succ _, rfl⟩

theorem merge_effect {ds : List Summary} (hfine : TableFine p) (hdistinct : ds.Pairwise fun y z => y.tag ≠ z.tag)
    (hroom : p.atu.table.length + ds.length ≤ 512) :
    (∀ y ∈ ds, findEntry (ds.foldl (mergeSummary a x) p) y.tag =
      if tagArea p y.tag = some a then mergeLeaves p x a y (findEntry p y.tag) else findEntry p y.tag) ∧
    (∀ t, (∀ y ∈ ds, y.tag ≠ t) → findEntry (ds.foldl (mergeSummary a x) p) t = findEntry p t) ∧
    (ds.foldl (mergeSummary a x) p).cnp = p.cnp := by
  induction ds generalizing p with
  | nil => exact ⟨nofun, fun _ _ => rfl, rfl⟩
  | cons d ds ih =>
    obtain ⟨hd, hds⟩ := List.pairwise_cons.1 hdistinct
    rw [List.length_cons] at hroom
    have hfit : p.atu.table.length < 512 := by omega
    obtain ⟨hlength, hcnp⟩ := mergeSummary_room hfit a x d
    obtain ⟨hstc, -, -, -, haru, -⟩ := mergeSummary_frame p a x d
    have hstep : ∀ t, findEntry (mergeSummary a x p d) t =
        if t = d.tag then if tagArea p d.tag = some a then mergeLeaves p x a d (findEntry p d.tag) else findEntry p d.tag
        else findEntry p t := fun t => by
      by_cases hmap : tagArea p d.tag = some a
      · rw [if_pos hmap, findEntry_mergeSummary hfine hmap hfit]
      · rw [if_neg hmap, mergeSummary_unmapped hmap]
        split
        · next ht => rw [ht]
        · rfl
    obtain ⟨hin, hout, hlog⟩ := ih (tableFine_mergeSummary hfine a x d) hds (by omega)
    rw [List.foldl_cons]
    refine ⟨fun y hy => ?_, fun t ht => ?_, hlog.trans hcnp⟩
    · rcases List.mem_cons.1 hy with rfl | hy
      · rw [hout y.tag fun z hz => (hd z hz).symm, hstep, if_pos rfl]
      · rw [hin y hy, hstep, if_neg (hd y hy).symm, tagArea_congr hstc, mergeLeaves_congr hstc haru]
    · rw [hout t fun y hy => ht y (List.mem_cons_of_mem d hy), hstep, if_neg (ht d List.mem_cons_self).symm]

end Sys2Proof.Machine
end


section
/-! PROOFS. Handover segments (R117, R122, R123, O48): an answer item fed, a segment stored, the digest merged, the record
discarded. -/

namespace Sys2Proof.Machine

variable {p q : Part} {s : State} {t : Telegram} {d : DigestContent}

theorem exec_takeHandoverDigest (h : nextTelegram s.part t) (hp : t.payload = .digest d) (hn : d.number ≠ 0)
    (hd : t.destination ≠ 0) : Machine.exec .takeHandoverDigest s =
      .next (s.withPart (popRing (applyHandoverDigest t.source d s.part))) := by
  have htaken : takenHandoverDigest t s.part = some (applyHandoverDigest t.source d s.part) := by
    rw [takenHandoverDigest, hp]
    simp only [if_neg hn, addressed_of hd, if_true]
  rw [← takeTelegram_eq h htaken]
  rfl

/-! ## The answer item of a refused digest (R117) -/

section
variable {x : StationNo} {a : Area} {n : Byte} {i : AnswerItem}

theorem waitingItem_mem (h : waitingItem p x a n = some i) : i ∈ p.hou.answers := List.mem_of_find?_eq_some h

theorem waitingItem_state (h : waitingItem p x a n = some i) : i.state = .waitingEnd := by
  have hi := List.find?_some h
  simp only [Bool.and_eq_true, decide_eq_true_eq] at hi
  exact hi.1.1.1.2

/-- The answer list with item `i` in a state, with a gap count. -/
def itemsWith (p : Part) (i : AnswerItem) (y : AnswerState) (n : Nat) : List AnswerItem :=
  p.hou.answers.map fun j => if j.serial = i.serial then { j with state := y, gap := n } else j

theorem modAnswer_eq (n : Nat) (f : AnswerItem → AnswerItem) (p : Part) : modAnswer n f p =
    { p with hou := { p.hou with answers := p.hou.answers.map fun j => if j.serial = n then f j else j } } := rfl

theorem applyHandoverDigest_item (h : waitingItem p x d.area d.number = some i) : applyHandoverDigest x d p =
    if d.last then itemReady i.serial p else modAnswer i.serial (fun y => { y with gap := 5 }) p := by
  rw [applyHandoverDigest, h]
  rfl

/-- The item's gap count restarts. -/
theorem gapRestarted (hstate : i.state = .waitingEnd) (hone : ∀ j ∈ p.hou.answers, j.serial = i.serial → j = i) :
    modAnswer i.serial (fun y => { y with gap := 5 }) p =
      { p with hou := { p.hou with answers := itemsWith p i .waitingEnd 5 } } := by
  have hmap : (p.hou.answers.map fun j => if j.serial = i.serial then { j with gap := 5 } else j) =
      itemsWith p i .waitingEnd 5 := by
    refine List.map_congr_left fun j hj => ?_
    split
    · next hs =>
      obtain rfl := hone j hj hs
      rw [← hstate]
    · rfl
  rw [modAnswer_eq, hmap]

/-- The item READY, not yet queued. -/
def itemEnded (i : AnswerItem) (p : Part) : Part := modAnswer i.serial (fun y => { y with state := .ready, gap := 0 }) p

theorem itemEnded_eq (i : AnswerItem) (p : Part) :
    itemEnded i p = { p with hou := { p.hou with answers := itemsWith p i .ready 0 } } := rfl

theorem itemReady_eq (i : AnswerItem) (p : Part) : itemReady i.serial p = pushTelegram (.answer i.serial) (itemEnded i p) := rfl

theorem itemReady_notRunning (hr : running p = false) : itemReady i.serial p = itemEnded i p := by
  have hmay : ownerMayQueue (itemEnded i p) (.answer i.serial) = false := hr
  rw [itemReady_eq, pushTelegram]
  split
  · rfl
  · simp only [hmay, Bool.false_eq_true, if_false]
    rfl

theorem answerOf_itemEnded (hi : i ∈ p.hou.answers) (hone : ∀ j ∈ p.hou.answers, j.serial = i.serial → j = i) :
    answerOf (itemEnded i p) i.serial = some { i with state := .ready, gap := 0 } := by
  have hserial : ∀ j : AnswerItem,
      (if j.serial = i.serial then { j with state := AnswerState.ready, gap := 0 } else j).serial = j.serial := fun j => by
    split <;> rfl
  have hfind : p.hou.answers.find? (fun j => decide (j.serial = i.serial)) = some i := by
    cases hf : p.hou.answers.find? fun j => decide (j.serial = i.serial) with
    | none => exact absurd (List.find?_eq_none.1 hf i hi) (by simp)
    | some j => rw [hone j (List.mem_of_find?_eq_some hf) (by simpa using List.find?_some hf)]
  change (List.map _ p.hou.answers).find? _ = _
  rw [List.find?_map]
  have hpred : ((fun j : AnswerItem => decide (j.serial = i.serial)) ∘ fun j : AnswerItem =>
      if j.serial = i.serial then { j with state := AnswerState.ready, gap := 0 } else j) =
      fun j => decide (j.serial = i.serial) := funext fun j => by rw [Function.comp_apply, hserial]
  rw [hpred, hfind]
  exact congrArg some (if_pos rfl)

/-- The REPLY of a refusal (R117). -/
def refusalReply (p : Part) (i : AnswerItem) (why : ReplyReason) : Telegram :=
  { source := p.stc.number, destination := i.addressee, payload := .reply i.area i.number true why }

theorem ownerTelegram_itemEnded {why : ReplyReason} (hi : i ∈ p.hou.answers)
    (hone : ∀ j ∈ p.hou.answers, j.serial = i.serial → j = i) (hw : i.refusal = some why) :
    ownerTelegram (itemEnded i p) (.answer i.serial) = some (refusalReply p i why) := by
  rw [ownerTelegram, answerOf_itemEnded hi hone]
  simp only [if_true, answerTelegram, hw]
  rfl

theorem itemReady_queued {why : ReplyReason} (hi : i ∈ p.hou.answers)
    (hone : ∀ j ∈ p.hou.answers, j.serial = i.serial → j = i) (hw : i.refusal = some why) (hr : running p = true)
    (ho : occupied p < 12) : ∃ k, p.lif.slots.get k = none ∧ itemReady i.serial p = { p with
      lif := placedIn k (.answer i.serial) (refusalReply p i why) (leaveWaiting (.answer i.serial) p).lif,
      hou := { p.hou with answers := itemsWith p i .queued 0 } } := by
  obtain ⟨k, hk, hpush⟩ := pushTelegram_entered (ownerTelegram_itemEnded hi hone hw)
    (show ownerMayQueue (itemEnded i p) (.answer i.serial) = true from hr) (show occupied (itemEnded i p) < 12 from ho)
  refine ⟨k, hk, ?_⟩
  have hmap : ((itemsWith p i .ready 0).map fun j => if j.serial = i.serial then { j with state := .queued } else j) =
      itemsWith p i .queued 0 := by
    rw [itemsWith, List.map_map]
    refine List.map_congr_left fun j _ => ?_
    by_cases hs : j.serial = i.serial <;> simp [hs]
  rw [itemReady_eq, hpush, ← hmap]
  rfl

theorem itemReady_waiting {why : ReplyReason} (hi : i ∈ p.hou.answers)
    (hone : ∀ j ∈ p.hou.answers, j.serial = i.serial → j = i) (hw : i.refusal = some why) (hr : running p = true)
    (ho : occupied p = 12) : itemReady i.serial p = { p with
      lif := (joinWaiting (.answer i.serial) p).lif, hou := { p.hou with answers := itemsWith p i .ready 0 } } := by
  have hmay : ownerMayQueue (itemEnded i p) (.answer i.serial) = true := hr
  have hfull : ¬occupied (itemEnded i p) < Config.slotCount := by
    rw [show occupied (itemEnded i p) = 12 from ho]; decide
  rw [itemReady_eq, pushTelegram, ownerTelegram_itemEnded hi hone hw]
  simp only [hmay, if_true, if_neg hfull]
  rfl

theorem mem_joinWaiting (o : Owner) (p : Part) : o ∈ (joinWaiting o p).lif.waiting := by
  change o ∈ if o ∈ p.lif.waiting then p.lif.waiting else p.lif.waiting ++ [o]
  split
  · assumption
  · simp

end

/-! ## The record's segment (R122) -/

section
variable {x : Reception} {r : Fin 4} {y : StationNo}

/-- The seven checks of R122. -/
def passesChecks (x : Reception) (d : DigestContent) : Prop :=
  d.number = x.number ∧ d.entryCount.toNat = x.entryCount ∧ d.index.toNat = x.nextIndex ∧
    (d.first = true ↔ d.index.toNat = 1) ∧ (d.last = true ↔ d.index.toNat = x.segmentCount) ∧
    x.received + d.summaries.length ≤ x.entryCount ∧ (d.last = true → x.received + d.summaries.length = x.entryCount)

theorem eq_decide_iff {b : Bool} {c : Prop} [Decidable c] : b = decide c ↔ (b = true ↔ c) := by
  cases b <;> by_cases h : c <;> simp [h]

theorem segmentPasses_iff : segmentPasses x d = true ↔ passesChecks x d := by
  unfold segmentPasses passesChecks
  simp only [Bool.and_eq_true, decide_eq_true_eq, eq_decide_iff, Bool.or_eq_true, Bool.not_eq_true', and_assoc]
  cases d.last <;> simp

theorem applyHandoverDigest_none (hi : waitingItem p y d.area d.number = none) (hr : handoverFrom p y d.area = none) :
    applyHandoverDigest y d p = p := by simp [applyHandoverDigest, hi, hr]

theorem applyHandoverDigest_record (hi : waitingItem p y d.area d.number = none) (hr : handoverFrom p y d.area = some r)
    (hx : p.hou.receptions.get r = some x) : applyHandoverDigest y d p =
      if x.state = .receiving then
        if segmentPasses x d then
          if d.last then enterReview r (setReception r (some (storeSegment x d)) p)
          else setReception r (some (storeSegment x d)) p
        else discardReception r d.last p
      else p := by simp [applyHandoverDigest, hi, hr, hx]

theorem handoverFrom_kind (hr : handoverFrom p y d.area = some r) (hx : p.hou.receptions.get r = some x) :
    x.kind = .handover := by
  have h := List.find?_some hr
  simp only [hx, Bool.and_eq_true, decide_eq_true_eq] at h
  exact h.1.1

/-! ## The last segment: the digest merged (R64, R69, R123, R124) -/

/-- The record in REVIEW over the merged table. -/
def merged (x : Reception) (p : Part) : Part :=
  takeMaximum x.area x.load (x.summaries.foldl (mergeSummary x.area x.releaser) p)

/-- The merge's verdict (R123). -/
def verdictOf (x : Reception) (p : Part) : Reason :=
  if areaCount p x.area = x.entryCount ∧ areaSignature p x.area = x.signature then .matched else .differs

def reviewEvent (x : Reception) (w : Reason) : Event :=
  { kind := .review, area := some x.area, station := some x.releaser, reason := some w }

theorem merged_frame (x : Reception) (p : Part) : (merged x p).stc = p.stc ∧ (merged x p).lif = p.lif ∧
    (merged x p).ssu = p.ssu ∧ (merged x p).aru = p.aru ∧ (merged x p).hou = p.hou := by
  unfold merged
  simp [foldl_stc, foldl_lif, foldl_ssu, foldl_aru, foldl_hou]

theorem enterReview_eq (hx : p.hou.receptions.get r = some x) : enterReview r p =
    deriveHorn (produce (reviewEvent x (verdictOf x (merged x p)))
      (setReception r (some { x with state := .review, timer := p.stc.settings.window }) (merged x p))) := by
  have hsame : ∀ q : Part, (if decide (areaCount q x.area = x.entryCount) && decide (areaSignature q x.area = x.signature)
      then Reason.matched else .differs) = verdictOf x q := fun q => by simp [verdictOf]
  rw [enterReview, hx]
  simp only [hsame]
  rw [show (takeMaximum x.area x.load (x.summaries.foldl (mergeSummary x.area x.releaser) p)).stc = p.stc from
    (merged_frame x p).1]
  rfl

theorem quiets_setLoad (a : Area) (n : Nat) (p : Part) : Quiets p (setLoad a n p) := quiets_of_anu (by simp)

theorem quiets_foldl {α : Type} {f : Part → α → Part} (hf : ∀ p x, Quiets p (f p x)) (l : List α) (p : Part) :
    Quiets p (l.foldl f p) :=
  foldl_keeps (P := Quiets p) (fun q x h => h.trans (hf q x)) (Quiets.refl p) l

theorem quiets_merged (x : Reception) (p : Part) : Quiets p (merged x p) :=
  (quiets_foldl (quiets_mergeSummary x.area x.releaser) x.summaries p).trans (quiets_setLoad ..)

theorem mergeAll_ldm (x : Reception) (p : Part) : (x.summaries.foldl (mergeSummary x.area x.releaser) p).ldm = p.ldm := by
  simp [foldl_ldm]

theorem mergeAll_stc (x : Reception) (p : Part) : (x.summaries.foldl (mergeSummary x.area x.releaser) p).stc = p.stc := by
  simp [foldl_stc]

theorem floodFine_congr (hs : q.stc = p.stc) (hl : q.ldm = p.ldm) (h : FloodFine p) : FloodFine q := by
  unfold FloodFine at h ⊢
  simp only [loadOf_congr hl, inFlood_congr hl, hs]
  exact h

/-- The digest's figure is taken as a maximum (R69, R70). -/
theorem loadOf_takeMaximum (a : Area) (w : Word16) (p : Part) :
    (loadOf (takeMaximum a w p) a).toNat = max (loadOf p a).toNat w.toNat := by
  rw [takeMaximum, loadOf_setLoad, if_pos rfl, BitVec.toNat_ofNat]
  have := (loadOf p a).isLt
  have := w.isLt
  omega

theorem takeMaximum_rising (a : Area) (w : Word16) (h : FloodFine p) :
    floodRisen p (takeMaximum a w p) a ∧ (takeMaximum a w p).cnp = floodStored p (takeMaximum a w p) a := by
  refine setLoad_rising p a h ?_
  have := (loadOf p a).isLt
  omega

theorem loadOf_merged (x : Reception) (p : Part) :
    (loadOf (merged x p) x.area).toNat = max (loadOf p x.area).toNat x.load.toNat := by
  rw [merged, loadOf_takeMaximum, loadOf_congr (mergeAll_ldm x p)]

theorem flood_merged (x : Reception) (h : FloodFine p) : floodRisen p (merged x p) x.area ∧
    ∀ a, a ≠ x.area → inFlood (merged x p) a = inFlood p a := by
  have hfine := floodFine_congr (mergeAll_stc x p) (mergeAll_ldm x p) h
  obtain ⟨hrisen, -⟩ := takeMaximum_rising x.area x.load hfine
  refine ⟨?_, fun a ha => ?_⟩
  · unfold floodRisen at hrisen ⊢
    rw [inFlood_congr (mergeAll_ldm x p), mergeAll_stc] at hrisen
    exact hrisen
  · rw [merged, takeMaximum, inFlood_setLoad_other _ _ _ _ ha, inFlood_congr (mergeAll_ldm x p)]

theorem merged_entries (x : Reception) (hfine : TableFine p) (hd : x.summaries.Pairwise fun y z => y.tag ≠ z.tag)
    (hroom : p.atu.table.length + x.summaries.length ≤ 512) :
    (∀ y ∈ x.summaries, findEntry (merged x p) y.tag =
      if tagArea p y.tag = some x.area then mergeLeaves p x.releaser x.area y (findEntry p y.tag) else findEntry p y.tag) ∧
    (∀ t, (∀ y ∈ x.summaries, y.tag ≠ t) → findEntry (merged x p) t = findEntry p t) ∧
    (FloodFine p → (merged x p).cnp = floodStored p (merged x p) x.area) := by
  obtain ⟨hin, hout, hlog⟩ := merge_effect (a := x.area) (x := x.releaser) hfine hd hroom
  have hatu : (merged x p).atu = (x.summaries.foldl (mergeSummary x.area x.releaser) p).atu := by simp [merged]
  refine ⟨fun y hy => (findEntry_congr hatu _).trans (hin y hy), fun t ht => (findEntry_congr hatu t).trans (hout t ht),
    fun h => ?_⟩
  have hfine := floodFine_congr (mergeAll_stc x p) (mergeAll_ldm x p) h
  obtain ⟨-, hstored⟩ := takeMaximum_rising x.area x.load hfine
  rw [merged, hstored, floodStored, floodStored, inFlood_congr (mergeAll_ldm x p), mergeAll_stc, hlog]

end

end Sys2Proof.Machine
end


section
/-! PROOFS. O48: a discarded record (R117, R122, R133), and the segment's cases together. -/

namespace Sys2Proof.Machine

variable {p q : Part} {r : Fin 4} {x : Reception}

/-! ## The discarded record -/

/-- An answer item added to a list of fewer than four (R117). -/
def answerAdded (w : Option ReplyReason) (a : Area) (y : StationNo) (n : Byte) (b : Bool) (p : Part) : Part :=
  modHou (fun h => { h with
    answers := h.answers ++ [{ refusal := w, area := a, addressee := y, number := n,
                               state := if b then .waitingEnd else .ready, gap := if b then Config.gapSeconds else 0,
                               serial := p.hou.nextSerial }],
    nextSerial := p.hou.nextSerial + 1 }) p

theorem addAnswer_full (h : ¬p.hou.answers.length < 4) (w : Option ReplyReason) (a : Area) (y : StationNo) (n : Byte) (b : Bool) :
    addAnswer w a y n b p = p := if_neg h

theorem queues_addAnswer (h : p.hou.answers.length < 4) (w : Option ReplyReason) (a : Area) (y : StationNo) (n : Byte)
    (b : Bool) : Queues (answerAdded w a y n b p) (addAnswer w a y n b p) := by
  unfold addAnswer
  rw [if_pos (show p.hou.answers.length < Config.answerCapacity from h)]
  cases b with
  | true => exact .refl _
  | false => exact queues_pushTelegram ..

/-- What the adding of an answer item keeps. -/
theorem addAnswer_effect (w : Option ReplyReason) (a : Area) (y : StationNo) (n : Byte) (b : Bool) (p : Part) :
    (addAnswer w a y n b p).stc = p.stc ∧ (addAnswer w a y n b p).cnp.events = p.cnp.events ∧
      (∀ i, ((addAnswer w a y n b p).hou.receptions.get i).map Reception.area = (p.hou.receptions.get i).map Reception.area) ∧
      (p.hou.answers.length < 4 → (addAnswer w a y n b p).hou.answers.length = p.hou.answers.length + 1) := by
  by_cases h : p.hou.answers.length < 4
  · have hq := queues_addAnswer h w a y n b
    refine ⟨hq.stc, hq.events, hq.receptions, fun _ => hq.answers.trans ?_⟩
    simp [answerAdded]
  · rw [addAnswer_full h]
    exact ⟨rfl, rfl, fun _ => rfl, fun hlt => absurd hlt h⟩

theorem dropReception_events (i : Fin 4) (p : Part) : (dropReception i p).cnp.events = p.cnp.events := by
  unfold dropReception
  split
  · rfl
  · exact (queues_withdrawTelegram _ p).events

theorem dropReception_stc (i : Fin 4) (p : Part) : (dropReception i p).stc = p.stc := (settles_dropReception i p).stc

theorem closeReception_events (hx : p.hou.receptions.get r = some x) (hk : x.kind = .handover) (w : Reason)
    (hroom : p.cnp.events.length < 64) :
    p.cnp.events ++ [{ kind := .receptionClosed, time := p.stc.seconds, area := some x.area, station := some x.releaser,
                       reason := some w }] <+: (closeReception r w p).cnp.events := by
  rw [closeReception, hx]
  simp only [hk]
  have h := storing_events_prefix (c := p.cnp) (d := (dropReception r p).cnp) (dropReception_events r p) hroom p.stc.seconds
    { kind := .receptionClosed, area := some x.area, station := some x.releaser, reason := some w }
  rw [← dropReception_stc r p] at h
  exact dropReception_stc r p ▸ h

theorem discardReception_effect (hx : p.hou.receptions.get r = some x) (hk : x.kind = .handover) (b : Bool) :
    (discardReception r b p).stc = p.stc ∧ (discardReception r b p).hou.receptions.get r = none ∧
      (p.hou.answers.length < 4 → (discardReception r b p).hou.answers.length = p.hou.answers.length + 1) ∧
      (p.cnp.events.length < 64 →
        p.cnp.events ++ [{ kind := .receptionClosed, time := p.stc.seconds, area := some x.area, station := some x.releaser,
                           reason := some .digestError }] <+: (discardReception r b p).cnp.events) := by
  have hclose := settles_closeReception r .digestError p
  obtain ⟨hstc, hevents, hreceptions, hanswers⟩ := addAnswer_effect (some .digestError) x.area x.releaser x.number (!b)
    (closeReception r .digestError p)
  rw [discardReception, hx]
  simp only
  have hafter := settles_afterReceptionFreed (addAnswer (some .digestError) x.area x.releaser x.number (!b)
    (closeReception r .digestError p))
  refine ⟨hafter.stc.trans (hstc.trans hclose.stc), ?_, fun h => ?_, fun h => ?_⟩
  · cases hget : (afterReceptionFreed (addAnswer (some .digestError) x.area x.releaser x.number (!b)
        (closeReception r .digestError p))).hou.receptions.get r with
    | none => rfl
    | some z =>
      have hsome := hafter.receptions r z.area (by rw [hget]; rfl)
      rw [hreceptions, closeReception_get] at hsome
      exact absurd hsome (by simp)
  · rw [hafter.answers, hanswers (hclose.answers ▸ h), hclose.answers]
  · refine (closeReception_events hx hk .digestError h).trans ?_
    rw [← hevents]
    exact hafter.log

/-! ## The last segment stored, and the record in REVIEW -/

/-- The part once the last segment is stored, the digest merged and the record in REVIEW. -/
def reviewed (r : Fin 4) (x : Reception) (d : DigestContent) (p : Part) : Part :=
  enterReview r (setReception r (some (storeSegment x d)) p)

theorem storing_getLast? {c : Cnp} {n : Seconds} {e : Event} (h : (c.storing n e).events.length < 64) :
    (c.storing n e).events.getLast? = some { e with time := n } := by
  by_cases hc : c.events.length < 64
  · rw [storing_events hc]
    simp
  · rw [Cnp.storing, if_neg hc] at h
    exact absurd h hc

/-- The record once its last segment is stored and the digest merged. -/
def reviewRecord (x : Reception) (d : DigestContent) (p : Part) : Reception :=
  { storeSegment x d with state := .review, timer := p.stc.settings.window }

/-- The merge as `reviewed` has it. -/
def segmentMerged (r : Fin 4) (x : Reception) (d : DigestContent) (p : Part) : Part :=
  merged (storeSegment x d) (setReception r (some (storeSegment x d)) p)

theorem reviewed_eq (r : Fin 4) (x : Reception) (d : DigestContent) (p : Part) : reviewed r x d p =
    deriveHorn (produce (reviewEvent (storeSegment x d) (verdictOf (storeSegment x d) (segmentMerged r x d p)))
      (setReception r (some (reviewRecord x d p)) (segmentMerged r x d p))) :=
  enterReview_eq (setAt_get_self ..)

theorem segmentMerged_frame (r : Fin 4) (x : Reception) (d : DigestContent) (p : Part) :
    (segmentMerged r x d p).stc = p.stc ∧ (segmentMerged r x d p).lif = p.lif ∧ (segmentMerged r x d p).ssu = p.ssu ∧
      (segmentMerged r x d p).aru = p.aru ∧
      (segmentMerged r x d p).hou = { p.hou with receptions := setAt p.hou.receptions r (some (storeSegment x d)) } :=
  merged_frame (storeSegment x d) (setReception r (some (storeSegment x d)) p)

theorem reviewed_frame (r : Fin 4) (x : Reception) (d : DigestContent) (p : Part) :
    (reviewed r x d p).stc = p.stc ∧ (reviewed r x d p).lif = p.lif ∧ (reviewed r x d p).ssu = p.ssu ∧
      (reviewed r x d p).aru = p.aru ∧
      (reviewed r x d p).hou = { p.hou with receptions := setAt p.hou.receptions r (some (reviewRecord x d p)) } := by
  obtain ⟨hstc, hlif, hssu, haru, hhou⟩ := segmentMerged_frame r x d p
  rw [reviewed_eq]
  generalize segmentMerged r x d p = m at hstc hlif hssu haru hhou
  simp [setReception, hstc, hlif, hssu, haru, hhou]

theorem reviewed_atu (r : Fin 4) (x : Reception) (d : DigestContent) (p : Part) :
    (reviewed r x d p).atu = (segmentMerged r x d p).atu := by simp [reviewed_eq]

theorem reviewed_ldm (r : Fin 4) (x : Reception) (d : DigestContent) (p : Part) :
    (reviewed r x d p).ldm = (segmentMerged r x d p).ldm := by simp [reviewed_eq]

theorem verdictOf_congr (h : q.atu = p.atu) (x : Reception) : verdictOf x q = verdictOf x p := by
  unfold verdictOf areaSignature areaCount areaEntries
  rw [h]

theorem reviewed_cnp (r : Fin 4) (x : Reception) (d : DigestContent) (p : Part) :
    (reviewed r x d p).cnp = (segmentMerged r x d p).cnp.storing p.stc.seconds
      (reviewEvent (storeSegment x d) (verdictOf (storeSegment x d) (reviewed r x d p))) := by
  have hstc : (segmentMerged r x d p).stc = p.stc := (segmentMerged_frame ..).1
  rw [verdictOf_congr (reviewed_atu ..), ← hstc, reviewed_eq]
  generalize segmentMerged r x d p = m
  simp [now]

theorem quiets_reviewed (r : Fin 4) (x : Reception) (d : DigestContent) (p : Part) : Quiets p (reviewed r x d p) := by
  have hmerged : Quiets p (segmentMerged r x d p) := (quiets_of_anu rfl : Quiets p (setReception r _ p)).trans (quiets_merged ..)
  rw [reviewed_eq]
  generalize segmentMerged r x d p = m at hmerged
  exact (hmerged.trans (quiets_of_anu (by simp))).trans (quiets_deriveHorn _)

theorem loadOf_reviewed (r : Fin 4) (x : Reception) (d : DigestContent) (p : Part) :
    (loadOf (reviewed r x d p) x.area).toNat = max (loadOf p x.area).toNat x.load.toNat := by
  rw [loadOf_congr (reviewed_ldm ..)]
  exact loadOf_merged (storeSegment x d) (setReception r (some (storeSegment x d)) p)

theorem flood_reviewed (r : Fin 4) (x : Reception) (d : DigestContent) (h : FloodFine p) :
    floodRisen p (reviewed r x d p) x.area ∧ ∀ a, a ≠ x.area → inFlood (reviewed r x d p) a = inFlood p a := by
  have hset : FloodFine (setReception r (some (storeSegment x d)) p) := floodFine_congr rfl rfl h
  obtain ⟨hrisen, hother⟩ := flood_merged (storeSegment x d) hset
  refine ⟨?_, fun a ha => (inFlood_congr (reviewed_ldm ..) a).trans (hother a ha)⟩
  unfold floodRisen at hrisen ⊢
  rw [inFlood_congr (reviewed_ldm ..), loadOf_congr (reviewed_ldm ..)]
  exact hrisen

/-- The entries and the log after the merge (R123, R124). -/
theorem reviewed_entries (r : Fin 4) {x : Reception} {d : DigestContent} (hfine : TableFine p)
    (hd : (x.summaries ++ d.summaries).Pairwise fun y z => y.tag ≠ z.tag)
    (hroom : p.atu.table.length + (x.summaries ++ d.summaries).length ≤ 512) :
    (∀ y ∈ x.summaries ++ d.summaries, findEntry (reviewed r x d p) y.tag =
      if tagArea p y.tag = some x.area then mergeLeaves p x.releaser x.area y (findEntry p y.tag) else findEntry p y.tag) ∧
    (∀ t, (∀ y ∈ x.summaries ++ d.summaries, y.tag ≠ t) → findEntry (reviewed r x d p) t = findEntry p t) ∧
    (FloodFine p → (reviewed r x d p).cnp = (floodStored p (reviewed r x d p) x.area).storing p.stc.seconds
      (reviewEvent x (verdictOf x (reviewed r x d p)))) := by
  have hset : TableFine (setReception r (some (storeSegment x d)) p) := hfine
  obtain ⟨hin, hout, hlog⟩ := merged_entries (storeSegment x d) hset hd hroom
  refine ⟨fun y hy => (findEntry_congr (reviewed_atu ..) _).trans (hin y hy),
    fun t ht => (findEntry_congr (reviewed_atu ..) t).trans (hout t ht), fun h => ?_⟩
  have hflood : FloodFine (setReception r (some (storeSegment x d)) p) := floodFine_congr rfl rfl h
  have hstored : (segmentMerged r x d p).cnp = floodStored p (reviewed r x d p) x.area := by
    rw [segmentMerged, hlog hflood, floodStored, floodStored, inFlood_congr (reviewed_ldm r x d p)]
    rfl
  rw [reviewed_cnp, hstored]
  rfl

end Sys2Proof.Machine

open Sys2Proof.Machine in
/-- Settles O48: an awaited item (`itemReady_queued` and its like), a stored segment, the merge (`merged_entries`), the discard
(`discardReception_effect`). -/
theorem handoverSegmentIsChecked : Obligations.HandoverSegmentIsChecked := by
  intro s t d h hp hn hd
  have hexec := exec_takeHandoverDigest h hp hn hd
  have hpop : ∀ q : Part, q.lif = s.part.lif →
      popRing q = { q with lif := s.part.lif.taken (encodeTelegram t).length } := fun q => popRing_of_nextTelegram h
  refine ⟨fun i why hi hw hone => ?_, fun hi => ⟨fun hr => ?_, fun r x hr hx => ?_⟩⟩
  · have hmem := waitingItem_mem hi
    rw [hexec, applyHandoverDigest_item hi]
    refine ⟨fun hlast => ?_, fun hlast hrun => ?_, fun hlast hrun ho => ?_, fun hlast hrun ho => ?_⟩
    · rw [hlast, if_neg Bool.false_ne_true, gapRestarted (waitingItem_state hi) hone,
        hpop _ (by rfl)]
      rfl
    · rw [hlast, if_pos rfl, itemReady_notRunning hrun, itemEnded_eq,
        hpop _ (by rfl)]
      rfl
    · obtain ⟨k, hk, hready⟩ := itemReady_queued hmem hone hw hrun ho
      have hring := popRing_of_ring (q := itemReady i.serial s.part) h (by rw [hready]; rfl)
      rw [hlast, if_pos rfl, hring, hready]
      exact ⟨_, rfl, rfl, k, _, hk, rfl⟩
    · have hready := itemReady_waiting hmem hone hw hrun ho
      have hring := popRing_of_ring (q := itemReady i.serial s.part) h (by rw [hready]; rfl)
      rw [hlast, if_pos rfl, hring, hready]
      exact ⟨_, rfl, rfl, mem_joinWaiting ..⟩
  · rw [hexec, applyHandoverDigest_none hi hr, hpop s.part rfl]
  · rw [hexec, applyHandoverDigest_record hi hr hx]
    refine ⟨fun hstate => ?_, fun hstate hpass hlast => ?_, fun hstate hpass hlast => ?_, fun hstate hfail => ?_⟩
    · rw [if_neg hstate, hpop s.part rfl]
    · rw [if_pos hstate, if_pos (segmentPasses_iff.2 hpass), hlast, if_neg Bool.false_ne_true,
        hpop _ (by rfl)]
      rfl
    · rw [if_pos hstate, if_pos (segmentPasses_iff.2 hpass), hlast, if_pos rfl]
      obtain ⟨hstc, hlif, hssu, haru, hhou⟩ := reviewed_frame r x d s.part
      refine ⟨_, rfl, ?_, loadOf_reviewed r x d s.part, (quiets_reviewed r x d s.part).urgent,
        (quiets_reviewed r x d s.part).routine, (quiets_reviewed r x d s.part).trip, flood_reviewed r x d,
        reviewed_entries r, fun hroom => ?_⟩
      · rw [show enterReview r (setReception r (some (storeSegment x d)) s.part) = reviewed r x d s.part from rfl, hpop _ hlif]
        exact congrArg s.withPart (part_ext hstc rfl rfl rfl rfl hssu haru hhou rfl)
      · have hcnp := reviewed_cnp r x d s.part
        have hlast := storing_getLast? (hcnp ▸ hroom)
        exact (congrArg (fun c : Cnp => c.events.getLast?) hcnp).trans hlast
    · rw [if_pos hstate, if_neg fun hpass => hfail (segmentPasses_iff.1 hpass)]
      obtain ⟨hstc, hfreed, hanswers, hevents⟩ := discardReception_effect hx (handoverFrom_kind hr hx) d.last
      exact ⟨_, rfl, hstc, hfreed, hanswers, hevents⟩
end


section
/-! PROOFS. The replace of an area's entries by a sync digest (R42, R136). -/

namespace Sys2Proof.Machine

variable {p q : Part} {a : Area} {x : StationNo} {d : Summary} {e : Entry}

/-! ## The entry that a summary leaves -/

theorem replaceLeaves_of_emergency (hs : q.stc = p.stc) (he : ∀ b, emergency q b = emergency p b) (x : StationNo) (a : Area)
    (d : Summary) (o : Option Entry) : replaceLeaves q x a d o = replaceLeaves p x a d o := by
  have hshelf : ∀ b y, shelfTaken q x b y d = shelfTaken p x b y d := fun b y => by rw [shelfTaken, hs, he]; rfl
  have hcreated : ∀ b, createdBy q x b d = createdBy p x b d := fun b => by rw [createdBy, hs, hshelf]; rfl
  cases o with
  | none => rw [replaceLeaves, hcreated]; rfl
  | some e => simp only [replaceLeaves, hcreated, hshelf, hs]

theorem replaceLeaves_equal (hc : compareOccurrence d.occurrence e.occurrence = .equal) :
    replaceLeaves p x a d (some e) = unlessRemoved (replaceEqual p x d e) := by
  have hshelf : ∀ o : Option Shelf, (o.isSome = true) = (o ≠ none) := fun o => by cases o <;> simp
  have hquiet : (if e.acknowledged = true ∧ d.acknowledged = true then e.quiet else false) =
      (e.acknowledged && d.acknowledged && e.quiet) := by cases e.acknowledged <;> cases d.acknowledged <;> simp
  simp only [replaceLeaves, (compareOccurrence_equal.1 hc).symm, if_true, replaceEqual, summaryShelf_eq, hshelf, hquiet,
    Bool.and_eq_true, now]

theorem replaceLeaves_other (hc : compareOccurrence d.occurrence e.occurrence ≠ .equal) :
    replaceLeaves p x a d (some e) = unlessRemoved (createdBy p x e.area d) :=
  if_neg fun h => hc (compareOccurrence_equal.2 h.symm)

theorem findEntry_replaceSummary (hmap : tagArea p d.tag = some a) (hroom : p.atu.table.length < 512) (t : Tag) :
    findEntry (replaceSummary a x p d) t = if t = d.tag then replaceLeaves p x a d (findEntry p d.tag) else findEntry p t := by
  cases he : findEntry p d.tag with
  | none =>
    simp only [replaceSummary, hmap, he, storeNew_room hroom, if_true]
    rw [summaryEntry_eq]
    exact findEntry_applyRemoval_putEntry (createdBy p x a d) p t
  | some e =>
    have htag := findEntry_tag he
    have hentry : { summaryEntry p e.area x d with tag := e.tag } = createdBy p x e.area d := by
      rw [summaryEntry_eq, htag]; rfl
    by_cases hc : compareOccurrence d.occurrence e.occurrence = .equal
    · simp only [replaceSummary, hmap, he, hc, if_true, replaceLeaves_equal hc]
      rw [← htag]
      exact findEntry_applyRemoval_putEntry (replaceEqual p x d e) p t
    · simp only [replaceSummary, hmap, he, hc, if_true, if_false, replaceLeaves_other hc, hentry]
      exact findEntry_applyRemoval_putEntry (createdBy p x e.area d) p t

theorem replaceSummary_unmapped (hmap : tagArea p d.tag ≠ some a) : replaceSummary a x p d = p := if_neg hmap

/-! ## The table's size and the indicators (R18) -/

theorem insertEntry_length_ge (e : Entry) (l : List Entry) : l.length ≤ (insertEntry e l).length := by
  induction l with
  | nil => exact Nat.zero_le _
  | cons y ys ih => unfold insertEntry; (repeat' split) <;> simp [ih]

theorem cuts_keepEntries (f : Entry → Bool) (p : Part) : Cuts p (keepEntries f p) := by
  refine ⟨fun h => ?_, fun hlt hlow => if_pos ⟨hlt, hlow⟩⟩
  simp [keepEntries, h]

theorem cuts_removal (e : Entry) (t : Tag) (p : Part) : Cuts p (applyRemoval t (putEntry e p)) := by
  have hput : Cuts p (putEntry e p) := ⟨id, fun hlt => absurd (insertEntry_length_ge e p.atu.table) (Nat.not_le_of_lt hlt)⟩
  refine hput.trans ?_
  unfold applyRemoval
  (repeat' split)
  · exact cuts_keepEntries _ _
  · exact .refl _
  · exact .refl _

/-- A summary that finds room adds at most one entry, sets no indicator and logs nothing. -/
theorem replaceSummary_room (hroom : p.atu.table.length < 512) (a : Area) (x : StationNo) (d : Summary) :
    (replaceSummary a x p d).atu.table.length ≤ p.atu.table.length + 1 ∧ (replaceSummary a x p d).cnp = p.cnp ∧
      Cuts p (replaceSummary a x p d) := by
  unfold replaceSummary
  split
  · split
    · simp only [storeNew_room hroom, if_true]
      exact ⟨removal_length .., by simp, cuts_removal ..⟩
    · split
      · exact ⟨removal_length .., by simp, cuts_removal ..⟩
      · exact ⟨removal_length .., by simp, cuts_removal ..⟩
  · exact ⟨Nat.le_succ _, rfl, .refl p⟩

theorem replace_effect {ds : List Summary} (hdistinct : ds.Pairwise fun y z => y.tag ≠ z.tag)
    (hroom : p.atu.table.length + ds.length ≤ 512) :
    (∀ y ∈ ds, findEntry (ds.foldl (replaceSummary a x) p) y.tag =
      if tagArea p y.tag = some a then replaceLeaves p x a y (findEntry p y.tag) else findEntry p y.tag) ∧
    (∀ t, (∀ y ∈ ds, y.tag ≠ t) → findEntry (ds.foldl (replaceSummary a x) p) t = findEntry p t) ∧
    (ds.foldl (replaceSummary a x) p).cnp = p.cnp ∧ Cuts p (ds.foldl (replaceSummary a x) p) := by
  induction ds generalizing p with
  | nil => exact ⟨nofun, fun _ _ => rfl, rfl, .refl p⟩
  | cons d ds ih =>
    obtain ⟨hd, hds⟩ := List.pairwise_cons.1 hdistinct
    rw [List.length_cons] at hroom
    have hfit : p.atu.table.length < 512 := by omega
    obtain ⟨hlength, hcnp, hcuts⟩ := replaceSummary_room hfit a x d
    obtain ⟨hstc, -, -, -, haru, -⟩ := replaceSummary_frame (p := p) a x d
    have hstep : ∀ t, findEntry (replaceSummary a x p d) t =
        if t = d.tag then
          if tagArea p d.tag = some a then replaceLeaves p x a d (findEntry p d.tag) else findEntry p d.tag
        else findEntry p t := fun t => by
      by_cases hmap : tagArea p d.tag = some a
      · rw [if_pos hmap, findEntry_replaceSummary hmap hfit]
      · rw [if_neg hmap, replaceSummary_unmapped hmap]
        split
        · next ht => rw [ht]
        · rfl
    obtain ⟨hin, hout, hlog, hrest⟩ := ih (p := replaceSummary a x p d) hds (by omega)
    rw [List.foldl_cons]
    refine ⟨fun y hy => ?_, fun t ht => ?_, hlog.trans hcnp, hcuts.trans hrest⟩
    · rcases List.mem_cons.1 hy with rfl | hy
      · rw [hout y.tag fun z hz => (hd z hz).symm, hstep, if_pos rfl]
      · rw [hin y hy, hstep, if_neg (hd y hy).symm, tagArea_congr hstc,
          replaceLeaves_of_emergency hstc fun b => emergency_congr haru b]
    · rw [hout t fun y hy => ht y (List.mem_cons_of_mem d hy), hstep, if_neg (ht d List.mem_cons_self).symm]

/-! ## The area's replace -/

theorem findEntry_keepEntries (h : TagsRise p.atu.table) (f : Entry → Bool) (t : Tag) :
    findEntry (keepEntries f p) t = (findEntry p t).filter f := by
  cases he : findEntry p t with
  | none =>
    rw [findEntry_eq_none] at he
    refine findEntry_eq_none.2 ?_
    exact fun y hy => he y (List.mem_of_mem_filter hy)
  | some e =>
    have htag := findEntry_tag he
    have hkept : TagsRise (keepEntries f p).atu.table := filter_tagsRise h
    rw [Option.filter]
    split
    · next hf =>
      rw [← htag]
      exact findEntry_of_mem hkept (List.mem_filter.2 ⟨findEntry_mem he, hf⟩)
    · next hf =>
      rw [findEntry_eq_none]
      intro y hy hyt
      obtain ⟨hmem, hyf⟩ := List.mem_filter.1 hy
      have := findEntry_of_mem h hmem
      rw [hyt, he] at this
      exact hf (Option.some.inj this ▸ hyf)

/-- The entries that a replace of area `a` keeps: those of other areas, and those that the digest carries. -/
def replaceKeeps (a : Area) (ds : List Summary) (e : Entry) : Bool :=
  !decide (e.area = a) || ds.any fun d => decide (d.tag = e.tag)

theorem replaceArea_eq (a : Area) (x : StationNo) (ds : List Summary) (p : Part) :
    replaceArea a x ds p = deriveHorn (ds.foldl (replaceSummary a x) (keepEntries (replaceKeeps a ds) p)) := rfl

theorem replaceArea_entries {ds : List Summary} (hfine : TableFine p) (hdistinct : ds.Pairwise fun y z => y.tag ≠ z.tag)
    (hroom : p.atu.table.length + ds.length ≤ 512) :
    (∀ y ∈ ds, findEntry (replaceArea a x ds p) y.tag =
      if tagArea p y.tag = some a then replaceLeaves p x a y (findEntry p y.tag) else findEntry p y.tag) ∧
    (∀ t, (∀ y ∈ ds, y.tag ≠ t) → ∀ e, findEntry p t = some e →
      findEntry (replaceArea a x ds p) t = if e.area = a then none else some e) ∧
    (replaceArea a x ds p).cnp = p.cnp ∧ Cuts p (replaceArea a x ds p) := by
  have hshrinks : (keepEntries (replaceKeeps a ds) p).atu.table.length ≤ p.atu.table.length := List.length_filter_le ..
  obtain ⟨hin, hout, hcnp, hcuts⟩ := replace_effect (p := keepEntries (replaceKeeps a ds) p) (a := a) (x := x) hdistinct
    (by omega)
  have hfind := findEntry_keepEntries hfine.2.1 (replaceKeeps a ds)
  rw [replaceArea_eq]
  refine ⟨fun y hy => ?_, fun t ht e he => ?_, hcnp, ?_⟩
  · have hkept : findEntry (keepEntries (replaceKeeps a ds) p) y.tag = findEntry p y.tag := by
      rw [hfind]
      cases he : findEntry p y.tag with
      | none => rfl
      | some e =>
        refine Option.filter_some_pos ?_
        simp only [replaceKeeps, Bool.or_eq_true, List.any_eq_true, decide_eq_true_eq]
        exact .inr ⟨y, hy, (findEntry_tag he).symm⟩
    refine (hin y hy).trans ?_
    rw [hkept]
    rfl
  · refine (hout t ht).trans ?_
    rw [hfind, he, Option.filter]
    have hlacks : (ds.any fun d => decide (d.tag = e.tag)) = false := by
      simpa [findEntry_tag he] using ht
    simp [replaceKeeps, hlacks]
  · have hall := (cuts_keepEntries (replaceKeeps a ds) p).trans hcuts
    exact ⟨hall.overflow, hall.clears⟩

/-! ## What holds of any replace -/

theorem applyRemoval_mem {t : Tag} {y : Entry} (h : y ∈ (applyRemoval t p).atu.table) : y ∈ p.atu.table := by
  unfold applyRemoval at h
  (repeat' split at h)
  · exact List.mem_of_mem_filter h
  · exact h
  · exact h

theorem storeNew_mem {y : Entry} (h : y ∈ (storeNew e p).2.atu.table) : y = e ∨ y ∈ p.atu.table := by
  rcases storeNew_cases e p with ⟨-, hs⟩ | ⟨-, z, -, -, hs⟩ | ⟨-, -, hs⟩ <;> rw [hs] at h
  · exact insertEntry_mem h
  · exact (insertEntry_mem h).imp id fun hy => List.mem_of_mem_filter hy
  · exact .inr h

theorem removal_mem {t : Tag} {y : Entry} (h : y ∈ (applyRemoval t (putEntry e p)).atu.table) : y = e ∨ y ∈ p.atu.table :=
  insertEntry_mem (applyRemoval_mem h)

theorem replaceSummary_mem {y : Entry} (h : y ∈ (replaceSummary a x p d).atu.table) : y.tag = d.tag ∨ y ∈ p.atu.table := by
  unfold replaceSummary at h
  split at h
  · split at h
    · simp only at h
      split at h
      · exact (storeNew_mem (applyRemoval_mem h)).imp (fun hy => by rw [hy]; rfl) id
      · exact (storeNew_mem h).imp (fun hy => by rw [hy]; rfl) id
    · next e he =>
      have htag := findEntry_tag he
      split at h
      · exact (removal_mem h).imp (fun hy => by rw [hy]; exact htag) id
      · exact (removal_mem h).imp (fun hy => by rw [hy]; exact htag) id
  · exact .inr h

theorem replaceAll_mem {ds : List Summary} {y : Entry} (h : y ∈ (ds.foldl (replaceSummary a x) p).atu.table) :
    (∃ d ∈ ds, d.tag = y.tag) ∨ y ∈ p.atu.table := by
  induction ds generalizing p with
  | nil => exact .inr h
  | cons d ds ih =>
    rcases ih h with ⟨z, hz, hzt⟩ | hy
    · exact .inl ⟨z, List.mem_cons_of_mem d hz, hzt⟩
    · exact (replaceSummary_mem hy).imp (fun ht => ⟨d, List.mem_cons_self, ht.symm⟩) id

/-- After the replace the area has entries only for tags that the digest carries (R136). -/
theorem replaceArea_tags {ds : List Summary} {y : Entry} (h : y ∈ (replaceArea a x ds p).atu.table) (ha : y.area = a) :
    ∃ d ∈ ds, d.tag = y.tag := by
  rcases replaceAll_mem (show y ∈ (ds.foldl (replaceSummary a x) (keepEntries (replaceKeeps a ds) p)).atu.table from h) with
    hd | hy
  · exact hd
  · have hkept := (List.mem_filter.1 hy).2
    simpa [replaceKeeps, ha] using hkept

theorem quiets_replaceSummary (a : Area) (x : StationNo) (p : Part) (d : Summary) : Quiets p (replaceSummary a x p d) := by
  unfold replaceSummary
  split
  · split
    · simp only
      split
      · exact (quiets_storeNew (summaryEntry p a x d) p).trans (quiets_of_anu (applyRemoval_frame _ d.tag).2.2.2.1)
      · exact quiets_storeNew _ p
    · split <;> exact quiets_removal ..
  · exact .refl p

theorem quiets_replaceArea (a : Area) (x : StationNo) (ds : List Summary) (p : Part) : Quiets p (replaceArea a x ds p) :=
  ((quiets_of_anu rfl : Quiets p (keepEntries _ p)).trans (quiets_foldl (quiets_replaceSummary a x) ds _)).trans
    (quiets_deriveHorn _)

theorem reportOverflow_resyncsApplied (a : Area) (t : Tag) (w : Reason) (p : Part) :
    (reportOverflow a t w p).cnp.stats.resyncsApplied = p.cnp.stats.resyncsApplied := by
  simp [reportOverflow, countTableOverflow, modStats]

theorem storeNew_resyncsApplied (e : Entry) (p : Part) :
    (storeNew e p).2.cnp.stats.resyncsApplied = p.cnp.stats.resyncsApplied := by
  rcases storeNew_cases e p with ⟨-, hs⟩ | ⟨-, z, -, -, hs⟩ | ⟨-, -, hs⟩ <;> rw [hs]
  · rfl
  · exact reportOverflow_resyncsApplied z.area z.tag .evicted (deriveHorn (removeEntry z.tag p))
  · exact reportOverflow_resyncsApplied ..

theorem replaceSummary_resyncsApplied (a : Area) (x : StationNo) (p : Part) (d : Summary) :
    (replaceSummary a x p d).cnp.stats.resyncsApplied = p.cnp.stats.resyncsApplied := by
  unfold replaceSummary
  split
  · split
    · simp only
      split
      · rw [(applyRemoval_frame _ d.tag).2.2.2.2.2.2.2]
        exact storeNew_resyncsApplied _ p
      · exact storeNew_resyncsApplied _ p
    · split <;> simp
  · rfl

theorem replaceArea_resyncsApplied (a : Area) (x : StationNo) (ds : List Summary) (p : Part) :
    (replaceArea a x ds p).cnp.stats.resyncsApplied = p.cnp.stats.resyncsApplied :=
  foldl_keeps (P := fun q => q.cnp.stats.resyncsApplied = p.cnp.stats.resyncsApplied)
    (fun q d h => (replaceSummary_resyncsApplied a x q d).trans h)
    (p := keepEntries (replaceKeeps a ds) p) rfl ds

end Sys2Proof.Machine
end


section
/-! PROOFS. What follows a freed reception record (R94, R103): the roles are derived afresh, the follow set is judged, and areas
are claimed, which sets no demand where every covered area was already annunciated. -/

namespace Sys2Proof.Machine

variable {p q r : Part} {a b : Area}

/-! ## Covered areas (R94) -/

/-- An area that the station covers unless it holds it (R94). -/
def covers (p : Part) (a : Area) : Bool :=
  listening p && ((inHome p a || inStandby p a) && !(view p a).relinquished
    && (decide ((view p a).holder = 0) || !(view p a).attended))

/-- The roles make the area annunciated (R44, R94). -/
def dueAnnunciated (p : Part) (a : Area) : Bool := holds p a || covers p a

/-- Every area that is due to be annunciated is. -/
def AnnunciatesDue (p : Part) : Prop := ∀ a, dueAnnunciated p a = true → annunciated p a = true

theorem annunciated_of_holds (h : holds p a = true) : annunciated p a = true := by
  simpa [annunciated, holds] using Or.inl (of_decide_eq_true h)

theorem covers_congr (hs : q.stc = p.stc) (hr : (view q a).relinquished = (view p a).relinquished)
    (hh : (view q a).holder = (view p a).holder) (ha : (view q a).attended = (view p a).attended) :
    covers q a = covers p a := by
  unfold covers listening starting running isolated inHome inStandby
  rw [hs, hr, hh, ha]

theorem unheldRole_annunciated (p : Part) (a : Area) :
    unheldRole p a ≠ .hold ∧ (unheldRole p a = .cover ↔ covers p a = true) := by
  unfold unheldRole covers
  simp only
  cases listening p with
  | false => simp
  | true =>
    simp only [Bool.not_true, Bool.false_eq_true, if_false, Bool.true_and]
    split
    · next h => exact ⟨nofun, fun _ => h, fun _ => rfl⟩
    · next h =>
      refine ⟨?_, fun hrole => ?_, fun hc => absurd hc h⟩
      · split <;> exact nofun
      · split at hrole <;> cases hrole

/-! ## A role changed (R44, R47) -/

theorem view_changeRole (a : Area) (x : Role) (p : Part) (b : Area) :
    view (changeRole a x p) b = if b = a then { view p a with role := x } else view p b := by
  unfold changeRole
  split
  · next h =>
    split
    · next hb => rw [hb, ← h]
    · rfl
  · have haru : ∀ q : Part, view (deriveHorn (if !annunciated p a && annunciated q a then raiseStanding a q else q)) b =
        view q b := fun q => by split <;> rfl
    rw [haru, view_modView]

/-- A role that leaves the area not annunciated, or finds it so, sets no demand. -/
theorem quiets_changeRole {x : Role} (h : x = .hold ∨ x = .cover → annunciated p a = true) : Quiets p (changeRole a x p) := by
  unfold changeRole
  split
  · exact .refl p
  · refine Quiets.trans ?_ (quiets_deriveHorn _)
    split
    · next hraise =>
      rw [Bool.and_eq_true, Bool.not_eq_true'] at hraise
      obtain ⟨hbefore, hafter⟩ := hraise
      simp only [annunciated, view_modView_self, Bool.or_eq_true, decide_eq_true_eq] at hafter
      rw [h hafter] at hbefore
      cases hbefore
    · exact quiets_of_anu rfl

theorem view_refreshRole (p : Part) (a b : Area) :
    view (refreshRole p a) b = if b = a ∧ holds p a = false then { view p a with role := unheldRole p a } else view p b := by
  unfold refreshRole
  cases h : holds p a with
  | true => simp
  | false => simp [view_changeRole]

theorem holds_refreshRole (p : Part) (a b : Area) : holds (refreshRole p a) b = holds p b := by
  rw [holds, view_refreshRole]
  split
  · next h =>
    obtain ⟨rfl, hnot⟩ := h
    rw [hnot]
    exact decide_eq_false (unheldRole_annunciated p b).1
  · rfl

theorem covers_refreshRole (p : Part) (a b : Area) : covers (refreshRole p a) b = covers p b := by
  have hview : (view (refreshRole p a) b).relinquished = (view p b).relinquished ∧
      (view (refreshRole p a) b).holder = (view p b).holder ∧ (view (refreshRole p a) b).attended = (view p b).attended := by
    rw [view_refreshRole]
    split
    · next h => rw [h.1]; exact ⟨rfl, rfl, rfl⟩
    · exact ⟨rfl, rfl, rfl⟩
  obtain ⟨hr, hh, ha⟩ := hview
  exact covers_congr (refreshRole_frame p a).1 hr hh ha

theorem due_refreshRole (p : Part) (a b : Area) : dueAnnunciated (refreshRole p a) b = dueAnnunciated p b := by
  rw [dueAnnunciated, holds_refreshRole, covers_refreshRole]; rfl

theorem annunciated_refreshRole_self (p : Part) (a : Area) : annunciated (refreshRole p a) a = dueAnnunciated p a := by
  cases h : holds p a with
  | true =>
    rw [dueAnnunciated, h, annunciated_of_holds (by rw [holds_refreshRole, h])]
    rfl
  | false =>
    obtain ⟨hnot, hcover⟩ := unheldRole_annunciated p a
    rw [dueAnnunciated, h, annunciated, view_refreshRole, if_pos ⟨rfl, h⟩]
    simp only [hnot, decide_false, Bool.false_or]
    exact Bool.eq_iff_iff.2 (by simpa using hcover)

theorem annunciated_refreshRole_other (p : Part) (h : b ≠ a) : annunciated (refreshRole p a) b = annunciated p b := by
  rw [annunciated, view_refreshRole, if_neg fun hb => h hb.1]; rfl

theorem quiets_refreshRole (h : AnnunciatesDue p) (a : Area) : Quiets p (refreshRole p a) := by
  unfold refreshRole
  split
  · exact .refl p
  · obtain ⟨hnot, hcover⟩ := unheldRole_annunciated p a
    refine quiets_changeRole fun hrole => h a ?_
    rw [dueAnnunciated, hcover.1 (hrole.resolve_left hnot), Bool.or_true]

theorem annunciatesDue_refreshRole (h : AnnunciatesDue p) (a : Area) : AnnunciatesDue (refreshRole p a) := fun b hb => by
  rw [due_refreshRole] at hb
  by_cases hba : b = a
  · rw [hba] at hb ⊢
    rw [annunciated_refreshRole_self, hb]
  · rw [annunciated_refreshRole_other p hba]
    exact h b hb

theorem quiets_refreshRoles (h : AnnunciatesDue p) : Quiets p (refreshRoles p) :=
  (foldl_keeps (P := fun q => Quiets p q ∧ AnnunciatesDue q)
    (fun _ a hq => ⟨hq.1.trans (quiets_refreshRole hq.2 a), annunciatesDue_refreshRole hq.2 a⟩) ⟨.refl p, h⟩ allAreas).1

theorem due_refreshRoles (p : Part) (b : Area) : dueAnnunciated (refreshRoles p) b = dueAnnunciated p b :=
  foldl_keeps (P := fun q => dueAnnunciated q b = dueAnnunciated p b) (fun q a h => (due_refreshRole q a b).trans h) rfl allAreas

/-- The roles derived afresh annunciate what is due, and nothing else. -/
theorem annunciated_refreshRoles (p : Part) (b : Area) : annunciated (refreshRoles p) b = dueAnnunciated p b := by
  have hkeeps : ∀ (q : Part) (a : Area), annunciated q b = dueAnnunciated p b ∧ dueAnnunciated q b = dueAnnunciated p b →
      annunciated (refreshRole q a) b = dueAnnunciated p b ∧ dueAnnunciated (refreshRole q a) b = dueAnnunciated p b := by
    intro q a h
    obtain ⟨hann, hdue⟩ := h
    refine ⟨?_, (due_refreshRole q a b).trans hdue⟩
    by_cases hba : b = a
    · rw [hba, annunciated_refreshRole_self, ← hba, hdue]
    · rw [annunciated_refreshRole_other q hba, hann]
  have hlist : ∀ (l : List Area) (q : Part), b ∈ l → dueAnnunciated q b = dueAnnunciated p b →
      annunciated (l.foldl refreshRole q) b = dueAnnunciated p b := by
    intro l
    induction l with
    | nil => exact fun _ h => absurd h List.not_mem_nil
    | cons a l ih =>
      intro q hb hdue
      have hnext := (due_refreshRole q a b).trans hdue
      rcases List.mem_cons.1 hb with rfl | hb
      · exact (foldl_keeps hkeeps ⟨(annunciated_refreshRole_self q b).trans hdue, hnext⟩ l).1
      · exact ih (refreshRole q a) hb hnext
  exact hlist allAreas p (by simp [allAreas]) rfl

/-- What a view keeps of a SYNC-REQUEST is clear (R105). -/
def syncClear (p : Part) (a : Area) : Prop := (view p a).mismatch = 0 ∧ (view p a).resync = 0 ∧ (view p a).startup = false

theorem syncClear_refreshRole (h : syncClear p b) (a : Area) : syncClear (refreshRole p a) b := by
  unfold syncClear at h ⊢
  rw [view_refreshRole]
  split
  · next hb => rw [hb.1] at h; exact h
  · exact h

/-! ## A claim (R103) -/

/-- What a claim leaves: records, events up to CLAIMED, and the other areas' views. -/
structure Claims (p q : Part) : Prop where
  stc : q.stc = p.stc
  atu : q.atu = p.atu
  ldm : q.ldm = p.ldm
  hou : q.hou = p.hou
  stats : q.cnp.stats = p.cnp.stats
  events : onlyClaims p q
  views : ∀ a, view q a = view p a ∨ (holds q a = true ∧ syncClear q a)
  quiet : AnnunciatesDue p → Quiets p q ∧ AnnunciatesDue q

theorem onlyClaims.trans (h : onlyClaims p q) (k : onlyClaims q r) : onlyClaims p r := by
  obtain ⟨es, hes, hclaims⟩ := h
  obtain ⟨fs, hfs, hmore⟩ := k
  refine ⟨es ++ fs, by rw [hfs, hes, List.append_assoc], fun e he => ?_⟩
  rcases List.mem_append.1 he with h | h
  · exact hclaims e h
  · exact hmore e h

theorem onlyClaims_of_cnp (h : q.cnp.events = p.cnp.events) : onlyClaims p q :=
  ⟨[], by rw [h, List.append_nil], fun _ he => absurd he List.not_mem_nil⟩

theorem Claims.refl (p : Part) : Claims p p :=
  ⟨rfl, rfl, rfl, rfl, rfl, onlyClaims_of_cnp rfl, fun _ => .inl rfl, fun h => ⟨.refl p, h⟩⟩

theorem holds_of_view (h : view q a = view p a) : holds q a = holds p a := by rw [holds, h]; rfl

theorem Claims.trans (h : Claims p q) (k : Claims q r) : Claims p r where
  stc := k.stc.trans h.stc
  atu := k.atu.trans h.atu
  ldm := k.ldm.trans h.ldm
  hou := k.hou.trans h.hou
  stats := k.stats.trans h.stats
  events := h.events.trans k.events
  views := fun a => by
    rcases k.views a with hk | hk
    · rcases h.views a with hh | ⟨hheld, hclear⟩
      · exact .inl (hk.trans hh)
      · exact .inr ⟨(holds_of_view hk).trans hheld, by unfold syncClear at hclear ⊢; rwa [hk]⟩
    · exact .inr hk
  quiet := fun hp => by
    obtain ⟨hquiet, hq⟩ := h.quiet hp
    obtain ⟨hmore, hr⟩ := k.quiet hq
    exact ⟨hquiet.trans hmore, hr⟩

/-- The view of an area that is gained, before its role. -/
def viewCleared (a : Area) (p : Part) : Part :=
  dropOwedSync a (modView a (fun v => { noHolder v with relinquished := false, startup := false }) p)

theorem view_viewCleared (a : Area) (p : Part) (b : Area) :
    (b ≠ a → view (viewCleared a p) b = view p b) ∧ (view (viewCleared a p) b).role = (view p b).role ∧
      syncClear (viewCleared a p) a := by
  have hview : ∀ q b, view (dropOwedSync a q) b = view (modView a (fun v =>
    { v with mismatch := 0, resync := 0, syncMark := match v.syncMark with | .owed => .none | m => m }) q) b := fun _ _ => rfl
  refine ⟨fun hb => ?_, ?_, ?_⟩
  · rw [viewCleared, hview, view_modView_other _ _ _ _ hb, view_modView_other _ _ _ _ hb]
  · rw [viewCleared, hview, view_modView]
    split
    · next hb => rw [view_modView_self, hb]; rfl
    · next hb => rw [view_modView_other _ _ _ _ hb]
  · unfold syncClear
    rw [viewCleared, hview, view_modView_self, view_modView_self]
    exact ⟨rfl, rfl, rfl⟩

theorem gainArea_eq (a : Area) (p : Part) : gainArea a p =
    if sessionActive (callBeacon (changeRole a .hold (viewCleared a p)))
    then callBeacon (changeRole a .hold (viewCleared a p))
    else startGrace (callBeacon (changeRole a .hold (viewCleared a p))) := rfl

/-- What follows the role in a gain touches the queue, the beacon's marks and the grace timer alone. -/
theorem gainArea_rest (a : Area) (p : Part) :
    (∀ b, view (gainArea a p) b = view (changeRole a .hold (viewCleared a p)) b) ∧
      (gainArea a p).anu = (changeRole a .hold (viewCleared a p)).anu ∧ (gainArea a p).hou = p.hou ∧
      (gainArea a p).cnp = p.cnp := by
  obtain ⟨hpart, hviews, -⟩ := callBeacon_eq (changeRole a .hold (viewCleared a p))
  have hhou : (callBeacon (changeRole a .hold (viewCleared a p))).hou = p.hou := by rw [hpart]; simp [viewCleared]
  have hcnp : (callBeacon (changeRole a .hold (viewCleared a p))).cnp = p.cnp := by rw [hpart]; simp [viewCleared]
  have hanu : (callBeacon (changeRole a .hold (viewCleared a p))).anu = (changeRole a .hold (viewCleared a p)).anu := by
    rw [hpart]
  have hgrace : ∀ q : Part, (startGrace q).aru.views = q.aru.views := fun q => by
    change (if _ then q.aru else _).views = q.aru.views
    split <;> rfl
  rw [gainArea_eq]
  unfold view
  split
  · exact ⟨fun b => by rw [hviews], hanu, hhou, hcnp⟩
  · refine ⟨fun b => by rw [hgrace, hviews], ?_, ?_, ?_⟩
    · simpa using hanu
    · simpa using hhou
    · simpa using hcnp

theorem view_gainArea (a : Area) (p : Part) :
    (∀ b, b ≠ a → view (gainArea a p) b = view p b) ∧ holds (gainArea a p) a = true ∧ syncClear (gainArea a p) a := by
  obtain ⟨hviews, -⟩ := gainArea_rest a p
  refine ⟨fun b hb => ?_, ?_, ?_⟩
  · rw [hviews, view_changeRole, if_neg hb]
    exact (view_viewCleared a p b).1 hb
  · rw [holds, hviews, view_changeRole, if_pos rfl]
    rfl
  · have hclear := (view_viewCleared a p a).2.2
    unfold syncClear at hclear ⊢
    rw [hviews, view_changeRole, if_pos rfl]
    exact hclear

theorem quiets_gainArea (h : annunciated p a = true) : Quiets p (gainArea a p) := by
  obtain ⟨-, hanu, -⟩ := gainArea_rest a p
  have hcleared : Quiets p (viewCleared a p) := quiets_of_anu (by simp [viewCleared])
  have hann : annunciated (viewCleared a p) a = true := by
    unfold annunciated at h ⊢
    rw [(view_viewCleared a p a).2.1]
    exact h
  exact (hcleared.trans (quiets_changeRole fun _ => hann)).trans (quiets_of_anu hanu)

theorem covers_of_canClaim (h : canClaim p a = true) : covers p a = true := by
  simp only [canClaim, orphaned, Bool.and_eq_true, Bool.not_eq_true', decide_eq_true_eq, Bool.or_eq_true] at h
  obtain ⟨⟨⟨⟨⟨⟨hholder, -⟩, hrelinquished⟩, hrunning⟩, -⟩, harea⟩, -⟩ := h
  have hset : (inHome p a || inStandby p a) = true := by
    rcases harea with hhome | ⟨hstandby, -⟩
    · rw [hhome, Bool.true_or]
    · rw [hstandby, Bool.or_true]
  simp [covers, listening, hrunning, hset, hholder, hrelinquished]

theorem onlyClaims_produce {e : Event} (h : e.kind = .claimed) (p : Part) : onlyClaims p (produce e p) := by
  by_cases hroom : p.cnp.events.length < 64
  · refine ⟨[{ e with time := now p }], ?_, fun y hy => ?_⟩
    · rw [produce_cnp, storing_events hroom]
    · rw [List.mem_singleton.1 hy]
      exact h
  · refine onlyClaims_of_cnp ?_
    rw [produce_cnp, Cnp.storing, if_neg hroom]

theorem claims_claimArea (p : Part) (a : Area) : Claims p (claimArea p a) := by
  unfold claimArea
  split
  · next hcan =>
    obtain ⟨-, -, hhou, hcnp⟩ := gainArea_rest a p
    obtain ⟨hother, hheld, hclear⟩ := view_gainArea a p
    obtain ⟨hstc, hatu, hldm, -⟩ := gainArea_frame p a
    refine ⟨hstc, hatu, hldm, hhou, ?_, ?_, fun b => ?_, fun hdue => ⟨?_, fun b hb => ?_⟩⟩
    · rw [produce_cnp, storing_stats, hcnp]
    · exact (onlyClaims_of_cnp (by rw [hcnp])).trans (onlyClaims_produce rfl _)
    · by_cases hb : b = a
      · rw [hb]; exact .inr ⟨hheld, hclear⟩
      · exact .inl (hother b hb)
    · have hann := hdue a (by rw [dueAnnunciated, covers_of_canClaim hcan, Bool.or_true])
      exact (quiets_gainArea hann).trans (quiets_of_anu (by simp))
    · change annunciated (gainArea a p) b = true
      by_cases hba : b = a
      · rw [hba]; exact annunciated_of_holds hheld
      · have hsame := hother b hba
        have hdueb : dueAnnunciated p b = true := by
          rw [← hb]
          change _ = dueAnnunciated (gainArea a p) b
          rw [dueAnnunciated, dueAnnunciated, holds_of_view hsame,
            covers_congr hstc (by rw [hsame]) (by rw [hsame]) (by rw [hsame])]
        rw [annunciated, hsame]
        exact hdue b hdueb
  · exact .refl p

theorem claims_judgeClaims (p : Part) : Claims p (judgeClaims p) :=
  foldl_keeps (P := Claims p) (fun q a h => h.trans (claims_claimArea q a)) (Claims.refl p) allAreas

/-! ## The follow set judged (R4, R5) -/

theorem quiets_purgeUnfollowed (p : Part) : Quiets p (purgeUnfollowed p) :=
  (quiets_of_anu rfl : Quiets p { p with atu := (purgeUnfollowed p).atu, ldm := (purgeUnfollowed p).ldm }).trans
    (quiets_deriveHorn _)

theorem purgeUnfollowed_load (h : followed p a = true) :
    loadOf (purgeUnfollowed p) a = loadOf p a ∧ inFlood (purgeUnfollowed p) a = inFlood p a := by
  simp [purgeUnfollowed, loadOf, inFlood, h]

theorem purgeUnfollowed_table (h : ∀ e ∈ p.atu.table, followed p e.area = true) :
    (purgeUnfollowed p).atu.table = p.atu.table := List.filter_eq_self.2 h

theorem holds_refreshRoles (p : Part) (b : Area) : holds (refreshRoles p) b = holds p b :=
  foldl_keeps (P := fun q => holds q b = holds p b) (fun q a h => (holds_refreshRole q a b).trans h) rfl allAreas

theorem followed_refreshRoles (p : Part) (b : Area) : followed (refreshRoles p) b = followed p b := by
  obtain ⟨hstc, -, -, -, -, hhou, -⟩ := refreshRoles_frame p
  unfold followed inHome inStandby inWatch receptionFor
  rw [hstc, hhou, holds_refreshRoles]

theorem syncClear_settleAreas (h : syncClear p b) : syncClear (settleAreas p) b := by
  have hroles : syncClear (refreshRoles p) b := 
    foldl_keeps (P := fun q => syncClear q b) (fun _ a hq => syncClear_refreshRole hq a) h allAreas
  have haru : (settleAreas p).aru = (refreshRoles p).aru := (purgeUnfollowed_frame (refreshRoles p)).2.2.2.1
  unfold syncClear view at hroles ⊢
  rwa [haru]

theorem settleAreas_load (h : followed p a = true) :
    loadOf (settleAreas p) a = loadOf p a ∧ inFlood (settleAreas p) a = inFlood p a := by
  obtain ⟨hload, hflood⟩ := purgeUnfollowed_load (p := refreshRoles p) (by rwa [followed_refreshRoles])
  have hldm : (refreshRoles p).ldm = p.ldm := (refreshRoles_frame p).2.2.2.1
  exact ⟨hload.trans (loadOf_congr hldm a), hflood.trans (inFlood_congr hldm a)⟩

theorem settleAreas_table (h : ∀ e ∈ p.atu.table, followed p e.area = true) : (settleAreas p).atu.table = p.atu.table := by
  have hatu : (refreshRoles p).atu = p.atu := (refreshRoles_frame p).2.2.1
  rw [settleAreas, purgeUnfollowed_table, hatu]
  rw [hatu]
  exact fun e he => (followed_refreshRoles p e.area).trans (h e he)

theorem view_purgeUnfollowed (p : Part) (b : Area) : view (purgeUnfollowed p) b = view p b := by
  unfold view
  rw [(purgeUnfollowed_frame p).2.2.2.1]

theorem annunciated_settleAreas (p : Part) (b : Area) : annunciated (settleAreas p) b = dueAnnunciated p b := by
  rw [annunciated, settleAreas, view_purgeUnfollowed]
  exact annunciated_refreshRoles p b

theorem due_settleAreas (p : Part) (b : Area) : dueAnnunciated (settleAreas p) b = dueAnnunciated p b := by
  have hview := view_purgeUnfollowed (refreshRoles p) b
  have hstc : (settleAreas p).stc = (refreshRoles p).stc := (purgeUnfollowed_frame (refreshRoles p)).1
  rw [← due_refreshRoles p, settleAreas, dueAnnunciated, dueAnnunciated, holds_of_view hview]
  exact congrArg _ (covers_congr hstc (by rw [hview]) (by rw [hview]) (by rw [hview]))

theorem quiets_settleAreas (h : AnnunciatesDue p) : Quiets p (settleAreas p) :=
  (quiets_refreshRoles h).trans (quiets_purgeUnfollowed _)

theorem annunciatesDue_settleAreas (p : Part) : AnnunciatesDue (settleAreas p) := fun b hb => by
  rwa [annunciated_settleAreas, ← due_settleAreas]

/-! ## The record freed: all together -/

theorem quiets_afterReceptionFreed (h : AnnunciatesDue p) : Quiets p (afterReceptionFreed p) :=
  (quiets_settleAreas h).trans ((claims_judgeClaims _).quiet (annunciatesDue_settleAreas p)).1

/-- What was due to be annunciated still is. -/
theorem annunciated_afterReceptionFreed (h : dueAnnunciated p a = true) : annunciated (afterReceptionFreed p) a = true := by
  have hsettled : annunciated (settleAreas p) a = true := by rw [annunciated_settleAreas, h]
  rcases (claims_judgeClaims (settleAreas p)).views a with hview | ⟨hheld, -⟩
  · rw [afterReceptionFreed, annunciated, hview]
    exact hsettled
  · exact annunciated_of_holds hheld

theorem syncClear_afterReceptionFreed (h : syncClear p a) : syncClear (afterReceptionFreed p) a := by
  rcases (claims_judgeClaims (settleAreas p)).views a with hview | ⟨-, hclear⟩
  · have hsettled := syncClear_settleAreas h
    unfold syncClear at hsettled ⊢
    rwa [afterReceptionFreed, hview]
  · exact hclear

theorem afterReceptionFreed_hou (p : Part) : (afterReceptionFreed p).hou = p.hou :=
  (claims_judgeClaims (settleAreas p)).hou.trans (settleAreas_frame p).2.2.2.1

theorem afterReceptionFreed_log (p : Part) :
    (afterReceptionFreed p).cnp.stats = p.cnp.stats ∧ onlyClaims p (afterReceptionFreed p) := by
  have hclaims := claims_judgeClaims (settleAreas p)
  have hcnp : (settleAreas p).cnp = p.cnp := (settleAreas_frame p).2.2.2.2
  refine ⟨?_, (onlyClaims_of_cnp ?_).trans hclaims.events⟩
  · rw [afterReceptionFreed, hclaims.stats, hcnp]
  · rw [hcnp]

theorem afterReceptionFreed_load (h : followed p a = true) :
    loadOf (afterReceptionFreed p) a = loadOf p a ∧ inFlood (afterReceptionFreed p) a = inFlood p a := by
  obtain ⟨hload, hflood⟩ := settleAreas_load h
  have hldm := (claims_judgeClaims (settleAreas p)).ldm
  exact ⟨(loadOf_congr hldm a).trans hload, (inFlood_congr hldm a).trans hflood⟩

theorem afterReceptionFreed_table (h : ∀ e ∈ p.atu.table, followed p e.area = true) :
    (afterReceptionFreed p).atu.table = p.atu.table := by
  rw [afterReceptionFreed, (claims_judgeClaims (settleAreas p)).atu, settleAreas_table h]

end Sys2Proof.Machine
end


section
/-! PROOFS. A complete sync digest applied (R70, R103, R105, R136): the area's entries replaced, the figure's maximum, the record
freed and the areas claimed. -/

namespace Sys2Proof.Machine

variable {p q : Part} {a b : Area} {r : Fin 4} {x : Reception}

/-! ## The record freed (R131) -/

theorem due_congr (hs : q.stc = p.stc) (ho : (view q b).role = (view p b).role)
    (hr : (view q b).relinquished = (view p b).relinquished) (hh : (view q b).holder = (view p b).holder)
    (ha : (view q b).attended = (view p b).attended) : dueAnnunciated q b = dueAnnunciated p b := by
  rw [dueAnnunciated, dueAnnunciated, covers_congr hs hr hh ha, holds, holds, ho]

theorem Queues.due (h : Queues p q) (b : Area) : dueAnnunciated q b = dueAnnunciated p b := by
  obtain ⟨m, hm⟩ := h.views b
  exact due_congr h.stc (by rw [hm]) (by rw [hm]) (by rw [hm]) (by rw [hm])

theorem dropReception_eq (hx : p.hou.receptions.get r = some x) :
    dropReception r p = deriveHorn (setReception r none (withdrawTelegram (.reply r x.serial) p)) := by rw [dropReception, hx]

theorem due_dropReception (hx : p.hou.receptions.get r = some x) (b : Area) :
    dueAnnunciated (dropReception r p) b = dueAnnunciated p b := by
  rw [dropReception_eq hx]
  exact (queues_withdrawTelegram _ p).due b

theorem quiets_dropReception (hx : p.hou.receptions.get r = some x) : Quiets p (dropReception r p) := by
  have hq := queues_withdrawTelegram (.reply r x.serial) p
  have hanu : Quiets p (setReception r none (withdrawTelegram (.reply r x.serial) p)) :=
    ⟨fun h => hq.urgent ▸ h, fun h => hq.routine ▸ h, hq.trip⟩
  rw [dropReception_eq hx]
  exact hanu.trans (quiets_deriveHorn _)

theorem dropReception_resyncsApplied (r : Fin 4) (p : Part) :
    (dropReception r p).cnp.stats.resyncsApplied = p.cnp.stats.resyncsApplied := by
  unfold dropReception
  split
  · rfl
  · exact (queues_withdrawTelegram _ p).applied

theorem dropReception_areas (hx : p.hou.receptions.get r = some x) (i : Fin 4) :
    ((dropReception r p).hou.receptions.get i).map Reception.area =
      if i = r then none else (p.hou.receptions.get i).map Reception.area := by
  rw [dropReception_eq hx]
  change Option.map _ ((setAt _ r none).get i) = _
  rw [setAt_get]
  split
  · rfl
  · exact (queues_withdrawTelegram _ p).receptions i

/-- The follow set loses at most the record's area. -/
theorem followed_dropReception (hx : p.hou.receptions.get r = some x) (hb : b ≠ x.area) (h : followed p b = true) :
    followed (dropReception r p) b = true := by
  have hstc : (dropReception r p).stc = p.stc := (dropReception_frame p r).1
  have hheld := (sameRoles_dropReception r p).holds b
  have hrecord : (receptionFor p b).isSome = true → (receptionFor (dropReception r p) b).isSome = true := by
    intro hsome
    rw [Option.isSome_iff_ne_none] at hsome ⊢
    refine fun hnone => hsome (receptionFor_eq_none.2 fun i hi => ?_)
    have hdropped := receptionFor_eq_none.1 hnone i
    rw [dropReception_areas hx] at hdropped
    split at hdropped
    · next hir => rw [hir, hx] at hi; exact hb (Option.some.inj hi).symm
    · exact hdropped hi
  unfold followed inHome inStandby inWatch at h ⊢
  rw [hstc, hheld]
  simp only [Bool.or_eq_true] at h ⊢
  exact h.imp id hrecord

/-! ## The area replaced, its record freed and its sync state cleared -/

/-- The area's entries and figure, the record still there. -/
def replaced (x : Reception) (p : Part) : Part :=
  takeMaximum x.area x.load (replaceArea x.area x.releaser x.summaries p)

/-- *Resyncs applied* counted, and what the view keeps of the request cleared (R105, R136). -/
def resynced (a : Area) (p : Part) : Part :=
  modStats (fun s => { s with resyncsApplied := s.resyncsApplied + 1 })
    (modView a (fun v => { v with mismatch := 0, resync := 0, startup := false }) p)

theorem resynced_frame (a : Area) (p : Part) : (resynced a p).stc = p.stc ∧ (resynced a p).atu = p.atu ∧
    (resynced a p).ldm = p.ldm ∧ (resynced a p).anu = p.anu ∧ (resynced a p).hou = p.hou ∧
    (resynced a p).cnp.events = p.cnp.events ∧
    (resynced a p).cnp.stats.resyncsApplied = p.cnp.stats.resyncsApplied + 1 := ⟨rfl, rfl, rfl, rfl, rfl, rfl, rfl⟩

theorem view_resynced (a : Area) (p : Part) (b : Area) : view (resynced a p) b =
    if b = a then { view p a with mismatch := 0, resync := 0, startup := false } else view p b := 
  view_modView p a b fun v => { v with mismatch := 0, resync := 0, startup := false }

theorem syncClear_resynced (a : Area) (p : Part) : syncClear (resynced a p) a := by
  unfold syncClear
  rw [view_resynced, if_pos rfl]
  exact ⟨rfl, rfl, rfl⟩

theorem view_resynced_upto (a : Area) (p : Part) (b : Area) : ∃ m n c,
    view (resynced a p) b = { view p b with mismatch := m, resync := n, startup := c } := by
  rw [view_resynced]
  split
  · next h => exact ⟨0, 0, false, by rw [h]⟩
  · exact ⟨_, _, _, rfl⟩

theorem due_resynced (a : Area) (p : Part) (b : Area) : dueAnnunciated (resynced a p) b = dueAnnunciated p b := by
  obtain ⟨_, _, _, hview⟩ := view_resynced_upto a p b
  exact due_congr rfl (by rw [hview]) (by rw [hview]) (by rw [hview]) (by rw [hview])

theorem sameRoles_resynced (a : Area) (p : Part) : SameRoles p (resynced a p) := fun b => by
  obtain ⟨_, _, _, hview⟩ := view_resynced_upto a p b
  rw [hview]

theorem followed_of_sameRoles (hs : q.stc = p.stc) (hr : SameRoles p q) (hh : q.hou = p.hou) (b : Area) :
    followed q b = followed p b := by
  unfold followed inHome inStandby inWatch receptionFor
  rw [hs, hh, hr.holds]

/-- The record gone, and the sync state cleared. -/
def syncFreed (r : Fin 4) (x : Reception) (p : Part) : Part := resynced x.area (dropReception r (replaced x p))

theorem applySync_eq (r : Fin 4) (x : Reception) (p : Part) : applySync r x p = afterReceptionFreed (syncFreed r x p) := rfl

theorem replaced_frame (x : Reception) (p : Part) : (replaced x p).stc = p.stc ∧ (replaced x p).lif = p.lif ∧
    (replaced x p).atu = (replaceArea x.area x.releaser x.summaries p).atu ∧ (replaced x p).aru = p.aru ∧
    (replaced x p).hou = p.hou := by
  simp [replaced]

theorem replaced_record (hx : p.hou.receptions.get r = some x) : (replaced x p).hou.receptions.get r = some x := by
  rw [(replaced_frame x p).2.2.2.2, hx]

theorem replaced_due (x : Reception) (p : Part) (b : Area) : dueAnnunciated (replaced x p) b = dueAnnunciated p b := by
  obtain ⟨hstc, -, -, haru, -⟩ := replaced_frame x p
  have hview : view (replaced x p) b = view p b := by unfold view; rw [haru]
  exact due_congr hstc (by rw [hview]) (by rw [hview]) (by rw [hview]) (by rw [hview])

theorem followed_replaced (x : Reception) (p : Part) (b : Area) : followed (replaced x p) b = followed p b := by
  obtain ⟨hstc, -, -, haru, hhou⟩ := replaced_frame x p
  exact followed_congr hstc haru hhou b

theorem quiets_replaced (x : Reception) (p : Part) : Quiets p (replaced x p) :=
  (quiets_replaceArea ..).trans (quiets_setLoad ..)

theorem loadOf_replaced (x : Reception) (p : Part) :
    (loadOf (replaced x p) x.area).toNat = max (loadOf p x.area).toNat x.load.toNat := by
  have hldm : (replaceArea x.area x.releaser x.summaries p).ldm = p.ldm := by simp
  rw [replaced, loadOf_takeMaximum, loadOf_congr hldm]

theorem flood_replaced (x : Reception) (h : FloodFine p) : floodRisen p (replaced x p) x.area ∧
    (replaced x p).cnp = if inFlood p x.area = false ∧ inFlood (replaced x p) x.area = true then
      (replaceArea x.area x.releaser x.summaries p).cnp.storing p.stc.seconds { kind := .floodOn, area := some x.area }
      else (replaceArea x.area x.releaser x.summaries p).cnp := by
  have hldm : (replaceArea x.area x.releaser x.summaries p).ldm = p.ldm := by simp
  have hstc : (replaceArea x.area x.releaser x.summaries p).stc = p.stc := by simp
  obtain ⟨hrisen, hstored⟩ := takeMaximum_rising x.area x.load (floodFine_congr hstc hldm h)
  refine ⟨?_, ?_⟩
  · unfold floodRisen at hrisen ⊢
    rwa [inFlood_congr hldm, hstc] at hrisen
  · rw [replaced, hstored, floodStored, inFlood_congr hldm, hstc]

theorem syncFreed_frame (r : Fin 4) (x : Reception) (p : Part) : (syncFreed r x p).stc = p.stc ∧
    (syncFreed r x p).atu = (replaceArea x.area x.releaser x.summaries p).atu ∧
    (syncFreed r x p).ldm = (replaced x p).ldm ∧ (syncFreed r x p).cnp.events = (replaced x p).cnp.events ∧
    (syncFreed r x p).cnp.stats.resyncsApplied = p.cnp.stats.resyncsApplied + 1 := by
  obtain ⟨hstc, -, hatu, -, -⟩ := replaced_frame x p
  obtain ⟨hdstc, hdatu, hdldm⟩ := dropReception_frame (replaced x p) r
  obtain ⟨hrstc, hratu, hrldm, -, -, hrevents, hrapplied⟩ := resynced_frame x.area (dropReception r (replaced x p))
  have happlied : (replaced x p).cnp.stats.resyncsApplied = p.cnp.stats.resyncsApplied := by
    rw [replaced, takeMaximum, stats_setLoad, replaceArea_resyncsApplied]
  unfold syncFreed
  exact ⟨hrstc.trans (hdstc.trans hstc), hratu.trans (hdatu.trans hatu), hrldm.trans hdldm,
    hrevents.trans (dropReception_events r _), by rw [hrapplied, dropReception_resyncsApplied, happlied]⟩

theorem sameRoles_syncFreed (r : Fin 4) (x : Reception) (p : Part) : SameRoles p (syncFreed r x p) :=
  ((sameRoles_of_aru (replaced_frame x p).2.2.2.1).trans (sameRoles_dropReception r _)).trans (sameRoles_resynced x.area _)

theorem followed_of_sets (h : inHome p a = true ∨ inStandby p a = true ∨ inWatch p a = true) : followed p a = true := by
  unfold followed
  rcases h with h | h | h <;> simp [h]

theorem applySync_tags (r : Fin 4) {e : Entry} (he : e ∈ (applySync r x p).atu.table) (ha : e.area = x.area) :
    ∃ y ∈ x.summaries, y.tag = e.tag := by
  rw [applySync_eq] at he
  have hmem := (settles_afterReceptionFreed (syncFreed r x p)).only e he
  rw [(syncFreed_frame r x p).2.1] at hmem
  exact replaceArea_tags hmem ha

section
variable (hx : p.hou.receptions.get r = some x)
include hx

theorem due_syncFreed (b : Area) : dueAnnunciated (syncFreed r x p) b = dueAnnunciated p b := by
  rw [syncFreed, due_resynced, due_dropReception (replaced_record hx), replaced_due]

theorem annunciatesDue_syncFreed (h : AnnunciatesDue p) : AnnunciatesDue (syncFreed r x p) := fun b hb => by
  rw [due_syncFreed hx] at hb
  rw [(sameRoles_syncFreed r x p).annunciated]
  exact h b hb

theorem quiets_syncFreed : Quiets p (syncFreed r x p) :=
  ((quiets_replaced x p).trans (quiets_dropReception (replaced_record hx))).trans
    (quiets_of_anu (resynced_frame x.area (dropReception r (replaced x p))).2.2.2.1)

theorem syncFreed_areas (i : Fin 4) : ((syncFreed r x p).hou.receptions.get i).map Reception.area =
    if i = r then none else (p.hou.receptions.get i).map Reception.area := by
  rw [syncFreed, (resynced_frame _ _).2.2.2.2.1, dropReception_areas (replaced_record hx), (replaced_frame x p).2.2.2.2]

/-- The area is followed without its record. -/
theorem followed_syncFreed (ha : inHome p x.area = true ∨ inStandby p x.area = true ∨ inWatch p x.area = true)
    (h : followed p b = true) : followed (syncFreed r x p) b = true := by
  by_cases hb : b = x.area
  · have hstc : (syncFreed r x p).stc = p.stc := (syncFreed_frame r x p).1
    have hsets : inHome (syncFreed r x p) x.area = true ∨ inStandby (syncFreed r x p) x.area = true ∨
        inWatch (syncFreed r x p) x.area = true := by
      unfold inHome inStandby inWatch at ha ⊢
      rwa [hstc]
    rw [hb]
    exact followed_of_sets hsets
  · rw [syncFreed, followed_of_sameRoles (resynced_frame _ _).1 (sameRoles_resynced x.area _) (resynced_frame _ _).2.2.2.2.1]
    exact followed_dropReception (replaced_record hx) hb ((followed_replaced x p b).trans h)

/-! ## The digest applied -/

theorem applySync_kept : (applySync r x p).stc = p.stc ∧ (∀ i, ((applySync r x p).hou.receptions.get i).map Reception.area =
      if i = r then none else (p.hou.receptions.get i).map Reception.area) ∧
    syncClear (applySync r x p) x.area ∧
    (applySync r x p).cnp.stats.resyncsApplied = p.cnp.stats.resyncsApplied + 1 := by
  obtain ⟨hstc, -, -, -, happlied⟩ := syncFreed_frame r x p
  refine ⟨?_, fun i => ?_, ?_, ?_⟩
  · rw [applySync_eq, (afterReceptionFreed_frame _).1, hstc]
  · rw [applySync_eq, afterReceptionFreed_hou, syncFreed_areas hx]
  · rw [applySync_eq]
    exact syncClear_afterReceptionFreed (syncClear_resynced x.area _)
  · rw [applySync_eq, (afterReceptionFreed_log _).1, happlied]

/-- No demand is set where every covered area was annunciated; what was due to be annunciated is. -/
theorem applySync_annunciates : (AnnunciatesDue p → Quiets p (applySync r x p)) ∧
    ∀ b, dueAnnunciated p b = true → annunciated (applySync r x p) b = true :=
  ⟨fun h => (quiets_syncFreed hx).trans (quiets_afterReceptionFreed (annunciatesDue_syncFreed hx h)),
    fun b hb => annunciated_afterReceptionFreed ((due_syncFreed hx b).trans hb)⟩

section
variable (ha : inHome p x.area = true ∨ inStandby p x.area = true ∨ inWatch p x.area = true)
include ha

theorem applySync_figure : (loadOf (applySync r x p) x.area).toNat = max (loadOf p x.area).toNat x.load.toNat ∧
    (FloodFine p → floodRisen p (applySync r x p) x.area) ∧
    inFlood (applySync r x p) x.area = inFlood (replaced x p) x.area := by
  obtain ⟨hload, hflood⟩ := afterReceptionFreed_load (followed_syncFreed hx ha (followed_of_sets ha))
  have hldm := (syncFreed_frame r x p).2.2.1
  rw [← applySync_eq, loadOf_congr hldm] at hload
  rw [← applySync_eq, inFlood_congr hldm] at hflood
  refine ⟨by rw [hload, loadOf_replaced], fun h => ?_, hflood⟩
  have hrisen := (flood_replaced x h).1
  unfold floodRisen at hrisen ⊢
  rwa [hflood, hload]

theorem applySync_table (hb : Bounded (followed p) p) :
    (applySync r x p).atu.table = (replaceArea x.area x.releaser x.summaries p).atu.table := by
  obtain ⟨-, hatu, -⟩ := syncFreed_frame r x p
  have hreplaced := bounded_replaceArea hb (followed_of_sets ha) x.releaser x.summaries
  rw [applySync_eq, afterReceptionFreed_table, hatu]
  rw [hatu]
  exact fun e he => followed_syncFreed hx ha (hreplaced.1 e he).2

theorem findEntry_applySync (hb : Bounded (followed p) p) (t : Tag) :
    findEntry (applySync r x p) t = findEntry (replaceArea x.area x.releaser x.summaries p) t := by
  unfold findEntry
  rw [applySync_table hx ha hb]

/-- The entries, the indicators and the log, where the digest finds room (R18, R64, R136). -/
theorem applySync_entries (hb : Bounded (followed p) p) (hfine : TableFine p)
    (hdistinct : x.summaries.Pairwise fun y z => y.tag ≠ z.tag) (hroom : p.atu.table.length + x.summaries.length ≤ 512) :
    (∀ y ∈ x.summaries, findEntry (applySync r x p) y.tag =
      if tagArea p y.tag = some x.area then replaceLeaves p x.releaser x.area y (findEntry p y.tag)
      else findEntry p y.tag) ∧
    (∀ t, (∀ y ∈ x.summaries, y.tag ≠ t) → ∀ e, findEntry p t = some e →
      findEntry (applySync r x p) t = if e.area = x.area then none else some e) ∧
    Cuts p (applySync r x p) ∧
    (FloodFine p → inFlood p x.area = false → inFlood (applySync r x p) x.area = true → p.cnp.events.length < 64 →
      p.cnp.events ++ [{ kind := .floodOn, time := p.stc.seconds, area := some x.area }]
        <+: (applySync r x p).cnp.events) := by
  obtain ⟨hin, hout, hcnp, hcuts⟩ := replaceArea_entries (a := x.area) (x := x.releaser) hfine hdistinct hroom
  obtain ⟨-, hatu, -, hevents, -⟩ := syncFreed_frame r x p
  have hfind := findEntry_applySync hx ha hb
  have hafter := settles_afterReceptionFreed (syncFreed r x p)
  refine ⟨fun y hy => (hfind y.tag).trans (hin y hy), fun t ht e he => (hfind t).trans (hout t ht e he), ?_,
    fun h hcalm hflood hlog => ?_⟩
  · have hfreed : Cuts p (syncFreed r x p) :=
      ⟨by rw [hatu]; exact hcuts.overflow, by rw [hatu]; exact hcuts.clears⟩
    exact hfreed.trans hafter.cuts
  · rw [(applySync_figure hx ha).2.2] at hflood
    have hstored := (flood_replaced x h).2
    rw [if_pos ⟨hcalm, hflood⟩, hcnp] at hstored
    have hgrown := hafter.log
    rw [LogGrows, hevents, hstored, storing_events hlog, ← applySync_eq] at hgrown
    exact hgrown

end

end

end Sys2Proof.Machine
end


section
/-! PROOFS. Sync segments (R103, R105, R135, R136, O49): a segment dropped, a record opened, a segment stored, the digest applied,
the record freed. -/

namespace Sys2Proof.Machine

variable {p q : Part} {s : State} {t : Telegram} {d : DigestContent} {a b : Area} {r : Fin 4} {x : Reception} {y : StationNo}

/-! ## The part as a segment finds it, its record there -/

/-- From `p` a record was opened or fed: what an applied digest reads of `p` it reads in `q` too. -/
structure Primed (p q : Part) : Prop where
  stc : q.stc = p.stc
  cnp : q.cnp = p.cnp
  emergency : ∀ a, emergency q a = emergency p a
  cuts : Cuts p q
  due : ∀ a, dueAnnunciated q a = dueAnnunciated p a
  quiet : AnnunciatesDue p → Quiets p q ∧ AnnunciatesDue q
  keeps : Keeps p q
  table : FollowFine p → q.atu.table = p.atu.table
  figures : FollowFine p → ∀ a, loadOf q a = loadOf p a ∧ inFlood q a = inFlood p a

theorem Primed.refl (p : Part) : Primed p p :=
  ⟨rfl, rfl, fun _ => rfl, .refl p, fun _ => rfl, fun h => ⟨.refl p, h⟩, .refl p, fun _ => rfl, fun _ _ => ⟨rfl, rfl⟩⟩

theorem Primed.fed (h : Primed p q) {z : Reception} (hx : q.hou.receptions.get r = some x) (hz : z.area = x.area) :
    Primed p (setReception r (some z) q) where
  stc := h.stc
  cnp := h.cnp
  emergency := h.emergency
  cuts := ⟨h.cuts.overflow, h.cuts.clears⟩
  due := h.due
  quiet := fun hp => by
    obtain ⟨hquiet, hq⟩ := h.quiet hp
    exact ⟨hquiet.trans (quiets_of_anu rfl), hq⟩
  keeps := h.keeps.trans (grows_setReception hx hz).keeps
  table := h.table
  figures := h.figures

/-- A sync record opened in free record `r`: the follow set and the roles are judged. -/
def opened (r : Fin 4) (z : Reception) (p : Part) : Part := settleAreas (deriveHorn (createReception r z p))

theorem opened_frame (r : Fin 4) (z : Reception) (p : Part) : (opened r z p).stc = p.stc ∧ (opened r z p).lif = p.lif ∧
    (opened r z p).cnp = p.cnp ∧ (opened r z p).hou = { p.hou with
      nextSerial := p.hou.nextSerial + 1, receptions := setAt p.hou.receptions r (some z) } := by
  obtain ⟨hstc, hlif, -, hhou, hcnp⟩ := settleAreas_frame (deriveHorn (createReception r z p))
  exact ⟨hstc, hlif, hcnp, hhou⟩

theorem grows_createReception (hr : p.hou.receptions.get r = none) (z : Reception) :
    Grows p (deriveHorn (createReception r z p)) where
  settings := rfl
  station := id
  atu := rfl
  ldm := rfl
  holds := fun _ => id
  receptions := fun i w hw => by
    change ∃ y, (setAt p.hou.receptions r (some z)).get i = some y ∧ _
    rw [setAt_get]
    split
    · next hir => rw [hir, hr] at hw; cases hw
    · exact ⟨w, hw, rfl⟩

theorem followed_settleAreas (p : Part) (a : Area) : followed (settleAreas p) a = followed p a := by
  obtain ⟨hstc, -, -, haru, hhou, -⟩ := purgeUnfollowed_frame (refreshRoles p)
  rw [settleAreas, followed_congr hstc haru hhou, followed_refreshRoles]

theorem opened_figures (hr : p.hou.receptions.get r = none) (z : Reception) (h : FollowFine p) (a : Area) :
    loadOf (opened r z p) a = loadOf p a ∧ inFlood (opened r z p) a = inFlood p a := by
  have hmono := (grows_createReception hr z).followed a
  cases hf : followed (deriveHorn (createReception r z p)) a with
  | true => exact settleAreas_load hf
  | false =>
    have hkept : FollowFine (opened r z p) := 
      (loosens_of_frame rfl rfl rfl : Loosens p (deriveHorn (createReception r z p))).settled.follow h
    have hpurged : followed (opened r z p) a = false := by rw [opened, followed_settleAreas, hf]
    have hbefore : followed p a = false := by
      cases hp : followed p a with
      | false => rfl
      | true => rw [hmono hp] at hf; cases hf
    obtain ⟨-, hload, hflood⟩ := h.2.1 a hbefore
    obtain ⟨-, hload', hflood'⟩ := hkept.2.1 a hpurged
    rw [hload, hflood, hload', hflood']
    exact ⟨rfl, rfl⟩

theorem primed_opened (hr : p.hou.receptions.get r = none) (z : Reception) : Primed p (opened r z p) where
  stc := (opened_frame r z p).1
  cnp := (opened_frame r z p).2.2.1
  emergency := (settles_settleAreas (deriveHorn (createReception r z p))).emergency
  cuts := by
    have h := (settles_settleAreas (deriveHorn (createReception r z p))).cuts
    exact ⟨h.overflow, h.clears⟩
  due := due_settleAreas (deriveHorn (createReception r z p))
  quiet := fun h => by
    have hcreated : AnnunciatesDue (deriveHorn (createReception r z p)) := h
    have hquiet : Quiets p (deriveHorn (createReception r z p)) :=
      (quiets_of_anu rfl : Quiets p (createReception r z p)).trans (quiets_deriveHorn _)
    exact ⟨hquiet.trans (quiets_settleAreas hcreated), annunciatesDue_settleAreas _⟩
  keeps := (loosens_of_frame rfl rfl rfl : Loosens p (deriveHorn (createReception r z p))).settled
  table := fun h => settleAreas_table fun e he => (grows_createReception hr z).followed e.area (h.1 e he).2
  figures := opened_figures hr z

/-! ## The digest applied, as O49 has it -/

/-- What an applied sync digest of area `a` from station `y` leaves (R70, R103, R105, R136). -/
def syncApplied (p u : Part) (a : Area) (w : Word16) (y : StationNo) (ds : List Summary) : Prop :=
  (view u a).mismatch = 0 ∧ (view u a).resync = 0 ∧ (view u a).startup = false ∧
  (∀ e ∈ u.atu.table, e.area = a → ∃ z ∈ ds, z.tag = e.tag) ∧
  u.cnp.stats.resyncsApplied = p.cnp.stats.resyncsApplied + 1 ∧
  (FollowFine p → TableFine p → inHome p a = true ∨ inStandby p a = true ∨ inWatch p a = true →
    (loadOf u a).toNat = max (loadOf p a).toNat w.toNat ∧
    ((∀ b, annunciated u b = annunciated p b) →
      (u.anu.urgent = true → p.anu.urgent = true) ∧ (u.anu.routine = true → p.anu.routine = true) ∧
      u.anu.trip = p.anu.trip) ∧
    (FloodFine p → floodRisen p u a) ∧
    (ds.Pairwise (fun y z => y.tag ≠ z.tag) → p.atu.table.length + ds.length ≤ 512 →
      (∀ z ∈ ds, findEntry u z.tag =
        if tagArea p z.tag = some a then replaceLeaves p y a z (findEntry p z.tag) else findEntry p z.tag) ∧
      (∀ tag, (∀ z ∈ ds, z.tag ≠ tag) → ∀ e, findEntry p tag = some e →
        findEntry u tag = if e.area = a then none else some e) ∧
      (u.atu.table.length < p.atu.table.length → u.atu.table.length ≤ 448 → u.atu.overflow = 0) ∧
      (FloodFine p → inFlood p a = false → inFlood u a = true → p.cnp.events.length < 64 →
        p.cnp.events ++ [{ kind := .floodOn, time := p.stc.seconds, area := some a }] <+: u.cnp.events)))

theorem floodFine_of_figures (hs : q.stc = p.stc) (hf : ∀ a, loadOf q a = loadOf p a ∧ inFlood q a = inFlood p a)
    (h : FloodFine p) : FloodFine q := by
  unfold FloodFine at h ⊢
  simpa only [hs, fun a => (hf a).1, fun a => (hf a).2] using h

theorem syncApplied_applySync (h : Primed p q) (hx : q.hou.receptions.get r = some x) :
    syncApplied p (applySync r x q) x.area x.load x.releaser x.summaries := by
  obtain ⟨-, -, ⟨hmismatch, hresync, hstartup⟩, happlied⟩ := applySync_kept hx
  obtain ⟨hquiet, hdue⟩ := applySync_annunciates hx
  refine ⟨hmismatch, hresync, hstartup, fun e he ha => applySync_tags r he ha, by rw [happlied, h.cnp],
    fun hfollow hfine hsets => ?_⟩
  have hsets' : inHome q x.area = true ∨ inStandby q x.area = true ∨ inWatch q x.area = true := by
    unfold inHome inStandby inWatch at hsets ⊢
    rwa [h.stc]
  have hfigures := h.figures hfollow
  have htable := h.table hfollow
  obtain ⟨hload, hflood, -⟩ := applySync_figure hx hsets'
  have hfloodFine : FloodFine p → FloodFine q := floodFine_of_figures h.stc hfigures
  refine ⟨by rw [hload, (hfigures x.area).1], fun hsame => ?_, fun hf => ?_, fun hdistinct hroom => ?_⟩
  · have hready : AnnunciatesDue p := fun b hb => by
      rw [← hsame b]
      exact hdue b ((h.due b).trans hb)
    obtain ⟨hprimed, hq⟩ := h.quiet hready
    have hall := hprimed.trans (hquiet hq)
    exact ⟨hall.urgent, hall.routine, hall.trip⟩
  · have hrisen := hflood (hfloodFine hf)
    unfold floodRisen at hrisen ⊢
    rwa [(hfigures x.area).2, h.stc] at hrisen
  · have hb : Bounded (followed q) q := (followFine_iff.1 (h.keeps.follow hfollow)).1
    obtain ⟨hin, hout, hcuts, hlog⟩ := applySync_entries hx hsets' hb (h.keeps.table hfine) hdistinct (by rwa [htable])
    have hfind : ∀ tag, findEntry q tag = findEntry p tag := fun tag => by unfold findEntry; rw [htable]
    refine ⟨fun z hz => ?_, fun tag ht e he => hout tag ht e (by rwa [hfind]), (h.cuts.trans hcuts).clears,
      fun hf hcalm hrisen hroom => ?_⟩
    · rw [hin z hz, hfind, tagArea_congr h.stc, replaceLeaves_of_emergency h.stc h.emergency]
    · have hlogged := hlog (hfloodFine hf) ((hfigures x.area).2.trans hcalm) hrisen (by rw [h.cnp]; exact hroom)
      rwa [h.cnp, h.stc] at hlogged

/-! ## The segment's checks (R135) -/

theorem exec_takeSyncDigest (h : nextTelegram s.part t) (hp : t.payload = .digest d) (hn : d.number = 0) :
    Machine.exec .takeSyncDigest s =
      .next (s.withPart (popRing (if t.destination = 0 then applySyncDigest t.source d s.part else s.part))) := by
  have htaken : takenSyncDigest t s.part =
      some (if t.destination = 0 then applySyncDigest t.source d s.part else s.part) := by
    rw [takenSyncDigest, hp]
    simp only [if_pos hn]
    by_cases hd : t.destination = 0
    · rw [not_addressed_of hd, if_neg Bool.false_ne_true, if_pos hd]
    · rw [if_pos (addressed_of hd), if_neg hd]
  rw [← takeTelegram_eq h htaken]
  rfl

/-- The checks of R135 for a segment of a sync record. -/
def passesSyncChecks (x : Reception) (d : DigestContent) : Prop :=
  x.number = 0 ∧ d.load = x.load ∧ d.entryCount.toNat = x.entryCount ∧ d.index.toNat = x.nextIndex ∧
    (d.first = true ↔ d.index.toNat = 1) ∧ (d.last = true ↔ d.index.toNat = x.segmentCount) ∧
    x.received + d.summaries.length ≤ x.entryCount ∧ (d.last = true → x.received + d.summaries.length = x.entryCount)

theorem syncPasses_iff (hn : d.number = 0) : segmentPasses x d = true ∧ d.load = x.load ↔ passesSyncChecks x d := by
  rw [segmentPasses_iff, passesChecks, passesSyncChecks, hn, eq_comm (a := (0 : Byte))]
  tauto

theorem feedSync_stored (hx : q.hou.receptions.get r = some x) (hn : d.number = 0) (h : passesSyncChecks x d)
    (hl : d.last = false) : feedSync r d q = setReception r (some (storeSegment x d)) q := by
  simp [feedSync, hx, (syncPasses_iff hn).2 h, hl]

theorem feedSync_applied (hx : q.hou.receptions.get r = some x) (hn : d.number = 0) (h : passesSyncChecks x d)
    (hl : d.last = true) :
    feedSync r d q = applySync r (storeSegment x d) (setReception r (some (storeSegment x d)) q) := by
  simp [feedSync, hx, (syncPasses_iff hn).2 h, hl]

theorem feedSync_failed (hx : q.hou.receptions.get r = some x) (hn : d.number = 0) (h : ¬passesSyncChecks x d) :
    feedSync r d q = afterReceptionFreed (dropReception r q) := by
  have hfail := mt (syncPasses_iff hn).1 h
  simp only [feedSync, hx, if_neg hfail]

/-! ## A record freed that has no REPLY in the queue -/

theorem dropReception_unqueued (hx : p.hou.receptions.get r = some x) (hs : slotOfOwner (.reply r x.serial) p = none) :
    (dropReception r p).hou = { p.hou with receptions := setAt p.hou.receptions r none } ∧
      (dropReception r p).cnp = p.cnp := by
  have hslot : slotOfOwner (.reply r x.serial) (leaveWaiting (.reply r x.serial) p) = none := hs
  have hw : withdrawTelegram (.reply r x.serial) p = leaveWaiting (.reply r x.serial) p := by
    unfold withdrawTelegram
    simp only [hslot]
  rw [dropReception_eq hx, hw]
  exact ⟨rfl, rfl⟩

theorem freed_unqueued (hx : p.hou.receptions.get r = some x) (hs : slotOfOwner (.reply r x.serial) p = none) :
    (afterReceptionFreed (dropReception r p)).hou = { p.hou with receptions := setAt p.hou.receptions r none } ∧
      (afterReceptionFreed (dropReception r p)).cnp.stats = p.cnp.stats ∧
      onlyClaims p (afterReceptionFreed (dropReception r p)) := by
  obtain ⟨hhou, hcnp⟩ := dropReception_unqueued hx hs
  obtain ⟨hstats, hclaims⟩ := afterReceptionFreed_log (dropReception r p)
  refine ⟨by rw [afterReceptionFreed_hou, hhou], by rw [hstats, hcnp], ?_⟩
  exact (onlyClaims_of_cnp (by rw [hcnp])).trans hclaims

end Sys2Proof.Machine
end


section
/-! PROOFS. O49: the cases of a sync segment together (R103, R135, R136). -/

namespace Sys2Proof.Machine

variable {p q : Part} {s : State} {t : Telegram} {d : DigestContent} {a : Area} {r : Fin 4} {x : Reception} {y : StationNo}

/-! ## The cases of R135 -/

theorem syncFrom_some (h : syncFrom p y a = some r) (hx : p.hou.receptions.get r = some x) :
    x.releaser = y ∧ x.area = a := by
  have hfound := List.find?_some h
  simp only [hx, Bool.and_eq_true, decide_eq_true_eq] at hfound
  obtain ⟨⟨-, hreleaser⟩, harea⟩ := hfound
  exact ⟨hreleaser, harea⟩

theorem freeReceptionRecord_some (h : freeReceptionRecord p = some r) : p.hou.receptions.get r = none := by
  have hfound := List.find?_some h
  simpa using hfound

theorem maySync_iff : maySync p y d = true ↔ d.index = 1 ∧ d.first = true ∧ followed p d.area = true ∧
    holds p d.area = false ∧ (view p d.area).holder = y ∧ emergency p d.area = false ∧ receptionFor p d.area = none ∧
    (d.entryCount.toNat = 0 ∨ d.entryCount.toNat + storeReserved p ≤ 512) := by
  unfold maySync storeHasRoom
  simp only [Bool.and_eq_true, decide_eq_true_eq, Bool.not_eq_true', Option.isNone_iff_eq_none, Bool.or_eq_true, and_assoc]
  exact Iff.rfl

theorem applySyncDigest_record (h : syncFrom p y d.area = some r) : applySyncDigest y d p = feedSync r d p := by
  rw [applySyncDigest, h]

theorem applySyncDigest_dropped (h : syncFrom p y d.area = none)
    (hn : ¬(maySync p y d = true ∧ freeReceptionRecord p ≠ none)) : applySyncDigest y d p = p := by
  rw [applySyncDigest, h]
  cases hf : freeReceptionRecord p with
  | none => rfl
  | some r => exact if_neg fun hm => hn ⟨hm, by rw [hf]; exact nofun⟩

theorem applySyncDigest_opened (h : syncFrom p y d.area = none) (hf : freeReceptionRecord p = some r)
    (hm : maySync p y d = true) : applySyncDigest y d p = feedSync r d (opened r (syncReception p y d) p) := by
  rw [applySyncDigest, h, hf]
  exact if_pos hm

theorem syncReception_passes (hi : d.index = 1) (hf : d.first = true) : passesSyncChecks (syncReception p y d) d ↔
    (d.last = true ↔ max 1 ((d.entryCount.toNat + 7) / 8) = 1) ∧ d.summaries.length ≤ d.entryCount.toNat ∧
      (d.last = true → d.summaries.length = d.entryCount.toNat) := by
  have hsegments : (syncReception p y d).segmentCount = max 1 ((d.entryCount.toNat + 7) / 8) := rfl
  unfold passesSyncChecks
  rw [hsegments]
  simp only [syncReception, hi, hf, Nat.zero_add, true_and, true_iff, eq_comm (a := (1 : Byte).toNat)]
  exact ⟨fun ⟨_, _, hlast, hrest⟩ => ⟨hlast, hrest⟩, fun ⟨hlast, hrest⟩ => ⟨rfl, rfl, hlast, hrest⟩⟩

/-- The segment of a record that it opened, stored. -/
theorem storeSegment_syncReception (p : Part) (y : StationNo) (d : DigestContent) :
    storeSegment (syncReception p y d) d = { syncReception p y d with
      received := d.summaries.length, nextIndex := 2, gap := 5, summaries := d.summaries } := by
  simp [storeSegment, syncReception, Config.gapSeconds]

theorem opened_record (r : Fin 4) (x : Reception) (p : Part) : (opened r x p).hou.receptions.get r = some x := by
  rw [(opened_frame r x p).2.2.2, setAt_get_self]

theorem setAt_back {α : Type} {n : Nat} {v : Vector α n} {i : Fin n} {y : α} (x : α) (h : v.get i = y) :
    setAt (setAt v i x) i y = v := by
  rw [setAt_setAt]
  refine Vector.ext fun j hj => ?_
  change (setAt v i y).get ⟨j, hj⟩ = v.get ⟨j, hj⟩
  rw [setAt_get]
  split
  · next hji => rw [hji, h]
  · rfl

theorem syncApplied_popRing {w : Word16} {ds : List Summary} (h : syncApplied p q a w y ds) :
    syncApplied p (popRing q) a w y ds := h

/-! ## A first segment, its record opened -/

section
variable (hn : d.number = 0)
include hn

theorem opened_stored (hpass : passesSyncChecks (syncReception p y d) d) (hl : d.last = false) :
    ∃ q, feedSync r d (opened r (syncReception p y d) p) = q ∧ q.stc = p.stc ∧ q.lif = p.lif ∧ q.cnp = p.cnp ∧
      q.hou = { p.hou with
        nextSerial := p.hou.nextSerial + 1
        receptions := setAt p.hou.receptions r (some { syncReception p y d with
          received := d.summaries.length, nextIndex := 2, gap := 5, summaries := d.summaries }) } := by
  obtain ⟨hstc, hlif, hcnp, hhou⟩ := opened_frame r (syncReception p y d) p
  refine ⟨_, feedSync_stored (opened_record ..) hn hpass hl, ?_, ?_, ?_, ?_⟩
  · rw [setReception_stc, hstc]
  · rw [setReception_lif, hlif]
  · rw [setReception_cnp, hcnp]
  · rw [storeSegment_syncReception, setReception_hou, hhou, setAt_setAt]

theorem opened_applied (hr : p.hou.receptions.get r = none) (hpass : passesSyncChecks (syncReception p y d) d)
    (hl : d.last = true) : ∃ q, feedSync r d (opened r (syncReception p y d) p) = q ∧ q.stc = p.stc ∧
      (∀ i, q.hou.receptions.get i = none ↔ p.hou.receptions.get i = none) ∧
      syncApplied p q d.area d.load y d.summaries := by
  have hrecord := opened_record r (syncReception p y d) p
  have hprimed := primed_opened hr (syncReception p y d)
  have hfed := hprimed.fed (z := storeSegment (syncReception p y d) d) hrecord rfl
  have hx : (setReception r (some (storeSegment (syncReception p y d) d)) (opened r (syncReception p y d) p)).hou.receptions.get r =
      some (storeSegment (syncReception p y d) d) := by rw [setReception_hou, setAt_get_self]
  obtain ⟨hstc, hareas, -⟩ := applySync_kept hx
  have happlied := syncApplied_applySync hfed hx
  refine ⟨_, feedSync_applied hrecord hn hpass hl, by rw [hstc, setReception_stc, hprimed.stc], fun i => ?_, happlied⟩
  have harea := hareas i
  rw [setReception_hou, (opened_frame r (syncReception p y d) p).2.2.2, setAt_setAt, setAt_get] at harea
  rw [← Option.map_eq_none_iff (f := Reception.area), harea]
  split
  · next hi => rw [hi, hr]; simp
  · rw [Option.map_eq_none_iff]

theorem opened_failed (hr : p.hou.receptions.get r = none) (hpass : ¬passesSyncChecks (syncReception p y d) d)
    (hs : slotOfOwner (.reply r p.hou.nextSerial) p = none) : ∃ q, feedSync r d (opened r (syncReception p y d) p) = q ∧
      q.stc = p.stc ∧ q.hou = { p.hou with nextSerial := p.hou.nextSerial + 1 } ∧ q.cnp.stats = p.cnp.stats ∧
      onlyClaims p q := by
  have hrecord := opened_record r (syncReception p y d) p
  obtain ⟨hstc, hlif, hcnp, hhou⟩ := opened_frame r (syncReception p y d) p
  have hslot : slotOfOwner (.reply r (syncReception p y d).serial) (opened r (syncReception p y d) p) = none := by
    rw [← hs]
    unfold slotOfOwner
    rw [hlif]
    rfl
  obtain ⟨hfreed, hstats, hclaims⟩ := freed_unqueued hrecord hslot
  refine ⟨_, feedSync_failed hrecord hn hpass, ?_, ?_, by rw [hstats, hcnp], (onlyClaims_of_cnp (by rw [hcnp])).trans hclaims⟩
  · rw [(afterReceptionFreed_frame _).1, (dropReception_frame _ r).1, hstc]
  · rw [hfreed, hhou]
    simp only
    rw [setAt_back _ hr]

/-! ## A segment of a record -/

theorem record_applied (hx : p.hou.receptions.get r = some x) (hpass : passesSyncChecks x d) (hl : d.last = true) :
    ∃ q, feedSync r d p = q ∧ q.stc = p.stc ∧ q.hou.receptions.get r = none ∧
      syncApplied p q x.area x.load x.releaser (x.summaries ++ d.summaries) := by
  have hfed := (Primed.refl p).fed (z := storeSegment x d) hx rfl
  have hx' : (setReception r (some (storeSegment x d)) p).hou.receptions.get r = some (storeSegment x d) := by
    rw [setReception_hou, setAt_get_self]
  obtain ⟨hstc, hareas, -⟩ := applySync_kept hx'
  have happlied := syncApplied_applySync hfed hx'
  refine ⟨_, feedSync_applied hx hn hpass hl, hstc, ?_, happlied⟩
  have harea := hareas r
  rwa [if_pos rfl, Option.map_eq_none_iff] at harea

theorem record_failed (hx : p.hou.receptions.get r = some x) (hpass : ¬passesSyncChecks x d) :
    ∃ q, feedSync r d p = q ∧ q.stc = p.stc ∧ q.hou.receptions.get r = none ∧
      q.cnp.stats.resyncsApplied = p.cnp.stats.resyncsApplied ∧
      (slotOfOwner (.reply r x.serial) p = none →
        q.hou = { p.hou with receptions := setAt p.hou.receptions r none } ∧ q.cnp.stats = p.cnp.stats ∧ onlyClaims p q) := by
  refine ⟨_, feedSync_failed hx hn hpass, ?_, ?_, ?_, freed_unqueued hx⟩
  · rw [(afterReceptionFreed_frame _).1, (dropReception_frame _ r).1]
  · rw [afterReceptionFreed_hou, dropReception_get]
  · rw [(afterReceptionFreed_log _).1, dropReception_resyncsApplied]

end

end Sys2Proof.Machine

open Sys2Proof.Machine in
/-- Settles O49: a record opened (`opened_applied` and its like), a segment of a record stored, applied (`record_applied`) or
refused (`record_failed`). -/
theorem syncSegmentReplacesEntries : Obligations.SyncSegmentReplacesEntries := by
  intro s t d h hp hn
  have hexec := exec_takeSyncDigest h hp hn
  have hpop : ∀ q : Part, q.lif = s.part.lif →
      popRing q = { q with lif := s.part.lif.taken (encodeTelegram t).length } := fun q => popRing_of_nextTelegram h
  refine ⟨fun hdrop => ?_, fun hd hfrom hcreate => ?_, fun r x hd hfrom hx => ?_⟩
  · rw [hexec]
    rcases hdrop with hd | ⟨hfrom, hnot⟩
    · rw [if_neg hd, hpop s.part rfl]
    · have hdropped := applySyncDigest_dropped hfrom fun ⟨hm, hf⟩ => hnot (by
        obtain ⟨h1, h2, h3, h4, h5, h6, h7, h8⟩ := maySync_iff.1 hm
        exact ⟨h1, h2, h3, h4, h5, h6, h7, hf, h8⟩)
      rw [hdropped, ite_self, hpop s.part rfl]
  · obtain ⟨hindex, hfirst, hfollowed, hnotHeld, hholder, hnormal, hnone, hfree, hroom⟩ := hcreate
    obtain ⟨r, hr⟩ := Option.ne_none_iff_exists'.1 hfree
    have hget := freeReceptionRecord_some hr
    have hm := maySync_iff.2 ⟨hindex, hfirst, hfollowed, hnotHeld, hholder, hnormal, hnone, hroom⟩
    rw [if_pos hd, applySyncDigest_opened hfrom hr hm] at hexec
    have hpasses := syncReception_passes (p := s.part) (y := t.source) hindex hfirst
    refine ⟨fun hlast hsegments hlength => ?_, fun hlast hsegments hlength => ?_, fun hfail hslot => ?_⟩
    · have hpass := hpasses.2 ⟨by simp [hlast, hsegments], hlength, by simp [hlast]⟩
      obtain ⟨q, hq, hstc, hlif, hcnp, hhou⟩ := opened_stored (r := r) hn hpass hlast
      rw [hq, hpop q hlif] at hexec
      exact ⟨_, r, hexec, rfl, hstc, hget, congrArg Cnp.stats hcnp, rfl, hhou⟩
    · have hpass := hpasses.2 ⟨by simp [hlast, hsegments], Nat.le_of_eq hlength, fun _ => hlength⟩
      obtain ⟨q, hq, hstc, hrecords, happlied⟩ := opened_applied hn hget hpass hlast
      rw [hq] at hexec
      exact ⟨_, hexec, hstc, hrecords, syncApplied_popRing happlied⟩
    · have hnpass : ¬passesSyncChecks (syncReception s.part t.source d) d := fun hpass => by
        obtain ⟨hlast, hlength, hall⟩ := hpasses.1 hpass
        rcases hfail with hf | hf | ⟨hl, hne⟩
        · exact iff_not_self (hlast.symm.trans hf)
        · omega
        · exact hne (hall hl)
      obtain ⟨q, hq, hstc, hhou, hstats, hclaims⟩ := opened_failed hn hget hnpass (hslot r)
      rw [hq] at hexec
      exact ⟨_, hexec, hstc, hhou, hstats, hclaims⟩
  · obtain ⟨hreleaser, harea⟩ := syncFrom_some hfrom hx
    rw [if_pos hd, applySyncDigest_record hfrom] at hexec
    refine ⟨fun hpass hlast => ?_, fun hpass hlast => ?_, fun hfail => ?_⟩
    · rw [hexec, feedSync_stored hx hn hpass hlast, hpop (setReception r (some (storeSegment x d)) s.part) rfl]
      rfl
    · obtain ⟨q, hq, hstc, hfreed, happlied⟩ := record_applied hn hx hpass hlast
      have hload : d.load = x.load := hpass.2.1
      rw [hq] at hexec
      rw [harea, hreleaser, ← hload] at happlied
      exact ⟨_, hexec, hstc, hfreed, syncApplied_popRing happlied⟩
    · obtain ⟨q, hq, hstc, hfreed, hstats, hclaims⟩ := record_failed hn hx hfail
      rw [hq] at hexec
      exact ⟨_, hexec, hstc, hfreed, hstats, hclaims⟩
end


section
/-! PROOFS. The records of the reports, byte for byte (section 12, R165 to R168). -/

namespace Sys2Proof.Machine

variable {p : Part} {a : Area} {e : Entry}

/-! ## Numbers as bytes -/

theorem extractByte_ofNat {w : Nat} (n k : Nat) (h : k + 8 ≤ w) :
    (BitVec.ofNat w n).extractLsb' k 8 = BitVec.ofNat 8 (n / 2 ^ k) := by
  apply BitVec.eq_of_toNat_eq
  rw [BitVec.extractLsb'_toNat, BitVec.toNat_ofNat, BitVec.toNat_ofNat, Nat.shiftRight_eq_div_pow]
  have hsplit : 2 ^ w = 2 ^ k * 2 ^ (w - k) := by rw [← Nat.pow_add]; congr 1; omega
  have hdvd : 2 ^ 8 ∣ 2 ^ (w - k) := Nat.pow_dvd_pow 2 (by omega)
  rw [hsplit, Nat.mod_mul_right_div_self, Nat.mod_mod_of_dvd _ hdvd]

theorem laid_nil : laid [] = [] := rfl

theorem laid_append (xs ys : List (Nat × Nat)) : laid (xs ++ ys) = laid xs ++ laid ys := List.flatMap_append

theorem laid_one (n : Nat) (xs : List (Nat × Nat)) : laid ((1, n) :: xs) = nat8 n :: laid xs := by
  simp [laid, nat8, List.range_succ]

theorem laid_two (n : Nat) (xs : List (Nat × Nat)) : laid ((2, n) :: xs) = nat16 n ++ laid xs := by
  simp [laid, nat16, be16, List.range_succ, extractByte_ofNat]

theorem laid_three (n : Nat) (xs : List (Nat × Nat)) : laid ((3, n) :: xs) = be24 (BitVec.ofNat 24 n) ++ laid xs := by
  simp [laid, be24, List.range_succ, extractByte_ofNat]

theorem laid_four (n : Nat) (xs : List (Nat × Nat)) : laid ((4, n) :: xs) = be32 (BitVec.ofNat 32 n) ++ laid xs := by
  simp [laid, be32, List.range_succ, extractByte_ofNat]

theorem laid_length (xs : List (Nat × Nat)) : (laid xs).length = (xs.map Prod.fst).sum := by
  induction xs with
  | nil => rfl
  | cons x xs ih => rw [List.map_cons, List.sum_cons, ← ih]; simp [laid]

theorem nat8_toNat {w : Nat} (x : BitVec w) : nat8 x.toNat = x.setWidth 8 := BitVec.ofNat_toNat 8 x

theorem nat8_byte (x : Byte) : nat8 x.toNat = x := by rw [nat8_toNat, BitVec.setWidth_eq]

theorem nat16_word (x : Word16) : nat16 x.toNat = be16 x := by rw [nat16, BitVec.ofNat_toNat, BitVec.setWidth_eq]

theorem be24_ofNat (x : Credential) : be24 (BitVec.ofNat 24 x.toNat) = be24 x := by rw [BitVec.ofNat_toNat, BitVec.setWidth_eq]

theorem be32_ofNat (x : BitVec 32) : be32 (BitVec.ofNat 32 x.toNat) = be32 x := by rw [BitVec.ofNat_toNat, BitVec.setWidth_eq]

theorem areaByte_eq (a : Area) : areaByte a = nat8 a.val := rfl

/-- An optional number is 0 when it is absent. -/
theorem orZero_eq {w : Nat} (x : Option (BitVec w)) : orZero x = BitVec.ofNat w ((x.map BitVec.toNat).getD 0) := by
  cases x with
  | none => rfl
  | some c => rw [Option.map_some, Option.getD_some, BitVec.ofNat_toNat, BitVec.setWidth_eq]; rfl

theorem orZero_toNat {w : Nat} (x : Option (BitVec w)) : (orZero x).toNat = (x.map BitVec.toNat).getD 0 := by
  cases x <;> simp [orZero]

/-! ## Named values and tag words -/

theorem tagWord_toNat (t : Tag) (x : Priority) (b c : Bool) :
    (tagWord t (priorityCode x) b c).toNat = tagNumber t x b c := by
  have hcode : (BitVec.ofBool c ++ BitVec.ofBool b ++ priorityCode x).toNat =
      [Priority.p1, .p2, .p3, .p4].idxOf x + 4 * b.toNat + 8 * c.toNat := by
    cases x <;> cases b <;> cases c <;> decide
  rw [tagWord, BitVec.toNat_append, ← Nat.shiftLeft_add_eq_or_of_lt t.isLt, hcode, Nat.shiftLeft_eq, tagNumber]
  omega

theorem be16_tagWord (t : Tag) (x : Priority) (b c : Bool) :
    be16 (tagWord t (priorityCode x) b c) = nat16 (tagNumber t x b c) := by rw [← tagWord_toNat, nat16_word]

theorem stateCodeOf_eq (e : Entry) : stateCodeOf e =
    (((entryState e).map fun x => [EntryState.alerting, .standing, .returned, .shelved].idxOf x).getD 0) := by
  unfold stateCodeOf
  cases entryState e with
  | none => rfl
  | some x => cases x <;> rfl

theorem transferKindCode_eq (x : TransferKind) : transferKindCode x = [TransferKind.handover, .sync].idxOf x := by
  cases x <;> rfl

theorem offerStateCode_eq (x : OfferState) : offerStateCode x = [OfferState.sending, .offered, .releasing].idxOf x := by
  cases x <;> rfl

theorem receptionStateCode_eq (x : ReceptionState) :
    receptionStateCode x = [ReceptionState.receiving, .review, .accepted].idxOf x := by cases x <;> rfl

theorem txMarkCode_eq (x : TxMark) : txMarkCode x = [TxMark.none, .owed, .queued, .sending].idxOf x := by cases x <;> rfl

theorem syncMarkCode_eq (x : SyncMark) : syncMarkCode x = [SyncMark.none, .owed, .queued].idxOf x := by cases x <;> rfl

theorem roleCode_eq (x : Role) : roleCode x = [Role.none, .watch, .cover, .hold].idxOf x := by cases x <;> rfl

theorem lampCode_eq (x : LampPattern) : lampCode x = [LampPattern.off, .steady, .slow, .fast, .flicker].idxOf x := by
  cases x <;> rfl

theorem eventKindCode_eq (x : EventKind) : eventKindCode x = kindsInOrder.idxOf x + 1 := by cases x <;> rfl

theorem flag_eq (b : Bool) : flag b = b.toNat := by cases b <;> rfl

/-! ## The entry record and the summary -/

/-- The entry record with its shelf's fields, 0 without a shelf. -/
theorem entryBytes_eq (e : Entry) : entryBytes e =
    be16 (tagWord e.tag (priorityCode e.priority) e.active e.acknowledged)
      ++ [areaByte e.area, nat8 (stateCodeOf e + 16 * bitsNumber [e.quiet, e.shelf.isSome, e.ackCredential.isSome]),
          e.occurrence]
      ++ be24 (orZero e.ackCredential)
      ++ (nat16 ((e.shelf.map Shelf.seconds).getD 0)
        ++ be24 (BitVec.ofNat 24 ((e.shelf.map fun x => x.credential.toNat).getD 0))
        ++ [nat8 ((e.shelf.map fun x => x.station.toNat).getD 0)])
      ++ be32 e.firstRaised ++ be32 e.lastChange := by
  unfold entryBytes
  cases e.shelf with
  | none => rfl
  | some x => simp only [Option.map_some, Option.getD_some, be24_ofNat, nat8_toNat]

theorem entryFlags_eq (e : Entry) : stateCodeOf e + 16 * bitsNumber [e.quiet, e.shelf.isSome, e.ackCredential.isSome] =
    (((entryState e).map fun x => [EntryState.alerting, .standing, .returned, .shelved].idxOf x).getD 0) +
      (16 * e.quiet.toNat + 32 * e.shelf.isSome.toNat + 64 * e.ackCredential.isSome.toNat) := by
  simp only [stateCodeOf_eq, bitsNumber, flag_eq]
  omega

theorem entryBytes_laid (e : Entry) : entryBytes e = laid (entryLayout e) := by
  unfold entryLayout
  rw [entryBytes_eq]
  simp only [laid_one, laid_two, laid_three, laid_four, laid_nil, nat8_byte, be32_ofNat, be16_tagWord, orZero_eq, areaByte_eq,
    entryFlags_eq, List.append_assoc, List.cons_append, List.nil_append, List.append_nil]

theorem summaryBytes_laid (d : Summary) : summaryBytes d = laid (summaryLayout d) := by
  unfold summaryBytes summaryLayout
  simp only [laid_one, laid_two, laid_nil, be16_tagWord, nat8_byte, nat16_word, List.append_nil, List.append_assoc,
    List.cons_append, List.nil_append]

theorem receptionBytes_laid (r : Fin 4) (x : Reception) : receptionBytes r x = laid (receptionLayout r x) := by
  unfold receptionBytes receptionLayout
  simp only [laid_one, laid_two, laid_three, laid_nil, nat8_toNat, nat16_word, be24_ofNat, BitVec.setWidth_eq,
    transferKindCode_eq, receptionStateCode_eq, txMarkCode_eq, List.append_assoc, List.cons_append, List.nil_append]

/-! ## The event record -/

theorem reasonCode_eq {k : EventKind} {r : Reason} (h : (∃ c, r = .result c) ∨ (∃ x, r = .reply x) ∨ r ∈ reasonsOf k) :
    reasonCode k r = reasonNumber k r := by
  rcases h with ⟨c, rfl⟩ | ⟨x, rfl⟩ | h
  · cases c <;> rfl
  · cases x <;> rfl
  · have hlisted : ∀ r ∈ reasonsOf k, reasonCode k r = reasonNumber k r := by cases k <;> decide
    exact hlisted r h

/-- The area byte of an event, as its layout has it. -/
theorem eventLayout_eq (e : Event) : ∃ n, eventArea e = nat8 n ∧ eventLayout e =
    [(1, kindsInOrder.idxOf e.kind + 1),
     (1, 128 * e.lost.toNat + 64 * e.area.isSome.toNat + 32 * e.tag.isSome.toNat + 16 * e.station.isSome.toNat
        + 8 * e.reason.isSome.toNat),
     (4, e.time.toNat), (1, n), (2, (e.tag.map BitVec.toNat).getD 0), (1, (e.station.map BitVec.toNat).getD 0),
     (1, (e.reason.map (reasonNumber e.kind)).getD 0)] := by
  unfold eventArea eventLayout
  cases e.area with
  | some a => exact ⟨_, rfl, rfl⟩
  | none =>
    cases e.state with
    | none => exact ⟨_, rfl, rfl⟩
    | some x =>
      refine ⟨_, ?_, rfl⟩
      cases x <;> rfl

theorem eventBytes_laid {e : Event} (h : reasonFits e) : eventBytes e = laid (eventLayout e) := by
  have hreason : reasonByte e = nat8 ((e.reason.map (reasonNumber e.kind)).getD 0) := by
    unfold reasonByte
    cases hr : e.reason with
    | none => rfl
    | some x => exact congrArg nat8 (reasonCode_eq (h x hr))
  have hflags : 8 * bitsNumber [e.reason.isSome, e.station.isSome, e.tag.isSome, e.area.isSome, e.lost] =
      128 * e.lost.toNat + 64 * e.area.isSome.toNat + 32 * e.tag.isSome.toNat + 16 * e.station.isSome.toNat
        + 8 * e.reason.isSome.toNat := by
    simp only [bitsNumber, flag_eq]
    omega
  have htag : be16 ((orZero e.tag).setWidth 16) = nat16 ((e.tag.map BitVec.toNat).getD 0) := by
    rw [← orZero_toNat, nat16, BitVec.ofNat_toNat]
  have hstation : (orZero e.station).setWidth 8 = nat8 ((e.station.map BitVec.toNat).getD 0) := by
    rw [← orZero_toNat, nat8_toNat]
  obtain ⟨n, harea, hlayout⟩ := eventLayout_eq e
  rw [hlayout, eventBytes, harea, hreason, hflags, htag, hstation]
  simp only [laid_one, laid_two, laid_four, laid_nil, be32_ofNat, eventKindCode_eq, List.append_assoc, List.cons_append,
    List.nil_append]

end Sys2Proof.Machine
end


section
/-! PROOFS. The area record (R166, section 12.2): the signature and the window set as numbers, the records' bytes, and the layout
whole. -/

namespace Sys2Proof.Machine

variable {p : Part} {a : Area} {e : Entry}

/-! ## Sums (R20) -/

theorem contribution_eq (e : Entry) : contribution e =
    BitVec.ofNat 16 (e.tag.toNat * 256 + e.occurrence.toNat + 16384 * e.active.toNat + 32768 * e.acknowledged.toNat) := by
  unfold contribution
  cases e.active <;> cases e.acknowledged <;> rfl

theorem foldl_add_toNat (l : List Word16) (x : Word16) :
    (l.foldl (· + ·) x).toNat = (x.toNat + (l.map BitVec.toNat).sum) % 65536 := by
  induction l generalizing x with
  | nil => simpa using (Nat.mod_eq_of_lt x.isLt).symm
  | cons y ys ih =>
    rw [List.foldl_cons, ih, BitVec.toNat_add, List.map_cons, List.sum_cons]
    omega

theorem sum_mod (l : List Nat) : (l.map fun n => n % 65536).sum % 65536 = l.sum % 65536 := by
  induction l with
  | nil => rfl
  | cons n ns ih => rw [List.map_cons, List.sum_cons, List.sum_cons]; omega

theorem areaSignature_toNat (p : Part) (a : Area) : (areaSignature p a).toNat =
    ((p.atu.table.filter fun e => decide (e.area = a)).map fun e =>
      e.tag.toNat * 256 + e.occurrence.toNat + 16384 * e.active.toNat + 32768 * e.acknowledged.toNat).sum % 65536 := by
  have hmap : ((areaEntries p a).map contribution).map BitVec.toNat = ((areaEntries p a).map fun e =>
      e.tag.toNat * 256 + e.occurrence.toNat + 16384 * e.active.toNat + 32768 * e.acknowledged.toNat).map fun n => n % 65536 := by
    rw [List.map_map, List.map_map]
    refine List.map_congr_left fun e _ => ?_
    rw [Function.comp_apply, contribution_eq, BitVec.toNat_ofNat]
    rfl
  rw [areaSignature, foldl_add_toNat, hmap, show (0 : Word16).toNat = 0 from rfl, Nat.zero_add, sum_mod]
  rfl

theorem areaCount_eq (p : Part) (a : Area) : areaCount p a = p.atu.table.countP fun e => decide (e.area = a) :=
  (List.countP_eq_length_filter ..).symm

/-! ## The window set -/

/-- The set bits below `k` of a 32-bit number. -/
def bitsBelow (k : Nat) (f : Fin k → Bool) : BitVec 32 :=
  (List.finRange k).foldl (fun x n => if f n then x ||| (1#32 <<< n.val) else x) 0

theorem bitsBelow_toNat (k : Nat) (hk : k ≤ 32) (f : Fin k → Bool) :
    (bitsBelow k f).toNat = ((List.finRange k).map fun n => (f n).toNat * 2 ^ n.val).sum ∧ (bitsBelow k f).toNat < 2 ^ k := by
  induction k with
  | zero => exact ⟨rfl, Nat.one_pos⟩
  | succ k ih =>
    obtain ⟨hsum, hlt⟩ := ih (by omega) fun n => f n.castSucc
    have hsplit : bitsBelow (k + 1) f = if f (Fin.last k) then bitsBelow k (fun n => f n.castSucc) ||| (1#32 <<< k)
        else bitsBelow k (fun n => f n.castSucc) := by
      rw [bitsBelow, List.finRange_succ_last, List.foldl_append, List.foldl_map]
      rfl
    have hbit : (1#32 <<< k).toNat = 2 ^ k := by
      have hpow : 2 ^ k < 2 ^ 32 := Nat.pow_lt_pow_right (by decide) hk
      rw [BitVec.toNat_shiftLeft, BitVec.toNat_ofNat, Nat.shiftLeft_eq]
      omega
    rw [hsplit, List.finRange_succ_last, List.map_append, List.map_map, List.sum_append]
    simp only [Function.comp_def, Fin.val_castSucc, ← hsum, List.map_cons, List.map_nil, List.sum_cons, List.sum_nil,
      Fin.val_last, Nat.pow_succ]
    cases f (Fin.last k) with
    | false => simp; omega
    | true =>
      have hor := Nat.two_pow_add_eq_or_of_lt hlt 1
      rw [Nat.mul_one, Nat.or_comm] at hor
      simp only [if_true, BitVec.toNat_or, hbit, Bool.toNat_true, ← hor]
      omega

theorem windowSet_eq (p : Part) (a : Area) : windowSet p a = BitVec.ofNat 32 ((List.finRange 32).map fun n =>
    ((p.stc.settings.windows.get n).enabled && decide ((p.stc.settings.windows.get n).area.toNat = a.val)).toNat
      * 2 ^ n.val).sum := by
  have h := (bitsBelow_toNat 32 (Nat.le_refl _) fun n =>
    (p.stc.settings.windows.get n).enabled && decide ((p.stc.settings.windows.get n).area.toNat = a.val)).1
  rw [← h, BitVec.ofNat_toNat, BitVec.setWidth_eq]
  rfl

/-! ## The offer and reception records of the area -/

/-- The fields of the area's offer record, or their fillers. -/
def offerFields : Option (Fin 4 × Offer) → List (Nat × Nat)
  | none => [(1, 255), (10, 0)]
  | some (r, o) =>
    [(1, r.val), (1, [TransferKind.handover, .sync].idxOf o.kind),
     (1, [OfferState.sending, .offered, .releasing].idxOf o.state), (1, o.target.toNat), (1, o.number.toNat),
     (2, o.entryCount), (1, o.segmentCount), (1, o.nextIndex), (2, o.replyTimer)]

/-- The fields of the area's reception record, or their fillers. -/
def receptionFields : Option (Fin 4 × Reception) → List (Nat × Nat)
  | none => [(1, 255), (2, 0)]
  | some (r, x) =>
    [(1, r.val), (1, [TransferKind.handover, .sync].idxOf x.kind),
     (1, [ReceptionState.receiving, .review, .accepted].idxOf x.state)]

/-- What the area's offer record latched, or fillers. -/
def offerLatched : Option Offer → List (Nat × Nat)
  | none => [(8, 0)]
  | some o =>
    [(2, o.load.toNat), (2, o.signature.toNat), (3, o.credential.toNat),
     (1, [TxMark.none, .owed, .queued, .sending].idxOf o.mark)]

/-- The area's offer record with its number. -/
def numberedOffer (p : Part) (a : Area) : Option (Fin 4 × Offer) :=
  (offerFor p a).bind fun r => (p.hou.offers.get r).map fun o => (r, o)

/-- The area's reception record with its number. -/
def numberedReception (p : Part) (a : Area) : Option (Fin 4 × Reception) :=
  (receptionFor p a).bind fun r => (p.hou.receptions.get r).map fun x => (r, x)

theorem offerRecordBytes_laid (p : Part) (a : Area) : offerRecordBytes p a =
    (laid (offerFields (numberedOffer p a)), laid (offerLatched ((offerFor p a).bind p.hou.offers.get))) := by
  unfold offerRecordBytes numberedOffer
  cases offerFor p a with
  | none => rfl
  | some r =>
    simp only [Option.bind_some]
    cases p.hou.offers.get r with
    | none => rfl
    | some o =>
      simp only [Option.map_some, offerFields, offerLatched, laid_one, laid_two, laid_three, laid_nil, nat8_toNat, nat16_word,
        be24_ofNat, BitVec.setWidth_eq, transferKindCode_eq, offerStateCode_eq, txMarkCode_eq, List.append_assoc,
        List.cons_append, List.nil_append, List.append_nil]

theorem receptionRecordBytes_laid (p : Part) (a : Area) :
    receptionRecordBytes p a = laid (receptionFields (numberedReception p a)) := by
  unfold receptionRecordBytes numberedReception
  cases receptionFor p a with
  | none => rfl
  | some r =>
    simp only [Option.bind_some]
    cases p.hou.receptions.get r with
    | none => rfl
    | some x =>
      simp only [Option.map_some, receptionFields, laid_one, laid_nil, transferKindCode_eq, receptionStateCode_eq]

/-! ## The area record whole -/

/-- The first 32 bytes of the area record. -/
def areaFields (p : Part) (a : Area) : List (Nat × Nat) :=
  let v := view p a
  let held := holds p a
  [(1, a.val),
   (1, [Role.none, .watch, .cover, .hold].idxOf v.role + 4 * held.toNat
      + 8 * (held && p.ssu.session.isSome).toNat + 16 * (decide (v.holder = 0) && !held).toNat
      + 32 * v.relinquished.toNat + 64 * v.emergency.toNat + 128 * v.startup.toNat),
   (1, v.holder.toNat),
   (1, 128 * v.attended.toNat + 64 * v.holderEmergency.toNat + 32 * v.holderFlood.toNat + v.holderPeriod.toNat),
   (2, v.holderCount.toNat), (2, v.holderSignature.toNat), (2, v.holderLoad.toNat), (1, v.age), (1, v.mismatch),
   (1, [SyncMark.none, .owed, .queued].idxOf v.syncMark), (1, v.resync), (1, v.claimDelay),
   (3, ((p.aru.stations.find? fun h => decide (h.station = v.holder)).map fun h => h.credential.toNat).getD 0),
   (1, (p.stc.settings.required.get a).toNat), (2, areaCount p a), (2, (areaSignature p a).toNat),
   (1, (AreaSet.has p.atu.overflow a).toNat), (2, (p.ldm.load.get a).toNat), (1, (AreaSet.has p.ldm.flood a).toNat),
   (1, [LampPattern.off, .steady, .slow, .fast, .flicker].idxOf (areaLamp p a)),
   (4, ((List.finRange 32).map fun n =>
      let w := p.stc.settings.windows.get n
      (w.enabled && decide (w.area.toNat = a.val)).toNat * 2 ^ n.val).sum)]

theorem areaLayout_eq (p : Part) (a : Area) : areaLayout p a = areaFields p a ++ offerFields (numberedOffer p a)
    ++ receptionFields (numberedReception p a) ++ offerLatched ((offerFor p a).bind p.hou.offers.get) := rfl

theorem areaLayout_length (p : Part) (a : Area) : (laid (areaLayout p a)).length = 54 := by
  have hoffer : ∀ o, (laid (offerFields o)).length = 11 := fun o => by cases o <;> rw [laid_length] <;> rfl
  have hreception : ∀ x, (laid (receptionFields x)).length = 3 := fun x => by cases x <;> rw [laid_length] <;> rfl
  have hlatched : ∀ o, (laid (offerLatched o)).length = 8 := fun o => by cases o <;> rw [laid_length] <;> rfl
  have hfields : (laid (areaFields p a)).length = 32 := by
    simp only [laid_length, areaFields, List.map_cons, List.map_nil, List.sum_cons, List.sum_nil, Nat.reduceAdd]
  rw [areaLayout_eq, laid_append, laid_append, laid_append]
  simp only [List.length_append, hoffer, hreception, hlatched, hfields]

theorem heardCredential_eq (p : Part) (x : StationNo) : be24 (heardCredential p x) = be24 (BitVec.ofNat 24
    (((p.aru.stations.find? fun h => decide (h.station = x)).map fun h => h.credential.toNat).getD 0)) := by
  unfold heardCredential heardRecord
  cases p.aru.stations.find? fun h => decide (h.station = x) with
  | none => rfl
  | some h => rw [Option.map_some, Option.getD_some, be24_ofNat]

/-- The role byte of the area record. -/
theorem roleFlags_eq (p : Part) (a : Area) : roleCode (view p a).role + 4 * bitsNumber [holds p a,
      holds p a && sessionActive p, orphaned p a, (view p a).relinquished, (view p a).emergency, (view p a).startup] =
    [Role.none, .watch, .cover, .hold].idxOf (view p a).role + 4 * (holds p a).toNat
      + 8 * (holds p a && p.ssu.session.isSome).toNat + 16 * (decide ((view p a).holder = 0) && !holds p a).toNat
      + 32 * (view p a).relinquished.toNat + 64 * (view p a).emergency.toNat + 128 * (view p a).startup.toNat := by
  simp only [bitsNumber, flag_eq, roleCode_eq, sessionActive, orphaned]
  omega

/-- The holder byte of the area record. -/
theorem holderFlags_eq (v : View) : v.holderPeriod.toNat + 32 * bitsNumber [v.holderFlood, v.holderEmergency, v.attended] =
    128 * v.attended.toNat + 64 * v.holderEmergency.toNat + 32 * v.holderFlood.toNat + v.holderPeriod.toNat := by
  simp only [bitsNumber, flag_eq]
  omega

theorem areaBytes_laid (p : Part) (a : Area) : areaBytes p a = laid (areaLayout p a) := by
  have hwindows : be32 (windowSet p a) = be32 (BitVec.ofNat 32 ((List.finRange 32).map fun n =>
      ((p.stc.settings.windows.get n).enabled && decide ((p.stc.settings.windows.get n).area.toNat = a.val)).toNat
        * 2 ^ n.val).sum) := by rw [windowSet_eq]
  rw [areaLayout_eq, laid_append, laid_append, laid_append, ← receptionRecordBytes_laid]
  unfold areaBytes areaFields
  simp only
  rw [offerRecordBytes_laid, roleFlags_eq, holderFlags_eq, heardCredential_eq, hwindows]
  simp only [laid_one, laid_two, laid_three, laid_four, laid_nil, nat8_toNat, nat16_word, BitVec.setWidth_eq, areaByte_eq,
    syncMarkCode_eq, lampCode_eq, flag_eq, loadOf, inFlood, List.append_assoc, List.cons_append, List.nil_append,
    List.append_nil]

end Sys2Proof.Machine
end


section
/-! PROOFS. READ-ENTRY, READ-LIST, READ-AREA and READ-RECEPTION served (R165, R166, O12). -/

namespace Sys2Proof.Machine

variable {p : Part} {s : State} {a : Area}

/-! ## The parameters read (R163) -/

theorem word16_toNat (x y : Byte) : (word16 x y).toNat = 256 * x.toNat + y.toNat := by
  rw [word16, BitVec.toNat_append, ← Nat.shiftLeft_add_eq_or_of_lt y.isLt, Nat.shiftLeft_eq]
  omega

theorem word16_be16 (w : Word16) : word16 (w.extractLsb' 8 8) (w.extractLsb' 0 8) = w := by
  apply BitVec.eq_of_toNat_eq
  have := w.isLt
  rw [word16_toNat, BitVec.extractLsb'_toNat, BitVec.extractLsb'_toNat, Nat.shiftRight_eq_div_pow, Nat.shiftRight_eq_div_pow]
  omega

theorem formTag_tagParam (t : Tag) : formTag (tagParam t) = some t := by
  have ht := t.isLt
  have hword : (t.setWidth 16).toNat = t.toNat := by
    rw [BitVec.toNat_setWidth]
    exact Nat.mod_eq_of_lt (by omega)
  rw [tagParam, be16, formTag, tagOfBytes, word16_be16, if_pos (by omega)]
  refine congrArg some (BitVec.eq_of_toNat_eq ?_)
  rw [tagOfWord, BitVec.extractLsb'_toNat, hword]
  exact Nat.mod_eq_of_lt ht

theorem countOfByte_nat8 {n : Nat} (h1 : 1 ≤ n) (h8 : n ≤ 8) : countOfByte (nat8 n) = some n := by
  have hn : (nat8 n).toNat = n := by
    rw [nat8, BitVec.toNat_ofNat]
    exact Nat.mod_eq_of_lt (by omega)
  rw [countOfByte, hn, if_pos ⟨h1, h8⟩]

theorem formList_of {start n : Nat} (hs : start ≤ 511) (h1 : 1 ≤ n) (h8 : n ≤ 8) :
    formList (nat16 start ++ [nat8 n]) = some (start, n) := by
  have hstart : (BitVec.ofNat 16 start).toNat = start := by
    rw [BitVec.toNat_ofNat]
    exact Nat.mod_eq_of_lt (by omega)
  rw [nat16, be16, List.cons_append, List.cons_append, List.nil_append, formList, word16_be16, hstart, if_pos hs,
    countOfByte_nat8 h1 h8]
  rfl

theorem formReception_of (r : Fin 4) {start n : Nat} (hs : start ≤ 511) (h1 : 1 ≤ n) (h8 : n ≤ 8) :
    formReception (nat8 r.val :: nat16 start ++ [nat8 n]) = some (r, start, n) := by
  have hr : (nat8 r.val).toNat = r.val := by
    rw [nat8, BitVec.toNat_ofNat]
    exact Nat.mod_eq_of_lt (by omega)
  have hlist := formList_of hs h1 h8
  have hread : formReception (nat8 r.val :: nat16 start ++ [nat8 n]) = if h : (nat8 r.val).toNat < 4 then
      (formList (nat16 start ++ [nat8 n])).map fun x => (⟨(nat8 r.val).toNat, h⟩, x) else none := rfl
  rw [hread, dif_pos (by rw [hr]; exact r.isLt), hlist]
  simp [hr]

/-! ## The requests served -/

theorem frameOf_whole {α : Type} {form : List Byte → Option α} {params : List Byte} {x : α} (hlen : params.length < 256)
    (h : form params = some x) : frameShort (Frame.of params) = false ∧ requestForm form (Frame.of params) = some x := by
  have hdeclared : (BitVec.ofNat 8 params.length).toNat = params.length := by
    rw [BitVec.toNat_ofNat]
    exact Nat.mod_eq_of_lt hlen
  have hlong : frameLong (Frame.of params) = false := by
    simp only [frameLong, Frame.of, hdeclared, Nat.lt_irrefl, decide_false]
  refine ⟨?_, ?_⟩
  · simp only [frameShort, Frame.of, hdeclared, Nat.lt_irrefl, decide_false]
  · rw [requestForm, hlong]
    exact h

section
variable (hl : listening s.part = true) (ho : portOpen s.part = true)
include hl ho

theorem exec_readEntry (t : Tag) : Machine.exec (.readEntry (Frame.of (tagParam t))) s =
    .next (s.withPart (serveReadEntry t (requested 2 s.part))) := by
  have hlen : (tagParam t).length < 256 := show 2 < 256 by decide
  obtain ⟨hshort, hform⟩ := frameOf_whole hlen (formTag_tagParam t)
  exact congrArg (fun q => Host.Outcome.next (s.withPart q)) (request_served hl ho hshort hform)

theorem exec_readList {start n : Nat} (hs : start ≤ 511) (h1 : 1 ≤ n) (h8 : n ≤ 8) :
    Machine.exec (.readList (Frame.of (nat16 start ++ [nat8 n]))) s =
      .next (s.withPart (serveReadList start n (requested 3 s.part))) := by
  have hlen : (nat16 start ++ [nat8 n]).length < 256 := by simp [nat16, be16]
  obtain ⟨hshort, hform⟩ := frameOf_whole hlen (formList_of hs h1 h8)
  change Host.Outcome.next (s.withPart (request 3 false formList (fun x => serveReadList x.1 x.2) _ s.part)) = _
  rw [request_served hl ho hshort hform]

theorem exec_readArea (a : Area) : Machine.exec (.readArea (Frame.of [areaByte a])) s =
    .next (s.withPart (serveReadArea a (requested 4 s.part))) := by
  have hlen : [areaByte a].length < 256 := show 1 < 256 by decide
  obtain ⟨hshort, hform⟩ := frameOf_whole (form := formArea) hlen (areaOfByte_areaByte a)
  exact congrArg (fun q => Host.Outcome.next (s.withPart q)) (request_served hl ho hshort hform)

theorem exec_readReception (r : Fin 4) {start n : Nat} (hs : start ≤ 511) (h1 : 1 ≤ n) (h8 : n ≤ 8) :
    Machine.exec (.readReception (Frame.of (nat8 r.val :: nat16 start ++ [nat8 n]))) s =
      .next (s.withPart (serveReadReception r start n (requested 5 s.part))) := by
  have hlen : (nat8 r.val :: nat16 start ++ [nat8 n]).length < 256 := by simp [nat16, be16]
  obtain ⟨hshort, hform⟩ := frameOf_whole hlen (formReception_of r hs h1 h8)
  change Host.Outcome.next (s.withPart (request 5 false formReception (fun x => serveReadReception x.1 x.2.1 x.2.2) _ s.part)) = _
  rw [request_served hl ho hshort hform]

end

/-! ## The presentation order of a table without equal tags -/

theorem tagsRise_pairwise {l : List Entry} (h : TagsRise l) : l.Pairwise fun x y => x.tag ≠ y.tag := by
  induction l with
  | nil => exact .nil
  | cons e es ih =>
    obtain ⟨hfirst, hrest⟩ := h
    exact List.pairwise_cons.2 ⟨fun x hx he => Nat.lt_irrefl _ (he ▸ hfirst x hx), ih hrest⟩

theorem presentation_strict {l : List Entry} (h : TagsRise l) : (presentation l).Pairwise fun x y =>
    priorityNumber x.priority < priorityNumber y.priority ∨ (priorityNumber x.priority = priorityNumber y.priority ∧
      (x.firstRaised.toNat < y.firstRaised.toNat ∨ (x.firstRaised = y.firstRaised ∧ x.tag.toNat < y.tag.toNat))) := by
  have hdistinct : (presentation l).Pairwise fun x y => x.tag ≠ y.tag :=
    (presentation_perm l).symm.pairwise (tagsRise_pairwise h) fun hne => hne.symm
  refine (presentation_pairwise l).imp₂ (fun x y hat hne => ?_) hdistinct
  have hne' : x.tag.toNat ≠ y.tag.toNat := fun he => hne (BitVec.eq_of_toNat_eq he)
  unfold presentedAt at hat
  simp only [← BitVec.toNat_inj] at hat ⊢
  omega

end Sys2Proof.Machine

open Sys2Proof.Machine in
/-- Settles O12: each request is served (`exec_readEntry` and its like), each record lies as its layout says (`entryBytes_laid`
and its like). -/
theorem reportsAnswerFromTables : Obligations.ReportsAnswerFromTables := by
  intro s hl ho
  refine ⟨fun t => ?_, fun e => ⟨?_, entryBytes_laid e⟩, summaryBytes_laid, fun r x => ⟨rfl, receptionBytes_laid r x⟩,
    fun e h => ⟨rfl, eventBytes_laid h⟩, fun start n hs h1 h8 => ⟨_, ?_, rfl, ?_⟩, presentation_perm _, presentation_strict,
    fun a => ⟨?_, areaLayout_length s.part a, areaCount_eq s.part a, areaSignature_toNat s.part a⟩,
    fun r start n hs h1 h8 => ?_⟩
  · rw [exec_readEntry hl ho, serveReadEntry, show findEntry (requested 2 s.part) t = findEntry s.part t from rfl]
    cases findEntry s.part t <;> rfl
  · rw [entryBytes_eq]
    rfl
  · rw [List.length_take, List.length_drop, (presentation_perm _).length_eq]
  · rw [exec_readList hl ho hs h1 h8]
    rfl
  · rw [exec_readArea hl ho, ← areaBytes_laid]
    rfl
  · rw [exec_readReception hl ho r hs h1 h8, serveReadReception,
      show (requested 5 s.part).hou.receptions.get r = s.part.hou.receptions.get r from rfl]
    cases s.part.hou.receptions.get r <;> rfl
end


section
/-! PROOFS. The validated image (R1, R2, R56, R62, R76, R77, R172, section 12.3, O7). -/

namespace Sys2Proof.Machine

variable {b : List Byte}

/-! ## Records judged in order (R2, R77)

A record is enabled when it fits by itself and clashes with no enabled record of lower number. -/

section
variable {α : Type} (fits : α → Bool) (clash : α → α → Bool)

/-- Which of the records are enabled, judged in order after those of `kept`. -/
def verdicts : List α → List α → List Bool
  | _, [] => []
  | kept, x :: xs =>
    (fits x && !kept.any (clash x)) :: verdicts (if (fits x && !kept.any (clash x)) = true then x :: kept else kept) xs

theorem verdicts_length (kept xs : List α) : (verdicts fits clash kept xs).length = xs.length := by
  induction xs generalizing kept with
  | nil => rfl
  | cons x xs ih => rw [verdicts, List.length_cons, ih, List.length_cons]

theorem verdicts_iff (kept xs : List α) (n : Nat) {x : α} (hx : xs[n]? = some x) :
    (verdicts fits clash kept xs).getD n false = true ↔ fits x = true ∧ kept.any (clash x) = false ∧
      ∀ m, m < n → ∀ y, xs[m]? = some y → (verdicts fits clash kept xs).getD m false = true → clash x y = false := by
  induction xs generalizing kept n with
  | nil => cases hx
  | cons z zs ih =>
    cases n with
    | zero =>
      obtain rfl := Option.some.inj hx
      simp [verdicts]
    | succ n =>
      have hrest := ih (if (fits z && !kept.any (clash z)) = true then z :: kept else kept) n (by simpa using hx)
      have hkept : (if (fits z && !kept.any (clash z)) = true then z :: kept else kept).any (clash x) = false ↔
          kept.any (clash x) = false ∧ ((fits z && !kept.any (clash z)) = true → clash x z = false) := by
        split
        · next h => simp [h, and_comm]
        · next h => simp [h]
      rw [verdicts, List.getD_cons_succ, hrest, hkept]
      refine ⟨fun ⟨hfit, ⟨hno, hz⟩, hall⟩ => ⟨hfit, hno, fun m hm y hy hv => ?_⟩,
        fun ⟨hfit, hno, hall⟩ => ⟨hfit, ⟨hno, fun hz => hall 0 (by omega) z rfl hz⟩, fun m hm y hy hv =>
          hall (m + 1) (by omega) y hy hv⟩⟩
      cases m with
      | zero =>
        obtain rfl := Option.some.inj hy
        exact hz hv
      | succ m => exact hall m (by omega) y hy hv

end

/-! ## Numbers read from the image -/

theorem imageWord_toNat (b : List Byte) (i : Nat) :
    (imageWord b i).toNat = twoBytes (imageByte b i) (imageByte b (i + 1)) := word16_toNat ..

theorem has_imageWord (b : List Byte) (i : Nat) (a : Area) :
    AreaSet.has (imageWord b i) a = (twoBytes (imageByte b i) (imageByte b (i + 1))).testBit a.val := by
  rw [← imageWord_toNat]; rfl

theorem clampRange_eq (d lo hi x : Nat) (h : lo ≤ hi) :
    clampRange d lo hi x = if x = 0 then d else if x < lo then lo else if hi < x then hi else x := by
  unfold clampRange
  (repeat' split) <;> omega

theorem clampRange_mem (d lo hi x : Nat) (h : lo ≤ hi) (hlo : lo ≤ d) (hhi : d ≤ hi) :
    lo ≤ clampRange d lo hi x ∧ clampRange d lo hi x ≤ hi := by
  unfold clampRange
  split <;> omega

theorem clampOn_eq (x : Nat) : clampOn x = max 1 x := by
  unfold clampOn
  split <;> omega

theorem clampOff_lt {n : Nat} (h : 1 ≤ n) (x : Nat) : clampOff n x < n := by
  unfold clampOff
  split <;> omega

theorem clampClass_toNat (c : Byte) : (clampClass c).toNat = min 3 c.toNat := by
  unfold clampClass
  split
  · change 3 = _; omega
  · omega

theorem clampPeriod_toNat (c : Byte) : (clampPeriod c).toNat = if 3 < c.toNat then 0 else c.toNat := by
  unfold clampPeriod
  split
  · rfl
  · rw [BitVec.extractLsb'_toNat, Nat.shiftRight_zero]
    exact Nat.mod_eq_of_lt (by omega)

theorem extractLsb'_mod {w : Nat} (x : BitVec w) (i k : Nat) : (x.extractLsb' i k).toNat = x.toNat / 2 ^ i % 2 ^ k := by
  rw [BitVec.extractLsb'_toNat, Nat.shiftRight_eq_div_pow]

theorem priorityOfCode_number (c : BitVec 2) : priorityNumber (priorityOfCode c) = c.toNat + 1 := by
  revert c; decide

/-! ## The tag windows (R1, R2, R3) -/

/-- Window `n` is enabled. -/
def windowVerdict (b : List Byte) (n : Nat) : Bool :=
  (verdicts windowFits windowsOverlap [] ((List.range 32).map (imageWindow b))).getD n false

theorem validateWindows_eq (kept ws : List Window) : validateWindows kept ws =
    List.zipWith (fun w ok => { w with enabled := ok }) ws (verdicts windowFits windowsOverlap kept ws) := by
  induction ws generalizing kept with
  | nil => rfl
  | cons w ws ih => rw [validateWindows, verdicts, List.zipWith_cons_cons]; simp only [ih]

theorem imageWindows_get (b : List Byte) (n : Fin 32) :
    (imageWindows b).get n = { imageWindow b n.val with enabled := windowVerdict b n.val } := by
  have hlen := verdicts_length windowFits windowsOverlap [] ((List.range 32).map (imageWindow b))
  rw [List.length_map, List.length_range] at hlen
  have hn := n.isLt
  rw [imageWindows, tabulate_get, validateWindows_eq, windowVerdict]
  simp [List.getD_eq_getElem?_getD, hlen, hn]

theorem windowsOverlap_eq_false (w v : Window) : windowsOverlap w v = false ↔
    v.start.toNat + windowSize v.size ≤ w.start.toNat ∨ w.start.toNat + windowSize w.size ≤ v.start.toNat := by
  simp only [windowsOverlap, Bool.and_eq_false_iff, decide_eq_false_iff_not, Nat.not_lt]

theorem windowVerdict_iff (b : List Byte) {n : Nat} (hn : n < 32) : windowVerdict b n = true ↔
    windowFits (imageWindow b n) = true ∧ ∀ m, m < n → windowVerdict b m = true →
      windowsOverlap (imageWindow b n) (imageWindow b m) = false := by
  have hget : ∀ m, m < 32 → ((List.range 32).map (imageWindow b))[m]? = some (imageWindow b m) := fun m hm => by
    simp [hm]
  rw [windowVerdict, verdicts_iff windowFits windowsOverlap [] _ n (hget n hn)]
  refine ⟨fun ⟨hfit, _, hall⟩ => ⟨hfit, fun m hm hv => hall m hm _ (hget m (by omega)) hv⟩,
    fun ⟨hfit, hall⟩ => ⟨hfit, rfl, fun m hm y hy hv => ?_⟩⟩
  rw [hget m (by omega)] at hy
  obtain rfl := Option.some.inj hy
  exact hall m hm hv

theorem windowFits_iff (w : Window) : windowFits w = true ↔ 1 ≤ w.size.toNat ∧ w.size.toNat ≤ 6 ∧ w.start.toNat ≤ 4095 ∧
    w.area.toNat ≤ 15 ∧ w.start.toNat % windowSize w.size = 0 := by
  simp [windowFits, and_assoc]

/-- An aligned window ends within the tags. -/
theorem windowFits_end {w : Window} (h : windowFits w = true) : w.start.toNat + windowSize w.size ≤ 4096 := by
  obtain ⟨h1, h6, hstart, -, halign⟩ := (windowFits_iff w).1 h
  unfold windowSize at halign ⊢
  generalize w.size.toNat = c at h1 h6 halign ⊢
  interval_cases c <;> omega

theorem windowVerdict_disjoint {n m : Nat} (hn : n < 32) (hv : windowVerdict b n = true) (hm : m < n)
    (hw : windowVerdict b m = true) (t : Nat) (hc : windowCovers (imageWindow b n) t = true) :
    windowCovers (imageWindow b m) t = false := by
  have hclear := (windowsOverlap_eq_false _ _).1 (((windowVerdict_iff b hn).1 hv).2 m hm hw)
  unfold windowCovers at hc ⊢
  simp only [Bool.and_eq_true, decide_eq_true_eq, Bool.and_eq_false_iff, decide_eq_false_iff_not] at hc ⊢
  omega

end Sys2Proof.Machine
end


section
/-! PROOFS. The operator table, the settings and the inputs of the image (R56, R62, R76, R77, R172, O7). -/

namespace Sys2Proof.Machine

variable {b : List Byte}

/-! ## The operator table (R76, R77) -/

/-- The record carries a credential. -/
def operatorFits (o : Operator) : Bool := decide (o.credential ≠ 0)

/-- Two records carry one credential. -/
def sameCredential (o u : Operator) : Bool := decide (u.credential = o.credential)

/-- Operator record `n` is enabled. -/
def operatorVerdict (b : List Byte) (n : Nat) : Bool :=
  (verdicts operatorFits sameCredential [] ((List.range 48).map (imageOperator b))).getD n false

theorem contains_credentials (kept : List Operator) (o : Operator) :
    (kept.map Operator.credential).contains o.credential = kept.any (sameCredential o) := by
  induction kept with
  | nil => rfl
  | cons k ks ih =>
    rw [List.map_cons, List.contains_cons, ih, List.any_cons]
    congr 1
    exact Bool.eq_iff_iff.2 (by rw [beq_iff_eq, sameCredential, decide_eq_true_eq, eq_comm])

theorem validateOperators_eq (kept os : List Operator) : validateOperators (kept.map Operator.credential) os =
    List.zipWith (fun o ok => { o with enabled := ok }) os (verdicts operatorFits sameCredential kept os) := by
  induction os generalizing kept with
  | nil => rfl
  | cons o os ih =>
    have hseen : (if (operatorFits o && !kept.any (sameCredential o)) = true
        then o.credential :: kept.map Operator.credential else kept.map Operator.credential) =
        (if (operatorFits o && !kept.any (sameCredential o)) = true then o :: kept else kept).map Operator.credential := by
      split <;> rfl
    have hok : (decide (o.credential ≠ 0) && !(kept.map Operator.credential).contains o.credential) =
        (operatorFits o && !kept.any (sameCredential o)) := by rw [contains_credentials]; rfl
    rw [validateOperators, verdicts, List.zipWith_cons_cons]
    simp only [hok, hseen, ih]

theorem imageOperators_get (b : List Byte) (n : Fin 48) :
    (imageOperators b).get n = { imageOperator b n.val with enabled := operatorVerdict b n.val } := by
  have hlen := verdicts_length operatorFits sameCredential [] ((List.range 48).map (imageOperator b))
  rw [List.length_map, List.length_range] at hlen
  have hn := n.isLt
  have hall := validateOperators_eq [] ((List.range 48).map (imageOperator b))
  rw [List.map_nil] at hall
  rw [imageOperators, tabulate_get, hall, operatorVerdict]
  simp [List.getD_eq_getElem?_getD, hlen, hn]

theorem operatorVerdict_iff (b : List Byte) {n : Nat} (hn : n < 48) : operatorVerdict b n = true ↔
    (imageOperator b n).credential ≠ 0 ∧ ∀ m, m < n → operatorVerdict b m = true →
      (imageOperator b m).credential ≠ (imageOperator b n).credential := by
  have hget : ∀ m, m < 48 → ((List.range 48).map (imageOperator b))[m]? = some (imageOperator b m) := fun m hm => by
    simp [hm]
  rw [operatorVerdict, verdicts_iff operatorFits sameCredential [] _ n (hget n hn), operatorFits, decide_eq_true_eq]
  refine ⟨fun ⟨hfit, _, hall⟩ => ⟨hfit, fun m hm hv => of_decide_eq_false (hall m hm _ (hget m (by omega)) hv)⟩,
    fun ⟨hfit, hall⟩ => ⟨hfit, rfl, fun m hm y hy hv => ?_⟩⟩
  rw [hget m (by omega)] at hy
  obtain rfl := Option.some.inj hy
  exact decide_eq_false (hall m hm hv)

theorem word24_toNat (x y z : Byte) : (word24 x y z).toNat = 65536 * x.toNat + twoBytes y z := by
  have hlow : (y.toNat <<< 8 ||| z.toNat) < 2 ^ 16 := by
    rw [← Nat.shiftLeft_add_eq_or_of_lt z.isLt, Nat.shiftLeft_eq]
    have := y.isLt
    have := z.isLt
    omega
  rw [word24, BitVec.toNat_append, BitVec.toNat_append, ← Nat.shiftLeft_add_eq_or_of_lt z.isLt,
    ← Nat.shiftLeft_add_eq_or_of_lt y.isLt, Nat.shiftLeft_eq, Nat.shiftLeft_eq, twoBytes]
  omega

theorem roleOfCode_iff (c : Byte) : (roleOfCode c = .lead ↔ c.toNat = 1) ∧ (roleOfCode c = .supervisor ↔ c.toNat = 2) := by
  have hone : c = 1 ↔ c.toNat = 1 := by rw [← BitVec.toNat_inj]; rfl
  have htwo : c = 2 ↔ c.toNat = 2 := by rw [← BitVec.toNat_inj]; rfl
  unfold roleOfCode
  rw [← hone, ← htwo]
  split
  · next h => simp [h]
  · next h =>
    split
    · next h2 => simp [h2]
    · next h2 => exact ⟨iff_of_false nofun h, iff_of_false nofun h2⟩

/-! ## The contact inputs (R56) -/

theorem validUse_iff (ws : Vector Window 32) (c : BitVec 2) (t : Tag) (w : Byte) :
    (validUse ws c t w = .alarm ↔ c.toNat = 1 ∧ ∃ a, mapTag ws t = some a) ∧
      (validUse ws c t w = .trip ↔ c.toNat = 2 ∧ w.toNat ≤ 15) := by
  have hone : c = 1 ↔ c.toNat = 1 := by rw [← BitVec.toNat_inj]; rfl
  have htwo : c = 2 ↔ c.toNat = 2 := by rw [← BitVec.toNat_inj]; rfl
  unfold validUse
  rw [← hone, ← htwo, ← Option.isSome_iff_exists]
  split
  · next h => split <;> simp_all
  · next h =>
    split
    · next h2 => split <;> simp_all
    · next h2 => exact ⟨iff_of_false nofun fun hc => h hc.1, iff_of_false nofun fun hc => h2 hc.1⟩

/-- What an input record of the image holds, by its four bytes. -/
theorem imageInput_fields (b : List Byte) (ws : Vector Window 32) (n : Nat) :
    let x := imageInput b ws n
    let word := twoBytes (imageByte b (705 + 4 * n)) (imageByte b (705 + 4 * n + 1))
    x.tag.toNat = word % 4096 ∧ priorityNumber x.priority = word / 4096 % 4 + 1 ∧
      x.debounce.toNat = (imageByte b (704 + 4 * n)).toNat / 16 % 4 ∧
      (x.use = .alarm ↔ (imageByte b (704 + 4 * n)).toNat % 4 = 1 ∧ ∃ a, mapTag ws x.tag = some a) ∧
      (x.use = .trip ↔ (imageByte b (704 + 4 * n)).toNat % 4 = 2 ∧ x.tripArea.toNat ≤ 15) := by
  have hcode : ((imageByte b (704 + 4 * n)).extractLsb' 0 2).toNat = (imageByte b (704 + 4 * n)).toNat % 4 := by
    rw [extractLsb'_mod, Nat.pow_zero, Nat.div_one]
    rfl
  have huse := validUse_iff ws ((imageByte b (704 + 4 * n)).extractLsb' 0 2) (tagOfWord (imageWord b (705 + 4 * n)))
    (imageByte b (707 + 4 * n))
  rw [hcode] at huse
  refine ⟨?_, ?_, extractLsb'_mod _ 4 2, huse.1, huse.2⟩
  · rw [← imageWord_toNat]
    exact (extractLsb'_mod _ 0 12).trans (by rw [Nat.pow_zero, Nat.div_one]; rfl)
  · rw [← imageWord_toNat]
    exact (priorityOfCode_number _).trans (by rw [extractLsb'_mod]; rfl)

/-! ## The settings (R62, R172) -/

theorem has_diff (x y : AreaSet) (a : Area) :
    AreaSet.has (x &&& ~~~y) a = true ↔ AreaSet.has x a = true ∧ AreaSet.has y a = false := by
  rw [has_and, has_not, Bool.and_eq_true, Bool.not_eq_true']

theorem has_standby (b : List Byte) (a : Area) : AreaSet.has (validatedImage b).standby a = true ↔
    (twoBytes (imageByte b 28) (imageByte b 29)).testBit a.val = true ∧ AreaSet.has (validatedImage b).home a = false := by
  rw [← has_imageWord]
  exact has_diff (imageWord b 28) (imageWord b 26) a

theorem has_watch (b : List Byte) (a : Area) : AreaSet.has (validatedImage b).watch a = true ↔
    (twoBytes (imageByte b 30) (imageByte b 31)).testBit a.val = true ∧ AreaSet.has (validatedImage b).home a = false ∧
      AreaSet.has (validatedImage b).standby a = false := by
  rw [← has_imageWord]
  refine (has_diff (imageWord b 30) ((validatedImage b).home ||| (validatedImage b).standby) a).trans ?_
  rw [has_or, Bool.or_eq_false_iff]

/-- The ranges and the disjoint sets of an accepted image's settings (R62, R172). -/
theorem validatedImage_ranges (b : List Byte) :
    let c := validatedImage b
    (30 ≤ c.window ∧ c.window ≤ 600) ∧ (30 ≤ c.reliefWindow ∧ c.reliefWindow ≤ 300) ∧ (60 ≤ c.grace ∧ c.grace ≤ 900) ∧
    (1 ≤ c.maxShelve ∧ c.maxShelve ≤ 480) ∧ (3 ≤ c.decayShift ∧ c.decayShift ≤ 12) ∧ c.floodOff < c.floodOn ∧
    (∀ a, (c.required.get a).toNat = min 3 (imageByte b (32 + a.val)).toNat) := by
  refine ⟨?_, ?_, ?_, ?_, ?_, ?_, fun a => ?_⟩
  · exact clampRange_mem _ _ _ _ (by decide) (by decide) (by decide)
  · exact clampRange_mem _ _ _ _ (by decide) (by decide) (by decide)
  · exact clampRange_mem _ _ _ _ (by decide) (by decide) (by decide)
  · exact clampRange_mem _ _ _ _ (by decide) (by decide) (by decide)
  · change 3 ≤ min 12 (max 3 _) ∧ min 12 (max 3 _) ≤ 12
    omega
  · exact clampOff_lt (by rw [clampOn_eq]; omega) _
  · change ((tabulate fun a : Area => clampClass (imageByte b (32 + a.val))).get a).toNat = _
    rw [tabulate_get, clampClass_toNat]

theorem clampShift_eq (x : Nat) : min 12 (max 3 x) = if x < 3 then 3 else if 12 < x then 12 else x := by
  (repeat' split) <;> omega

theorem clampOff_eq (b : List Byte) (i n : Nat) : clampOff n (imageWord b i).toNat =
    if n ≤ twoBytes (imageByte b i) (imageByte b (i + 1)) then n / 2 else twoBytes (imageByte b i) (imageByte b (i + 1)) := by
  rw [clampOff, imageWord_toNat]

theorem imageInputs_get (b : List Byte) (i : Fin 8) :
    (validatedImage b).inputs.get i = imageInput b (imageWindows b) i.val := tabulate_get ..

/-! ## The windows and the operators as the image has them -/

theorem imageWindow_start (b : List Byte) (n : Nat) :
    (imageWindow b n).start.toNat = twoBytes (imageByte b (49 + 4 * n)) (imageByte b (50 + 4 * n)) := by
  have hnext : 49 + 4 * n + 1 = 50 + 4 * n := by omega
  rw [← hnext]
  exact imageWord_toNat ..

/-- When window `n` is enabled (R2). -/
theorem windowEnabled_iff (b : List Byte) (n : Fin 32) : windowVerdict b n.val = true ↔
    1 ≤ (imageWindow b n.val).size.toNat ∧ (imageWindow b n.val).size.toNat ≤ 6 ∧ (imageWindow b n.val).start.toNat ≤ 4095 ∧
      (imageWindow b n.val).area.toNat ≤ 15 ∧
      (imageWindow b n.val).start.toNat % 2 ^ ((imageWindow b n.val).size.toNat + 3) = 0 ∧
      ∀ m : Fin 32, m < n → windowVerdict b m.val = true →
        (imageWindow b m.val).start.toNat + 2 ^ ((imageWindow b m.val).size.toNat + 3) ≤ (imageWindow b n.val).start.toNat ∨
          (imageWindow b n.val).start.toNat + 2 ^ ((imageWindow b n.val).size.toNat + 3) ≤ (imageWindow b m.val).start.toNat := by
  rw [windowVerdict_iff b n.isLt, windowFits_iff]
  simp only [windowsOverlap_eq_false, and_assoc]
  have hindex : (∀ m, m < n.val → windowVerdict b m = true →
      (imageWindow b m).start.toNat + windowSize (imageWindow b m).size ≤ (imageWindow b n.val).start.toNat ∨
        (imageWindow b n.val).start.toNat + windowSize (imageWindow b n.val).size ≤ (imageWindow b m).start.toNat) ↔
      ∀ m : Fin 32, m < n → windowVerdict b m.val = true →
        (imageWindow b m.val).start.toNat + windowSize (imageWindow b m.val).size ≤ (imageWindow b n.val).start.toNat ∨
          (imageWindow b n.val).start.toNat + windowSize (imageWindow b n.val).size ≤ (imageWindow b m.val).start.toNat :=
    ⟨fun h m hm => h m.val hm, fun h m hm => h ⟨m, by omega⟩ hm⟩
  rw [hindex]
  rfl

/-- At most one enabled window covers a tag (R3). -/
theorem windowCovers_unique {n m : Fin 32} (hn : windowVerdict b n.val = true) (hm : windowVerdict b m.val = true) {t : Nat}
    (hc : windowCovers (imageWindow b n.val) t = true) (hd : windowCovers (imageWindow b m.val) t = true) : n = m := by
  rcases Nat.lt_trichotomy n.val m.val with hlt | heq | hgt
  · rw [windowVerdict_disjoint m.isLt hm hlt hn t hd] at hc
    cases hc
  · exact Fin.ext heq
  · rw [windowVerdict_disjoint n.isLt hn hgt hm t hc] at hd
    cases hd

/-- The sets of an operator record, reduced to its ack areas (R77). -/
theorem operatorAreas (b : List Byte) (n : Nat) (a : Area) :
    (AreaSet.has (imageOperator b n).ackAreas a = true ↔
      (twoBytes (imageByte b (176 + 11 * n + 5)) (imageByte b (176 + 11 * n + 5 + 1))).testBit a.val = true) ∧
    (AreaSet.has (imageOperator b n).shelveAreas a = true ↔
      (twoBytes (imageByte b (176 + 11 * n + 7)) (imageByte b (176 + 11 * n + 7 + 1))).testBit a.val = true ∧
        AreaSet.has (imageOperator b n).ackAreas a = true) ∧
    (AreaSet.has (imageOperator b n).holdAreas a = true ↔
      (twoBytes (imageByte b (176 + 11 * n + 9)) (imageByte b (176 + 11 * n + 9 + 1))).testBit a.val = true ∧
        AreaSet.has (imageOperator b n).ackAreas a = true) := by
  rw [← has_imageWord, ← has_imageWord, ← has_imageWord, ← Bool.and_eq_true, ← Bool.and_eq_true, ← has_and, ← has_and]
  exact ⟨Iff.rfl, Iff.rfl, Iff.rfl⟩

theorem operatorEnabled_iff (b : List Byte) (n : Fin 48) : operatorVerdict b n.val = true ↔
    (imageOperator b n.val).credential ≠ 0 ∧ ∀ m : Fin 48, m < n → operatorVerdict b m.val = true →
      (imageOperator b m.val).credential ≠ (imageOperator b n.val).credential := by
  rw [operatorVerdict_iff b n.isLt]
  exact and_congr_right fun _ => ⟨fun h m hm => h m.val hm, fun h m hm => h ⟨m, by omega⟩ hm⟩

/-- A two-byte setting is the image's field, brought into its range. -/
theorem clampWord_eq (b : List Byte) (i d lo hi : Nat) (h : lo ≤ hi) : clampRange d lo hi (imageWord b i).toNat =
    if twoBytes (imageByte b i) (imageByte b (i + 1)) = 0 then d
    else if twoBytes (imageByte b i) (imageByte b (i + 1)) < lo then lo
    else if hi < twoBytes (imageByte b i) (imageByte b (i + 1)) then hi
    else twoBytes (imageByte b i) (imageByte b (i + 1)) := by rw [clampRange_eq _ _ _ _ h, imageWord_toNat]

end Sys2Proof.Machine

open Sys2Proof.Machine in
/-- Settles O7: the settings field by field (`clampWord_eq` and its like), windows and operators by `verdicts_iff`. -/
theorem validatedConfigurationIsInRange : Obligations.ValidatedConfigurationIsInRange := by
  refine ⟨fun b => ?_, fun b n => ?_, fun b n => ?_⟩
  · obtain ⟨hwindow, hrelief, hgrace, hshelve, hshift, hflood, hrequired⟩ := validatedImage_ranges b
    refine ⟨hwindow, hrelief, hgrace, hshelve, hshift, hflood, fun a => ?_, fun a ha => ((has_standby b a).1 ha).2,
      fun a ha => ((has_watch b a).1 ha).2, rfl, rfl, clampPeriod_toNat _, clampWord_eq b 4 _ _ _ (by decide),
      clampWord_eq b 6 _ _ _ (by decide), clampWord_eq b 8 _ _ _ (by decide), clampWord_eq b 10 _ _ _ (by decide),
      rfl, rfl, rfl, rfl, ?_, ?_, ?_, imageWord_toNat b 21, imageWord_toNat b 23, ?_, fun a => ⟨?_, has_standby b a,
      has_watch b a, hrequired a⟩, fun i => ?_⟩
    · rw [hrequired]
      omega
    · exact clampShift_eq _
    · exact (clampOn_eq _).trans (by rw [imageWord_toNat])
    · exact clampOff_eq b 19 _
    · change decide (imageByte b 25 ≠ 0) = true ↔ _
      rw [decide_eq_true_eq, Ne, ← BitVec.toNat_inj]
      rfl
    · rw [← has_imageWord]
      rfl
    · obtain ⟨htag, hpriority, hdebounce, halarm, htrip⟩ := imageInput_fields b (imageWindows b) i.val
      rw [imageInputs_get]
      exact ⟨htag, hpriority, rfl, Iff.rfl, hdebounce, halarm, htrip⟩
  · simp only [imageWindows_get]
    refine ⟨rfl, imageWindow_start b n.val, rfl, windowEnabled_iff b n, fun hv => ⟨?_, fun m t hm hn hcover => ?_⟩⟩
    · exact windowFits_end ((windowVerdict_iff b n.isLt).1 hv).1
    · exact windowCovers_unique hv hm hn hcover
  · simp only [imageOperators_get]
    obtain ⟨hlead, hsupervisor⟩ := roleOfCode_iff (imageByte b (176 + 11 * n.val + 3))
    exact ⟨word24_toNat .., hlead, hsupervisor, clampClass_toNat _, operatorAreas b n.val, operatorEnabled_iff b n⟩
end


section
/-! PROOFS. The ACK, DECLARE-TRIP, RESTORE, SHELVE and UNSHELVE requests (R25, R30–R32, R110, O14, O15): each is judged by an
ordered list of checks, and an admitted one places one telegram. -/

namespace Sys2Proof.Machine

variable {p : Part} {s : State} {t : Tag} {a : Area}

/-! ## A judged request -/

/-- A request whose checks give `refusal`: the refusal answered, or telegram `x` queued for all and QUEUED answered. -/
def judged (refusal : Option ResultCode) (x : Payload) (p : Part) : Part :=
  match refusal with
  | some code => answerWith code [] p
  | none => answerWith .queued [] (queueRequest 0 x p)

theorem serveAck_eq (t : Tag) (p : Part) : serveAck t p =
    judged (ackRefusal p t) (.acknowledge t (occurrenceOf p t) (sessionCredential p)) p := rfl

theorem serveTrip_eq (back : Bool) (a : Area) (p : Part) : serveTrip back a p =
    judged (tripRefusal p back a) (.trip back a (sessionCredential p)) p := rfl

theorem serveShelve_eq (t : Tag) (m : Nat) (p : Part) : serveShelve t m p =
    judged (shelveRefusal p t) (.shelve t (BitVec.ofNat 16 (clampMinutes p m * 60)) (sessionCredential p)) p := rfl

theorem serveUnshelve_eq (t : Tag) (p : Part) : serveUnshelve t p =
    judged (unshelveRefusal p t) (.shelve t 0 (sessionCredential p)) p := rfl

theorem freeSlotOf_of_admits (h : admitsRequest p = true) : ∃ k, freeSlotOf p = some k ∧ p.lif.slots.get k = none := by
  have hroom : occupied p < 8 := of_decide_eq_true (Bool.and_eq_true_iff.1 h).2
  exact freeSlotOf_of_occupied (by omega)

/-- What a judged request leaves: the answer, and for an admitted one the telegram in a slot that was free (R153). -/
theorem judged_effect {refusal : Option ResultCode} (n : Byte) (x : Payload) (hne : refusal ≠ some .queued)
    (hadmit : refusal = none → admitsRequest p = true) :
    let q := judged refusal x (requested n p)
    q = { p with lif := q.lif, cnp := p.cnp.answering (refusal.getD .queued) [] } ∧
      (refusal.getD .queued ≠ .queued → q.lif = p.lif) ∧
      (refusal.getD .queued = .queued →
        p.lif.placed q.lif .request { source := p.stc.number, destination := 0, payload := x }) := by
  cases refusal with
  | some code => exact ⟨rfl, fun _ => rfl, fun hc => absurd (congrArg some hc) hne⟩
  | none =>
    obtain ⟨k, hk, hfree⟩ := freeSlotOf_of_admits (hadmit rfl)
    have hslot : freeSlotOf (requested n p) = some k := (freeSlotOf_congr (p := p) rfl).trans hk
    have hplaced : judged none x (requested n p) = { p with
        lif := placedIn k .request { source := p.stc.number, destination := 0, payload := x } p.lif,
        cnp := p.cnp.answering .queued [] } := by
      rw [judged, queueRequest, placeTelegram_eq hslot]
      rfl
    simp only [hplaced]
    exact ⟨rfl, fun h => absurd rfl h, fun _ => ⟨k, hfree, rfl⟩⟩

/-! ## Ordered checks -/

theorem firstFailing_ne {l : List (Bool × ResultCode)} {c : ResultCode} (h : ∀ x ∈ l, x.2 ≠ c) : firstFailing l ≠ some c := by
  induction l with
  | nil => exact nofun
  | cons x l ih =>
    obtain ⟨ok, code⟩ := x
    obtain ⟨hcode, hrest⟩ := List.forall_mem_cons.1 h
    unfold firstFailing
    split
    · exact ih hrest
    · exact fun he => hcode (Option.some.inj he)

theorem firstFailing_none {l : List (Bool × ResultCode)} (h : firstFailing l = none) : ∀ x ∈ l, x.1 = true := by
  induction l with
  | nil => exact fun _ hx => absurd hx List.not_mem_nil
  | cons x l ih =>
    obtain ⟨ok, code⟩ := x
    unfold firstFailing at h
    split at h
    · next hok => exact List.forall_mem_cons.2 ⟨hok, ih h⟩
    · cases h

/-- Every list of checks here opens with the station RUNNING and the session ACTIVE; later checks matter in RUNNING alone. -/
theorem firstFailing_open {l : List (Bool × ResultCode)} {code : ResultCode}
    (h : running p = true → (firstFailing l).getD .queued = code) :
    (firstFailing ((running p, .notRunning) :: (sessionActive p, .noSession) :: l)).getD .queued =
      if running p = false then .notRunning else if sessionActive p = false then .noSession else code := by
  rw [firstFailing_cons Iff.rfl]
  split
  · rfl
  · next hrun => rw [firstFailing_cons Iff.rfl, h (by simpa using hrun)]

theorem admitsRequest_eq_false (h : running p = true) : admitsRequest p = false ↔ 8 ≤ occupied p := by
  have hopen : sendingOpen p = true := by simp [sendingOpen, h]
  rw [admitsRequest, hopen, Bool.true_and, decide_eq_false_iff_not, Nat.not_lt]
  rfl

/-! ## Requests on a tag's entry: ACK, SHELVE, UNSHELVE (R25, R30, R32) -/

/-- The checks of a request on tag `t`'s entry: station and session, then that there is an entry, then those of its own. -/
def entryRefusal (own : Entry → List (Bool × ResultCode)) (p : Part) (t : Tag) : Option ResultCode :=
  match findEntry p t with
  | none => firstFailing [(running p, .notRunning), (sessionActive p, .noSession), (false, .noEntry)]
  | some e => firstFailing ((running p, .notRunning) :: (sessionActive p, .noSession) :: own e)

/-- The result of such a request, where its own checks give `code`. -/
def entryCode (code : Entry → ResultCode) (p : Part) (t : Tag) : ResultCode :=
  if running p = false then .notRunning
  else if sessionActive p = false then .noSession
  else match findEntry p t with
    | none => .noEntry
    | some e => code e

section
variable {own : Entry → List (Bool × ResultCode)}

theorem entryRefusal_getD {code : Entry → ResultCode}
    (h : running p = true → ∀ e, (firstFailing (own e)).getD .queued = code e) :
    (entryRefusal own p t).getD .queued = entryCode code p t := by
  unfold entryRefusal entryCode
  cases findEntry p t with
  | none => exact firstFailing_open fun _ => rfl
  | some e => exact firstFailing_open fun hrun => h hrun e

theorem entryRefusal_ne_queued (h : ∀ e, ∀ x ∈ own e, x.2 ≠ .queued) : entryRefusal own p t ≠ some .queued := by
  unfold entryRefusal
  split
  · exact firstFailing_ne (by simp)
  · next e _ => exact firstFailing_ne (by simpa using h e)

theorem entryRefusal_eq_none (h : entryRefusal own p t = none) :
    ∃ e, findEntry p t = some e ∧ ∀ x ∈ own e, x.1 = true := by
  unfold entryRefusal at h
  split at h
  · exact absurd (firstFailing_none h (false, .noEntry) (by simp)) Bool.false_ne_true
  · next e he => exact ⟨e, he, fun x hx => firstFailing_none h x (by simp [hx])⟩

end

/-- ACK's own checks (R25). -/
def ackChecks (p : Part) (e : Entry) : List (Bool × ResultCode) :=
  [(acting p e.area, .notActing), (ackRight p e.area, .noRight), (!e.acknowledged, .done), (admitsRequest p, .busy)]

/-- SHELVE's own checks (R30). -/
def shelveChecks (p : Part) (e : Entry) : List (Bool × ResultCode) :=
  [(acting p e.area, .notActing), (decide (e.priority ≠ .p1), .notShelvable), (!emergency p e.area, .emergency),
   (shelveRight p e.area, .noRight), (admitsRequest p, .busy)]

/-- UNSHELVE's own checks (R32). -/
def unshelveChecks (p : Part) (e : Entry) : List (Bool × ResultCode) :=
  [(acting p e.area, .notActing), (shelveRight p e.area, .noRight), (e.shelf.isSome, .done), (admitsRequest p, .busy)]

theorem ackRefusal_eq (p : Part) (t : Tag) : ackRefusal p t = entryRefusal (ackChecks p) p t := rfl

theorem shelveRefusal_eq (p : Part) (t : Tag) : shelveRefusal p t = entryRefusal (shelveChecks p) p t := rfl

theorem unshelveRefusal_eq (p : Part) (t : Tag) : unshelveRefusal p t = entryRefusal (unshelveChecks p) p t := rfl

/-- The result of an ACK request by R25's checks in order. -/
def ackCode (p : Part) : Tag → ResultCode := entryCode (fun e =>
  if acting p e.area = false then .notActing
  else if ackRight p e.area = false then .noRight
  else if e.acknowledged = true then .done
  else if 8 ≤ occupied p then .busy
  else .queued) p

/-- The result of a SHELVE request by R30's checks in order. -/
def shelveCode (p : Part) : Tag → ResultCode := entryCode (fun e =>
  if acting p e.area = false then .notActing
  else if e.priority = .p1 then .notShelvable
  else if emergency p e.area = true then .emergency
  else if shelveRight p e.area = false then .noRight
  else if 8 ≤ occupied p then .busy
  else .queued) p

/-- The result of an UNSHELVE request by R32's checks in order. -/
def unshelveCode (p : Part) : Tag → ResultCode := entryCode (fun e =>
  if acting p e.area = false then .notActing
  else if shelveRight p e.area = false then .noRight
  else if e.shelf = none then .done
  else if 8 ≤ occupied p then .busy
  else .queued) p

theorem ackRefusal_getD (p : Part) (t : Tag) : (ackRefusal p t).getD .queued = ackCode p t := by
  rw [ackRefusal_eq]
  refine entryRefusal_getD fun hrun e => ?_
  rw [ackChecks, firstFailing_cons Iff.rfl, firstFailing_cons Iff.rfl, firstFailing_cons (Bool.not_eq_false' _).to_iff,
    firstFailing_cons (admitsRequest_eq_false hrun)]
  rfl

theorem shelveRefusal_getD (p : Part) (t : Tag) : (shelveRefusal p t).getD .queued = shelveCode p t := by
  rw [shelveRefusal_eq]
  refine entryRefusal_getD fun hrun e => ?_
  have hpriority : decide (e.priority ≠ .p1) = false ↔ e.priority = .p1 := by simp
  rw [shelveChecks, firstFailing_cons Iff.rfl, firstFailing_cons hpriority, firstFailing_cons (Bool.not_eq_false' _).to_iff,
    firstFailing_cons Iff.rfl, firstFailing_cons (admitsRequest_eq_false hrun)]
  rfl

theorem unshelveRefusal_getD (p : Part) (t : Tag) : (unshelveRefusal p t).getD .queued = unshelveCode p t := by
  rw [unshelveRefusal_eq]
  refine entryRefusal_getD fun hrun e => ?_
  have hshelf : e.shelf.isSome = false ↔ e.shelf = none := by simp
  rw [unshelveChecks, firstFailing_cons Iff.rfl, firstFailing_cons Iff.rfl, firstFailing_cons hshelf,
    firstFailing_cons (admitsRequest_eq_false hrun)]
  rfl

theorem ackRefusal_ne_queued (p : Part) (t : Tag) : ackRefusal p t ≠ some .queued := by
  rw [ackRefusal_eq]
  exact entryRefusal_ne_queued fun e => by simp [ackChecks]

theorem shelveRefusal_ne_queued (p : Part) (t : Tag) : shelveRefusal p t ≠ some .queued := by
  rw [shelveRefusal_eq]
  exact entryRefusal_ne_queued fun e => by simp [shelveChecks]

theorem unshelveRefusal_ne_queued (p : Part) (t : Tag) : unshelveRefusal p t ≠ some .queued := by
  rw [unshelveRefusal_eq]
  exact entryRefusal_ne_queued fun e => by simp [unshelveChecks]

/-- An admitted ACK has an entry and, by the last check, a slot. -/
theorem ackRefusal_eq_none (h : ackRefusal p t = none) : (∃ e, findEntry p t = some e) ∧ admitsRequest p = true := by
  obtain ⟨e, he, hall⟩ := entryRefusal_eq_none (ackRefusal_eq p t ▸ h)
  exact ⟨⟨e, he⟩, hall (admitsRequest p, .busy) (by simp [ackChecks])⟩

theorem shelveRefusal_eq_none (h : shelveRefusal p t = none) : admitsRequest p = true := by
  obtain ⟨e, -, hall⟩ := entryRefusal_eq_none (shelveRefusal_eq p t ▸ h)
  exact hall (admitsRequest p, .busy) (by simp [shelveChecks])

theorem unshelveRefusal_eq_none (h : unshelveRefusal p t = none) : admitsRequest p = true := by
  obtain ⟨e, -, hall⟩ := entryRefusal_eq_none (unshelveRefusal_eq p t ▸ h)
  exact hall (admitsRequest p, .busy) (by simp [unshelveChecks])

/-! ## DECLARE-TRIP and RESTORE (R110) -/

/-- The result of a DECLARE-TRIP, or of a RESTORE when `back` holds, by R110's checks in order. -/
def tripCode (p : Part) (a : Area) (back : Bool) : ResultCode :=
  if running p = false then .notRunning
  else if sessionActive p = false then .noSession
  else if supervisor p = false then .noRight
  else if emergency p a ≠ back then .done
  else if 8 ≤ occupied p then .busy
  else .queued

theorem tripRefusal_getD (p : Part) (a : Area) (back : Bool) : (tripRefusal p back a).getD .queued = tripCode p a back := by
  refine firstFailing_open fun hrun => ?_
  rw [firstFailing_cons Iff.rfl, firstFailing_cons decide_eq_false_iff_not, firstFailing_cons (admitsRequest_eq_false hrun)]
  rfl

theorem tripRefusal_ne_queued (p : Part) (a : Area) (back : Bool) : tripRefusal p back a ≠ some .queued :=
  firstFailing_ne (by simp)

theorem tripRefusal_eq_none {back : Bool} (h : tripRefusal p back a = none) : admitsRequest p = true :=
  firstFailing_none h (admitsRequest p, .busy) (by simp)

/-! ## The requests served -/

theorem formShelve_of (t : Tag) {m : Nat} (hm : m < 65536) : formShelve (tagParam t ++ nat16 m) = some (t, m) := by
  have hminutes : (BitVec.ofNat 16 m).toNat = m := by
    rw [BitVec.toNat_ofNat]
    exact Nat.mod_eq_of_lt hm
  have hread : formShelve (tagParam t ++ nat16 m) = (formTag (tagParam t)).map fun y =>
      (y, (word16 ((BitVec.ofNat 16 m).extractLsb' 8 8) ((BitVec.ofNat 16 m).extractLsb' 0 8)).toNat) := rfl
  rw [hread, formTag_tagParam, word16_be16, hminutes]
  rfl

section
variable (hl : listening s.part = true) (ho : portOpen s.part = true)
include hl ho

theorem exec_ack (t : Tag) : Machine.exec (.ack (Frame.of (tagParam t))) s =
    .next (s.withPart (serveAck t (requested 8 s.part))) := by
  have hlen : (tagParam t).length < 256 := show 2 < 256 by decide
  obtain ⟨hshort, hform⟩ := frameOf_whole hlen (formTag_tagParam t)
  exact congrArg (fun q => Host.Outcome.next (s.withPart q)) (request_served hl ho hshort hform)

theorem exec_shelve (t : Tag) {m : Nat} (hm : m < 65536) : Machine.exec (.shelve (Frame.of (tagParam t ++ nat16 m))) s =
    .next (s.withPart (serveShelve t m (requested 9 s.part))) := by
  have hlen : (tagParam t ++ nat16 m).length < 256 := show 4 < 256 by decide
  obtain ⟨hshort, hform⟩ := frameOf_whole hlen (formShelve_of t hm)
  change Host.Outcome.next (s.withPart (request 9 false formShelve (fun x => serveShelve x.1 x.2) _ s.part)) = _
  rw [request_served hl ho hshort hform]

theorem exec_unshelve (t : Tag) : Machine.exec (.unshelve (Frame.of (tagParam t))) s =
    .next (s.withPart (serveUnshelve t (requested 10 s.part))) := by
  have hlen : (tagParam t).length < 256 := show 2 < 256 by decide
  obtain ⟨hshort, hform⟩ := frameOf_whole hlen (formTag_tagParam t)
  exact congrArg (fun q => Host.Outcome.next (s.withPart q)) (request_served hl ho hshort hform)

theorem exec_declareTrip (a : Area) : Machine.exec (.declareTrip (Frame.of [areaByte a])) s =
    .next (s.withPart (serveTrip false a (requested 17 s.part))) := by
  have hlen : [areaByte a].length < 256 := show 1 < 256 by decide
  obtain ⟨hshort, hform⟩ := frameOf_whole (form := formArea) hlen (areaOfByte_areaByte a)
  exact congrArg (fun q => Host.Outcome.next (s.withPart q)) (request_served hl ho hshort hform)

theorem exec_restore (a : Area) : Machine.exec (.restore (Frame.of [areaByte a])) s =
    .next (s.withPart (serveTrip true a (requested 18 s.part))) := by
  have hlen : [areaByte a].length < 256 := show 1 < 256 by decide
  obtain ⟨hshort, hform⟩ := frameOf_whole (form := formArea) hlen (areaOfByte_areaByte a)
  exact congrArg (fun q => Host.Outcome.next (s.withPart q)) (request_served hl ho hshort hform)

/-- DECLARE-TRIP and RESTORE are one request, of either sense. -/
theorem exec_trip (a : Area) (back : Bool) : ∃ n,
    Machine.exec (if back then .restore (Frame.of [areaByte a]) else .declareTrip (Frame.of [areaByte a])) s =
      .next (s.withPart (serveTrip back a (requested n s.part))) := by
  cases back
  · exact ⟨17, exec_declareTrip hl ho a⟩
  · exact ⟨18, exec_restore hl ho a⟩

end

end Sys2Proof.Machine

open Sys2Proof.Machine in
/-- Settles O14: the checks by `ackRefusal_getD` and `tripRefusal_getD`, the answer and the telegram by `judged_effect`. -/
theorem ackAndTripRequestsAreJudged : Obligations.AckAndTripRequestsAreJudged := by
  refine ⟨fun s t hl ho => ?_, fun s a back hl ho => ?_⟩
  · obtain ⟨heq, hrefused, hqueued⟩ := judged_effect (p := s.part) 8
      (.acknowledge t (occurrenceOf s.part t) (sessionCredential s.part)) (ackRefusal_ne_queued s.part t)
      fun h => (ackRefusal_eq_none h).2
    refine ⟨_, (ackRefusal s.part t).getD .queued, exec_ack hl ho t, ackRefusal_getD s.part t, ?_⟩
    rw [serveAck_eq]
    refine ⟨congrArg s.withPart heq, hrefused, fun hcode => ?_⟩
    have hnone : ackRefusal s.part t = none := by
      cases hr : ackRefusal s.part t with
      | none => rfl
      | some c => rw [hr] at hcode; exact absurd (hr.trans (congrArg some hcode)) (ackRefusal_ne_queued s.part t)
    obtain ⟨⟨e, he⟩, -⟩ := ackRefusal_eq_none hnone
    have hoccurrence : occurrenceOf s.part t = e.occurrence := by rw [occurrenceOf, he]
    refine ⟨e, he, ?_⟩
    rw [← hoccurrence]
    exact hqueued hcode
  · obtain ⟨n, hexec⟩ := exec_trip hl ho a back
    obtain ⟨heq, hrefused, hqueued⟩ := judged_effect (p := s.part) n (.trip back a (sessionCredential s.part))
      (tripRefusal_ne_queued s.part a back) tripRefusal_eq_none
    refine ⟨_, (tripRefusal s.part back a).getD .queued, hexec, tripRefusal_getD s.part a back, ?_⟩
    rw [serveTrip_eq]
    exact ⟨congrArg s.withPart heq, hrefused, hqueued⟩

open Sys2Proof.Machine in
/-- Settles O15: the checks by `shelveRefusal_getD` and `unshelveRefusal_getD`, the answer and the telegram by `judged_effect`. -/
theorem shelveRequestsAreJudgedInOrder : Obligations.ShelveRequestsAreJudgedInOrder := by
  intro s t m hm hl ho
  refine ⟨?_, ?_⟩
  · obtain ⟨heq, hrefused, hqueued⟩ := judged_effect (p := s.part) 9
      (.shelve t (BitVec.ofNat 16 (clampMinutes s.part m * 60)) (sessionCredential s.part))
      (shelveRefusal_ne_queued s.part t) shelveRefusal_eq_none
    refine ⟨_, (shelveRefusal s.part t).getD .queued, exec_shelve hl ho t hm, shelveRefusal_getD s.part t, ?_⟩
    rw [serveShelve_eq]
    exact ⟨congrArg s.withPart heq, hrefused, hqueued⟩
  · obtain ⟨heq, hrefused, hqueued⟩ := judged_effect (p := s.part) 10 (.shelve t 0 (sessionCredential s.part))
      (unshelveRefusal_ne_queued s.part t) unshelveRefusal_eq_none
    refine ⟨_, (unshelveRefusal s.part t).getD .queued, exec_unshelve hl ho t, unshelveRefusal_getD s.part t, ?_⟩
    rw [serveUnshelve_eq]
    exact ⟨congrArg s.withPart heq, hrefused, hqueued⟩
end


section
/-! PROOFS. ACKNOWLEDGE and SHELVE telegrams (R15, R18, R27, R33, R35, R48, O40): what a changed entry leaves of the table and
the horn's demands, and the cases of each telegram. -/

namespace Sys2Proof.Machine

variable {p : Part} {s : State} {t : Telegram} {tag : Tag} {a : Area} {e : Entry} {n : Occurrence} {w : Word16} {c : Credential}

/-! ## An entry changed, with the entry-change notice -/

/-- Entry `e` stored for its tag, judged by the removal rule, and the horn derived: an entry change that raises nothing. -/
def changed (e : Entry) (p : Part) : Part := deriveHorn (applyRemoval e.tag (putEntry e p))

theorem changed_frameEq (e : Entry) (p : Part) :
    changed e p = { p with atu := (changed e p).atu, anu := (changed e p).anu } :=
  part_ext (by simp [changed]) (by simp [changed]) rfl (by simp [changed]) rfl (by simp [changed]) (by simp [changed])
    (by simp [changed]) (by simp [changed])

theorem changed_effect {y : Entry} (h : findEntry p e.tag = some y) :
    (∀ x, x ≠ e.tag → findEntry (changed e p) x = findEntry p x) ∧ demandsDerived p (changed e p) (fun _ => False) ∧
      (TagsRise p.atu.table → indicatorsFollow p (changed e p)) ∧ findEntry (changed e p) e.tag = unlessRemoved e := by
  have hfind : ∀ x, findEntry (changed e p) x = if x = e.tag then unlessRemoved e else findEntry p x :=
    findEntry_applyRemoval_putEntry e p
  refine ⟨fun x hx => ?_, demandsDerived_quietly (by simp) fun _ => id, fun hrise => ?_, ?_⟩
  · rw [hfind, if_neg hx]
  · exact indicatorsFollow_applyRemoval hrise h
  · rw [hfind, if_pos rfl]

/-- A shelved entry is not subject to the removal rule (R15). -/
theorem changed_shelved (h : e.shelf ≠ none) : changed e p = deriveHorn (putEntry e p) := by
  rw [changed, applyRemoval_putEntry, if_neg fun hgone => h hgone.2.2]

/-! ## ACKNOWLEDGE (R27) -/

theorem exec_takeAcknowledge (h : nextTelegram s.part t) (hp : t.payload = .acknowledge tag n c) :
    Machine.exec .takeAcknowledge s = .next (s.withPart
      { applyAcknowledge tag n c s.part with lif := s.part.lif.taken (encodeTelegram t).length }) := by
  have htaken : takenAcknowledge t s.part = some (applyAcknowledge tag n c s.part) := by rw [takenAcknowledge, hp]
  rw [← takeTelegram_taken h htaken (by simp)]
  rfl

/-- The entry once acknowledged with the telegram's credential. -/
def acknowledgedEntry (p : Part) (e : Entry) (c : Credential) : Entry :=
  { e with
    acknowledged := true, ackCredential := if c = 0 then none else some c, quiet := false, lastChange := p.stc.seconds }

theorem unlessRemoved_acknowledged (p : Part) (e : Entry) (c : Credential) : unlessRemoved (acknowledgedEntry p e c) =
    if e.active = false ∧ e.shelf = none then none else some (acknowledgedEntry p e c) := by
  simp [unlessRemoved, acknowledgedEntry]

theorem applyAcknowledge_dropped (h : tagArea p tag = none ∨ ∃ a, tagArea p tag = some a ∧ followed p a = false) :
    applyAcknowledge tag n c p = p := by
  rcases h with ha | ⟨a, ha, hf⟩
  · simp [applyAcknowledge, ha]
  · simp [applyAcknowledge, ha, hf]

section
variable (ha : tagArea p tag = some a) (hf : followed p a = true)
include ha hf

theorem applyAcknowledge_unstored (hn : findEntry p tag = none) : applyAcknowledge tag n c p = countStaleAck p := by
  simp [applyAcknowledge, ha, hf, hn]

theorem applyAcknowledge_other (he : findEntry p tag = some e) (ho : n ≠ e.occurrence) :
    applyAcknowledge tag n c p = countStaleAck p := by
  simp [applyAcknowledge, ha, hf, he, compareOccurrence_equal, ho]

theorem applyAcknowledge_again (he : findEntry p tag = some e) (ho : n = e.occurrence) (hk : e.acknowledged = true) :
    applyAcknowledge tag n c p = countDuplicateAck p := by
  simp [applyAcknowledge, ha, hf, he, compareOccurrence_equal, ho, hk]

theorem applyAcknowledge_first (he : findEntry p tag = some e) (ho : n = e.occurrence) (hk : e.acknowledged = false) :
    applyAcknowledge tag n c p = changed (acknowledgedEntry p e c) p := by
  simp [applyAcknowledge, ha, hf, he, compareOccurrence_equal, ho, hk, changed, acknowledgedEntry, findEntry_tag he, now]

end

/-! ## SHELVE (R33, R35) -/

theorem exec_takeShelve (h : nextTelegram s.part t) (hp : t.payload = .shelve tag w c) (hw : w ≠ 0) :
    Machine.exec .takeShelve s = .next (s.withPart
      { applyShelve tag w c t.source s.part with lif := s.part.lif.taken (encodeTelegram t).length }) := by
  have htaken : takenShelve t s.part = some (applyShelve tag w c t.source s.part) := by simpa [takenShelve, hp] using hw
  rw [← takeTelegram_taken h htaken (by simp)]
  rfl

theorem clampShelf_eq (w : Word16) :
    clampShelf w = if w.toNat < 60 then 60 else if 28800 < w.toNat then 28800 else w.toNat := by
  simp only [clampShelf, Config.shelfMax, Config.shelfMin]
  (repeat' split) <;> omega

/-- The entry with a shelf of the clamped seconds, from station `x`. -/
def shelvedEntry (p : Part) (e : Entry) (w : Word16) (c : Credential) (x : StationNo) : Entry :=
  { e with
    shelf := some {
      seconds := if w.toNat < 60 then 60 else if 28800 < w.toNat then 28800 else w.toNat, credential := c, station := x },
    lastChange := p.stc.seconds }

theorem unlessRemoved_shelved (p : Part) (e : Entry) (w : Word16) (c : Credential) (x : StationNo) :
    unlessRemoved (shelvedEntry p e w c x) = some (shelvedEntry p e w c x) := by
  simp [unlessRemoved, shelvedEntry]

theorem applyShelve_dropped {x : StationNo} (h : tagArea p tag = none ∨ ∃ a, tagArea p tag = some a ∧ followed p a = false) :
    applyShelve tag w c x p = p := by
  rcases h with ha | ⟨a, ha, hf⟩
  · simp [applyShelve, ha]
  · simp [applyShelve, ha, hf]

section
variable {x : StationNo} (ha : tagArea p tag = some a) (hf : followed p a = true)
include ha hf

theorem applyShelve_unstored (hn : findEntry p tag = none) : applyShelve tag w c x p = countStaleAck p := by
  simp [applyShelve, ha, hf, hn]

theorem applyShelve_barred (he : findEntry p tag = some e) (hb : e.priority = .p1 ∨ emergency p e.area = true) :
    applyShelve tag w c x p = countStaleAck p := by
  simp [applyShelve, ha, hf, he, hb]

theorem applyShelve_stored (he : findEntry p tag = some e) (hp : e.priority ≠ .p1) (hem : emergency p e.area = false) :
    applyShelve tag w c x p = changed (shelvedEntry p e w c x) p := by
  rw [changed_shelved (by simp [shelvedEntry])]
  simp [applyShelve, ha, hf, he, hp, hem, shelvedEntry, clampShelf_eq, now]

/-- The effect of a SHELVE on the table and the demands. -/
theorem applyShelve_effect (he : findEntry p tag = some e) (hp : e.priority ≠ .p1) (hem : emergency p e.area = false) :
    applyShelve tag w c x p =
        { p with atu := (applyShelve tag w c x p).atu, anu := (applyShelve tag w c x p).anu } ∧
      (∀ y, y ≠ tag → findEntry (applyShelve tag w c x p) y = findEntry p y) ∧
      demandsDerived p (applyShelve tag w c x p) (fun _ => False) ∧
      (TagsRise p.atu.table → indicatorsFollow p (applyShelve tag w c x p)) ∧
      findEntry (applyShelve tag w c x p) tag = some (shelvedEntry p e w c x) := by
  obtain rfl := findEntry_tag he
  rw [applyShelve_stored ha hf he hp hem, ← unlessRemoved_shelved]
  exact ⟨changed_frameEq .., changed_effect (e := shelvedEntry p e w c x) he⟩

/-- The effect of a first ACKNOWLEDGE on the table and the demands. -/
theorem applyAcknowledge_effect (he : findEntry p tag = some e) (ho : n = e.occurrence) (hk : e.acknowledged = false) :
    applyAcknowledge tag n c p =
        { p with atu := (applyAcknowledge tag n c p).atu, anu := (applyAcknowledge tag n c p).anu } ∧
      (∀ y, y ≠ tag → findEntry (applyAcknowledge tag n c p) y = findEntry p y) ∧
      demandsDerived p (applyAcknowledge tag n c p) (fun _ => False) ∧
      (TagsRise p.atu.table → indicatorsFollow p (applyAcknowledge tag n c p)) ∧
      findEntry (applyAcknowledge tag n c p) tag =
        if e.active = false ∧ e.shelf = none then none else some (acknowledgedEntry p e c) := by
  obtain rfl := findEntry_tag he
  rw [applyAcknowledge_first ha hf he ho hk, ← unlessRemoved_acknowledged]
  exact ⟨changed_frameEq .., changed_effect (e := acknowledgedEntry p e c) he⟩

end

/-! ## A shelf of credential 0 in a report (R35) -/

theorem entryBytes_shelfCredential {h : Shelf} (hs : e.shelf = some h) :
    ((entryBytes e).drop 10).take 3 = be24 h.credential := by
  rw [entryBytes, hs]
  rfl

/-- Bit 5 of the entry record's flags says that the entry carries a shelf. -/
theorem entryBytes_shelfFlag {h : Shelf} (hs : e.shelf = some h) :
    ∃ b, (entryBytes e)[3]? = some b ∧ b.getLsbD 5 = true := by
  have hstate : stateCodeOf e = entryStateCode .shelved := by rw [stateCodeOf, entryState, hs]
  refine ⟨_, rfl, ?_⟩
  rw [hstate, hs, Option.isSome_some]
  cases e.quiet <;> cases e.ackCredential.isSome <;> decide

end Sys2Proof.Machine

open Sys2Proof.Machine in
/-- Settles O40: the telegrams' cases by the equations of `applyAcknowledge` and `applyShelve`, an entry's change by
`changed_effect`, the own SHELVE by O33. -/
theorem acknowledgeAndShelveAreApplied : Obligations.AcknowledgeAndShelveAreApplied := by
  refine ⟨fun s t tag n c h hp => ⟨fun hdrop => ?_, fun a ha hf => ⟨fun hnone => ?_, fun e he =>
      ⟨fun ho => ?_, fun ho hk => ?_, fun ho hk => ?_⟩⟩⟩,
    fun s t tag n c h hp hn => ⟨fun hdrop => ?_, fun a ha hf => ⟨fun hnone => ?_, fun e he => ⟨fun hb => ?_, fun hb hem => ?_⟩⟩⟩,
    fun s k x tag n c a e h hw hp hn ha hf he hb hem => ?_, fun e h hs hc => ⟨?_, entryBytes_shelfFlag hs⟩⟩
  · rw [exec_takeAcknowledge h hp, applyAcknowledge_dropped hdrop]
  · rw [exec_takeAcknowledge h hp, applyAcknowledge_unstored ha hf hnone]
    rfl
  · rw [exec_takeAcknowledge h hp, applyAcknowledge_other ha hf he ho]
    rfl
  · rw [exec_takeAcknowledge h hp, applyAcknowledge_again ha hf he ho hk]
    rfl
  · obtain ⟨heq, heffect⟩ := applyAcknowledge_effect (c := c) ha hf he ho hk
    refine ⟨_, exec_takeAcknowledge h hp, ?_, heffect⟩
    rw [heq]
    rfl
  · rw [exec_takeShelve h hp hn, applyShelve_dropped hdrop]
  · rw [exec_takeShelve h hp hn, applyShelve_unstored ha hf hnone]
    rfl
  · rw [exec_takeShelve h hp hn, applyShelve_barred ha hf he hb]
    rfl
  · obtain ⟨heq, heffect⟩ := applyShelve_effect (w := n) (c := c) (x := t.source) ha hf he hb hem
    refine ⟨_, exec_takeShelve h hp hn, ?_, heffect⟩
    rw [heq]
    rfl
  · obtain ⟨-, hown, -⟩ := ownCompletionAppliesTelegram s k x h hw
    obtain ⟨-, -, -, -, hentry⟩ := applyShelve_effect (w := n) (c := c) (x := s.part.stc.number) ha hf he hb hem
    refine ⟨_, hown tag n c hp, ?_⟩
    rw [if_neg hn]
    exact hentry
  · rw [entryBytes_shelfCredential hs, hc]
    rfl
end


section
/-! PROOFS. The 1 s tick (R37, R66, R90, R93, R97, R101–R103, R117, R122, R140, R174, O3): what falls due on it, how each count
is lowered, and that claims change no other count. -/

namespace Sys2Proof.Machine

variable {p q r : Part} {a : Area} {c : Instr}

/-! ## What falls due -/

/-- The command is of an expiry that this tick brings about. -/
def fallsDue (p : Part) : Instr → Prop
  | .shelfExpiry t => ∃ e ∈ p.atu.table, e.tag = t ∧ ∃ x, e.shelf = some x ∧ x.seconds ≤ 1
  | .meteringTick => (p.stc.seconds + 1).toNat % 10 = 0 ∧ p.stc.seconds + 1 ≠ 0
  | .reliefWindowExpiry => p.ssu.armed = true ∧ p.ssu.window ≤ 1
  | .graceExpiry => p.aru.graceRunning = true ∧ p.aru.grace ≤ 1
  | .stationUnheard x => ∃ h ∈ p.aru.stations, h.station = x ∧ ageDue h.age h.period = true
  | .holderAged a => (view p a).holder ≠ 0 ∧ ageDue (view p a).age (view p a).holderPeriod = true
  | .claimDelayRun a => orphaned p a = true ∧ (view p a).claimDelay = 1
  | .beaconScheduleDue => running p = true ∧ p.aru.schedule = 1
  | .gapTimeout r => ∃ x, p.hou.receptions.get r = some x ∧ x.state = .receiving ∧ x.gap ≤ 1
  | .reviewTimeout r =>
    ∃ x, p.hou.receptions.get r = some x ∧ x.kind = .handover ∧ x.state = .review ∧ x.mark = .none ∧ x.timer ≤ 1
  | .releaseTimeout r => ∃ x, p.hou.receptions.get r = some x ∧ x.state = .accepted ∧ x.timer ≤ 1
  | .replyTimeout r => ∃ o, p.hou.offers.get r = some o ∧ o.state = .offered ∧ o.replyTimer ≤ 1
  | .answerGapExpiry i => ∃ x, p.hou.answers[i.val]? = some x ∧ x.state = .waitingEnd ∧ x.gap ≤ 1
  | .settleEnd => starting p = true ∧ p.stc.settle ≤ 1
  | .isolationEnd => isolated p = true ∧ p.stc.isolation ≤ 1
  | _ => False

theorem mem_dueShelves : c ∈ dueShelves p ↔ ∃ t, c = .shelfExpiry t ∧ fallsDue p (.shelfExpiry t) := by
  simp only [dueShelves, List.mem_map, List.mem_filter, Option.any_eq_true, decide_eq_true_eq]
  constructor
  · rintro ⟨e, ⟨he, x, hx, hsec⟩, rfl⟩
    exact ⟨e.tag, rfl, e, he, rfl, x, hx, hsec⟩
  · rintro ⟨t, rfl, e, he, rfl, x, hx, hsec⟩
    exact ⟨e, ⟨he, x, hx, hsec⟩, rfl⟩

/-- A list that holds its one command when the condition is met. -/
theorem mem_ifDue {k : Prop} [Decidable k] {d : Instr} : c ∈ (if k then [d] else []) ↔ c = d ∧ k := by
  rw [List.mem_ite_nil_right, List.mem_singleton, and_comm]

theorem mem_dueMetering : c ∈ dueMetering p ↔ c = .meteringTick ∧ fallsDue p .meteringTick := mem_ifDue

theorem mem_dueSession : c ∈ dueSession p ↔
    (c = .reliefWindowExpiry ∧ fallsDue p .reliefWindowExpiry) ∨ (c = .graceExpiry ∧ fallsDue p .graceExpiry) := by
  rw [dueSession, List.mem_append, mem_ifDue, mem_ifDue]
  rfl

/-- A list of the commands of the areas, or records, that satisfy `f`. -/
theorem mem_mapDue {α : Type} {l : List α} {f : α → Bool} {d : α → Instr} :
    c ∈ (l.filter f).map d ↔ ∃ x, c = d x ∧ x ∈ l ∧ f x = true := by
  simp only [List.mem_map, List.mem_filter, eq_comm, and_comm]

theorem mem_dueResponsibility : c ∈ dueResponsibility p ↔
    (∃ x, c = .stationUnheard x ∧ fallsDue p (.stationUnheard x)) ∨ (∃ a, c = .holderAged a ∧ fallsDue p (.holderAged a)) ∨
      (∃ a, c = .claimDelayRun a ∧ fallsDue p (.claimDelayRun a)) ∨
      (c = .beaconScheduleDue ∧ fallsDue p .beaconScheduleDue) := by
  have hheard : (∃ h, c = .stationUnheard h.station ∧ h ∈ p.aru.stations ∧ ageDue h.age h.period = true) ↔
      ∃ x, c = .stationUnheard x ∧ fallsDue p (.stationUnheard x) := by
    constructor
    · rintro ⟨h, rfl, hh, hdue⟩
      exact ⟨h.station, rfl, h, hh, rfl, hdue⟩
    · rintro ⟨x, rfl, h, hh, rfl, hdue⟩
      exact ⟨h, rfl, hh, hdue⟩
  rw [dueResponsibility, List.mem_append, List.mem_append, List.mem_append, mem_mapDue, mem_mapDue, mem_mapDue, mem_ifDue,
    hheard]
  simp only [allAreas, List.mem_finRange, true_and, Bool.and_eq_true, decide_eq_true_eq, or_assoc]
  exact Iff.rfl

theorem mem_dueReceptions {f : Reception → Bool} {d : Fin 4 → Instr} : c ∈ dueReceptions p f d ↔
    ∃ i, c = d i ∧ ∃ x, p.hou.receptions.get i = some x ∧ f x = true := by
  simp [dueReceptions, mem_mapDue, Option.any_eq_true]

theorem mem_dueTransfers : c ∈ dueTransfers p ↔
    (∃ i, c = .gapTimeout i ∧ fallsDue p (.gapTimeout i)) ∨ (∃ i, c = .reviewTimeout i ∧ fallsDue p (.reviewTimeout i)) ∨
      (∃ i, c = .releaseTimeout i ∧ fallsDue p (.releaseTimeout i)) ∨
      (∃ i, c = .replyTimeout i ∧ fallsDue p (.replyTimeout i)) ∨
      ∃ i, c = .answerGapExpiry i ∧ fallsDue p (.answerGapExpiry i) := by
  rw [dueTransfers, List.mem_append, List.mem_append, List.mem_append, List.mem_append, mem_dueReceptions, mem_dueReceptions,
    mem_dueReceptions, mem_mapDue, mem_mapDue]
  simp only [List.mem_finRange, true_and, Option.any_eq_true, Bool.and_eq_true, decide_eq_true_eq, or_assoc, and_assoc]
  exact Iff.rfl

theorem mem_dueStation : c ∈ dueStation p ↔
    (c = .settleEnd ∧ fallsDue p .settleEnd) ∨ (c = .isolationEnd ∧ fallsDue p .isolationEnd) := by
  rw [dueStation, List.mem_append, mem_ifDue, mem_ifDue]
  rfl

/-- Each count that runs out puts its own command in the queue, and nothing else does. -/
theorem mem_dueCommands : c ∈ dueCommands p ↔ fallsDue p c := by
  simp only [dueCommands, List.mem_append, mem_dueShelves, mem_dueMetering, mem_dueSession, mem_dueResponsibility,
    mem_dueTransfers, mem_dueStation]
  constructor
  · rintro (((((⟨t, rfl, h⟩ | ⟨rfl, h⟩) | ⟨rfl, h⟩ | ⟨rfl, h⟩) | ⟨x, rfl, h⟩ | ⟨a, rfl, h⟩ | ⟨a, rfl, h⟩ | ⟨rfl, h⟩) |
      ⟨i, rfl, h⟩ | ⟨i, rfl, h⟩ | ⟨i, rfl, h⟩ | ⟨i, rfl, h⟩ | ⟨i, rfl, h⟩) | ⟨rfl, h⟩ | ⟨rfl, h⟩)
    all_goals exact h
  · intro h
    cases c with
    | shelfExpiry | meteringTick | reliefWindowExpiry | graceExpiry | stationUnheard | holderAged | claimDelayRun
    | beaconScheduleDue | gapTimeout | reviewTimeout | releaseTimeout | replyTimeout | answerGapExpiry | settleEnd
    | isolationEnd => simpa using h
    | _ => exact False.elim h

/-- The commands of which an expiry on a tick can be. -/
theorem fallsDue_kinds (h : fallsDue p c) : c ∈ [Instr.meteringTick, .reliefWindowExpiry, .graceExpiry, .beaconScheduleDue,
      .settleEnd, .isolationEnd] ∨ (∃ t, c = .shelfExpiry t) ∨ (∃ x, c = .stationUnheard x) ∨ (∃ a, c = .holderAged a) ∨
    (∃ a, c = .claimDelayRun a) ∨ (∃ r, c = .gapTimeout r) ∨ (∃ r, c = .reviewTimeout r) ∨ (∃ r, c = .releaseTimeout r) ∨
    (∃ r, c = .replyTimeout r) ∨ ∃ i, c = .answerGapExpiry i := by
  cases c with
  | shelfExpiry | meteringTick | reliefWindowExpiry | graceExpiry | stationUnheard | holderAged | claimDelayRun
  | beaconScheduleDue | gapTimeout | reviewTimeout | releaseTimeout | replyTimeout | answerGapExpiry | settleEnd
  | isolationEnd => simp
  | _ => exact False.elim h

/-! ## Claims change no other count (R103) -/

/-- ARU but for the views and the beacon's marks: the station list and ARU's own counts. -/
def SameCounts (x y : Aru) : Prop := ∃ vs m o, y = { x with views := vs, beaconMark := m, beaconOwed := o }

theorem SameCounts.refl (x : Aru) : SameCounts x x := ⟨x.views, x.beaconMark, x.beaconOwed, rfl⟩

theorem SameCounts.trans {x y z : Aru} (h : SameCounts x y) (k : SameCounts y z) : SameCounts x z := by
  obtain ⟨_, _, _, rfl⟩ := h
  obtain ⟨vs, m, o, rfl⟩ := k
  exact ⟨vs, m, o, rfl⟩

theorem sameCounts_callBeacon (p : Part) : SameCounts p.aru (callBeacon p).aru := by
  unfold callBeacon
  (repeat' split)
  · simp only [pushTelegram, ownerTelegram]
    (repeat' split)
    · simp only [placeTelegram]
      split <;> exact ⟨_, _, _, rfl⟩
    · exact ⟨_, _, _, rfl⟩
    · exact ⟨_, _, _, rfl⟩
  · exact .refl _
  · exact ⟨_, _, _, rfl⟩
  · exact .refl _

theorem sameCounts_changeRole (a : Area) (x : Role) (p : Part) : SameCounts p.aru (changeRole a x p).aru := by
  unfold changeRole
  split
  · exact .refl _
  · simp only [deriveHorn_frame]
    split
    · exact ⟨_, _, _, rfl⟩
    · exact ⟨_, _, _, rfl⟩

theorem sessionActive_of_canClaim (h : canClaim p a = true) : sessionActive p = true := by
  simp only [canClaim, Bool.and_eq_true] at h
  obtain ⟨⟨⟨-, hmay⟩, -⟩, -⟩ := h
  unfold mayHold sessionOperator at hmay
  unfold sessionActive
  cases hs : p.ssu.session with
  | none => simp [hs] at hmay
  | some x => rfl

/-- An attended gain starts no grace timer (R90). -/
theorem sameCounts_gainArea (h : sessionActive p = true) : SameCounts p.aru (gainArea a p).aru := by
  have hssu : (callBeacon (changeRole a .hold (viewCleared a p))).ssu = p.ssu := by simp [viewCleared]
  have hsession : sessionActive (callBeacon (changeRole a .hold (viewCleared a p))) = true := by
    rw [sessionActive, hssu]
    exact h
  have hcleared : SameCounts p.aru (viewCleared a p).aru := ⟨_, _, _, rfl⟩
  rw [gainArea_eq, if_pos hsession]
  exact hcleared.trans ((sameCounts_changeRole ..).trans (sameCounts_callBeacon _))

theorem claimDelay_gainArea (a : Area) (p : Part) : (view (gainArea a p) a).claimDelay = (view p a).claimDelay := by
  have hcleared : (view (viewCleared a p) a).claimDelay = (view p a).claimDelay := by
    have hview : ∀ q, view (dropOwedSync a q) a = view (modView a (fun v =>
      { v with mismatch := 0, resync := 0, syncMark := match v.syncMark with | .owed => .none | m => m }) q) a := fun _ => rfl
    rw [viewCleared, hview, view_modView_self, view_modView_self]
    rfl
  obtain ⟨hviews, -⟩ := gainArea_rest a p
  rw [hviews, view_changeRole, if_pos rfl]
  exact hcleared

/-- What claims leave of the counts: all of ARU's own, and the views but those of areas gained, which keep their claim
delay. -/
structure CountsKept (p q : Part) : Prop where
  counts : SameCounts p.aru q.aru
  views : ∀ a, view q a = view p a ∨
    (orphaned p a = true ∧ holds q a = true ∧ (view q a).claimDelay = (view p a).claimDelay)

theorem CountsKept.refl (p : Part) : CountsKept p p := ⟨.refl _, fun _ => .inl rfl⟩

theorem orphaned_of_view (h : view q a = view p a) : orphaned q a = orphaned p a := by
  rw [orphaned, orphaned, h, holds_of_view h]

theorem not_holds_of_orphaned (h : orphaned p a = true) : holds p a = false := by
  simpa using (Bool.and_eq_true_iff.1 h).2

theorem CountsKept.trans (h : CountsKept p q) (k : CountsKept q r) : CountsKept p r where
  counts := h.counts.trans k.counts
  views := fun a => by
    rcases h.views a with hsame | ⟨horphaned, hheld, hdelay⟩
    · rcases k.views a with hnext | ⟨horphaned, hheld, hdelay⟩
      · exact .inl (hnext.trans hsame)
      · exact .inr ⟨(orphaned_of_view hsame).symm.trans horphaned, hheld, by rw [hdelay, hsame]⟩
    · rcases k.views a with hnext | ⟨hlost, -⟩
      · exact .inr ⟨horphaned, (holds_of_view hnext).trans hheld, by rw [hnext, hdelay]⟩
      · exact absurd hheld (by rw [not_holds_of_orphaned hlost]; exact Bool.false_ne_true)

theorem countsKept_claimArea (p : Part) (a : Area) : CountsKept p (claimArea p a) := by
  unfold claimArea
  split
  · next hcan =>
    obtain ⟨hother, hheld, -⟩ := view_gainArea a p
    refine ⟨sameCounts_gainArea (sessionActive_of_canClaim hcan), fun b => ?_⟩
    by_cases hb : b = a
    · have horphaned : orphaned p a = true := by
        simp only [canClaim, Bool.and_eq_true] at hcan
        obtain ⟨⟨⟨⟨⟨horphaned, -⟩, -⟩, -⟩, -⟩, -⟩ := hcan
        exact horphaned
      rw [hb]
      exact .inr ⟨horphaned, hheld, claimDelay_gainArea a p⟩
    · exact .inl (hother b hb)
  · exact .refl p

theorem countsKept_judgeClaims (p : Part) : CountsKept p (judgeClaims p) :=
  foldl_keeps (P := CountsKept p) (fun q a h => h.trans (countsKept_claimArea q a)) (.refl p) allAreas

/-! ## The counts lowered -/

/-- The part with every count of this tick lowered, before claims are judged. -/
def counted (p : Part) : Part :=
  { p with
    stc := tickStc { p.stc with seconds := p.stc.seconds + 1 }, atu := tickAtu p.atu, ssu := tickSsu p.ssu,
    aru := tickAru (running p) p.aru, hou := tickHou p.hou }

theorem step_idle_listening (h : listening p = true) : step { part := p, pending := [] } =
    .next { part := judgeClaims (counted p), pending := dueCommands p } := by
  change Host.Outcome.next (tickStep { part := p, pending := [] }) = _
  rw [tickStep, if_neg (by simpa using listening_station h), if_pos h]
  rfl

theorem step_idle_unconfigured (h : unconfigured p = true) : step { part := p, pending := [] } =
    .next { part := { p with stc := { p.stc with seconds := p.stc.seconds + 1 } }, pending := [] } := by
  have hstation : p.stc.station = some .unconfigured := of_decide_eq_true h
  change Host.Outcome.next (tickStep { part := p, pending := [] }) = _
  rw [tickStep, if_neg (by simp [hstation]), if_neg (by simp [listening, starting, running, isolated, hstation])]
  rfl

theorem step_idle_resetting (h : p.stc.station = none) : step { part := p, pending := [] } =
    .next { part := p, pending := [] } := by
  change Host.Outcome.next (tickStep { part := p, pending := [] }) = _
  rw [tickStep, if_pos (by simp [h])]

theorem counted_stc (p : Part) : (counted p).stc = { p.stc with
    seconds := p.stc.seconds + 1,
    settle := if starting p = true then lower p.stc.settle else p.stc.settle,
    isolation := if isolated p = true then lower p.stc.isolation else p.stc.isolation } := by
  simp [counted, tickStc, starting, isolated]

theorem counted_stations (p : Part) : (counted p).aru.stations = p.aru.stations.map fun h =>
    { h with age := if ageDue h.age h.period = true then h.age else h.age + 1 } := by
  refine List.map_congr_left fun h _ => ?_
  split <;> rfl

theorem view_counted (p : Part) (a : Area) : view (counted p) a = tickView (view p a) := by
  simp [view, counted, tickAru]

theorem orphaned_counted (p : Part) (a : Area) : orphaned (counted p) a = orphaned p a := by
  simp only [orphaned, holds, view_counted]
  rfl

theorem holds_counted (p : Part) (a : Area) : holds (counted p) a = holds p a := by
  simp only [holds, view_counted]
  rfl

theorem claimDelay_counted (p : Part) (a : Area) : (view (counted p) a).claimDelay =
    if orphaned p a = true then lower (view p a).claimDelay else (view p a).claimDelay := by
  simp [view_counted, tickView, orphaned, holds]

theorem age_counted (h : (view p a).holder ≠ 0) : (view (counted p) a).age =
    if ageDue (view p a).age (view p a).holderPeriod = true then (view p a).age else (view p a).age + 1 := by
  simp only [view_counted, tickView, h, false_or]

theorem tickReception_eq (x : Reception) : tickReception x = { x with
    gap := if x.state = .receiving then lower x.gap else x.gap,
    timer := if x.state = .accepted ∨ (x.state = .review ∧ x.mark = .none) then lower x.timer else x.timer } := by
  unfold tickReception
  cases hx : x.state <;> simp

/-- A view after the tick: a recorded holder and its age, the claim delay, and the resync of an area not gained. -/
theorem view_ticked (p : Part) (a : Area) :
    let u := judgeClaims (counted p)
    ((view p a).holder ≠ 0 → (view u a).holder = (view p a).holder ∧ (view u a).age =
      if ageDue (view p a).age (view p a).holderPeriod = true then (view p a).age else (view p a).age + 1) ∧
    (view u a).claimDelay = (if orphaned p a = true then lower (view p a).claimDelay else (view p a).claimDelay) ∧
    (holds u a = holds p a → (view u a).resync = (view p a).resync - 1) := by
  intro u
  have hview : view u a = view (counted p) a ∨ (orphaned (counted p) a = true ∧ holds u a = true ∧
      (view u a).claimDelay = (view (counted p) a).claimDelay) := (countsKept_judgeClaims (counted p)).views a
  rcases hview with hsame | ⟨horphaned, hheld, hdelay⟩
  · rw [hsame]
    refine ⟨fun hholder => ⟨?_, age_counted hholder⟩, claimDelay_counted p a, fun _ => ?_⟩
    · rw [view_counted]; rfl
    · rw [view_counted]; rfl
  · rw [orphaned_counted] at horphaned
    refine ⟨fun hholder => ?_, hdelay.trans (claimDelay_counted p a), fun hsame => ?_⟩
    · exact absurd (of_decide_eq_true (Bool.and_eq_true_iff.1 horphaned).1) hholder
    · rw [hsame, not_holds_of_orphaned horphaned] at hheld
      exact absurd hheld Bool.false_ne_true

theorem counted_hou (p : Part) : (counted p).hou = { p.hou with
    offers := tabulate fun r => (p.hou.offers.get r).map fun o =>
      { o with replyTimer := if o.state = .offered then lower o.replyTimer else o.replyTimer },
    receptions := tabulate fun r => (p.hou.receptions.get r).map fun x =>
      { x with
        gap := if x.state = .receiving then lower x.gap else x.gap,
        timer := if x.state = .accepted ∨ (x.state = .review ∧ x.mark = .none) then lower x.timer else x.timer },
    answers := p.hou.answers.map fun x =>
      { x with gap := if x.state = .waitingEnd then lower x.gap else x.gap } } := by
  simp only [counted, tickHou, ← tickReception_eq]
  rfl

end Sys2Proof.Machine

open Sys2Proof.Machine in
/-- Settles O3: the counts by `counted`, which claims leave alone (`countsKept_judgeClaims`), the queue by `mem_dueCommands`. -/
theorem idleStepIsOneSecondTick : Obligations.IdleStepIsOneSecondTick := by
  intro p lowered past
  have hlowered : lowered = lower := rfl
  have hpast : past = ageDue := rfl
  clear_value lowered past
  subst hlowered hpast
  refine ⟨fun hl => ?_, step_idle_unconfigured, step_idle_resetting⟩
  have hstep := step_idle_listening hl
  have hviews := view_ticked p
  have hhou := (claims_judgeClaims (counted p)).hou
  obtain ⟨hstc, hatu, hldm, hssu⟩ := judgeClaims_frame (counted p)
  obtain ⟨vs, m, o, haru⟩ := (countsKept_judgeClaims (counted p)).counts
  generalize judgeClaims (counted p) = q at *
  refine ⟨_, hstep, hstc.trans (counted_stc p), hatu, hldm, hssu, ?_, ?_, ?_, ?_, hviews, hhou.trans (counted_hou p),
    fun t => mem_dueCommands, mem_dueCommands, mem_dueCommands, mem_dueCommands, fun x => mem_dueCommands,
    fun a => mem_dueCommands, fun a => mem_dueCommands, mem_dueCommands, fun r => mem_dueCommands, fun r => mem_dueCommands,
    fun r => mem_dueCommands, fun r => mem_dueCommands, fun i => mem_dueCommands, mem_dueCommands, mem_dueCommands,
    fun c hc => fallsDue_kinds (mem_dueCommands.1 hc)⟩
  · exact (congrArg Aru.stations haru).trans (counted_stations p)
  · exact congrArg Aru.schedule haru
  · exact (congrArg Aru.graceRunning haru).trans rfl
  · exact congrArg Aru.grace haru
end


section
/-! PROOFS. What keeps the event queue, the holders, the roles and the panel in order (R49, R52, R92, R94, R167): three relations
between the part before and after an operation, and the operations that touch none of the four. -/

namespace Sys2Proof.Machine

/-- What R92 and R94 read of a view. -/
def View.standing (v : View) : Role × StationNo × Bool × Bool := (v.role, v.holder, v.attended, v.relinquished)

/-- Only a listening station holds areas (R94). -/
def HeldListens (p : Part) : Prop := ∀ a, holds p a = true → listening p = true

/-- Nothing that a role rests on has changed, and the event queue and the panel are in order if they were. -/
structure Steady (p q : Part) : Prop where
  station : q.stc.station = p.stc.station
  settings : q.stc.settings = p.stc.settings
  views : ∀ a, (view q a).standing = (view p a).standing
  receptions : ∀ r, (q.hou.receptions.get r).map Reception.area = (p.hou.receptions.get r).map Reception.area
  events : EventsFine p → EventsFine q
  panel : PanelFine p → PanelFine q

/-- The roles are still to be derived afresh; all else is in order if it was. -/
structure Ruffles (p q : Part) : Prop where
  events : EventsFine p → EventsFine q
  holder : HolderFine p → HolderFine q
  panel : PanelFine p → PanelFine q
  held : HeldListens p → HeldListens q

/-- Every one of the four is in order if it was. -/
structure Orders (p q : Part) : Prop where
  events : EventsFine p → EventsFine q
  holder : HolderFine p → HolderFine q
  panel : PanelFine p → PanelFine q
  role : RoleFine p → RoleFine q

variable {p q r : Part}

theorem Steady.refl (p : Part) : Steady p p := ⟨rfl, rfl, fun _ => rfl, fun _ => rfl, id, id⟩
theorem Ruffles.refl (p : Part) : Ruffles p p := ⟨id, id, id, id⟩
theorem Orders.refl (p : Part) : Orders p p := ⟨id, id, id, id⟩

theorem Steady.trans (h : Steady p q) (k : Steady q r) : Steady p r where
  station := k.station.trans h.station
  settings := k.settings.trans h.settings
  views := fun a => (k.views a).trans (h.views a)
  receptions := fun i => (k.receptions i).trans (h.receptions i)
  events := k.events ∘ h.events
  panel := k.panel ∘ h.panel

theorem Ruffles.trans (h : Ruffles p q) (k : Ruffles q r) : Ruffles p r :=
  ⟨k.events ∘ h.events, k.holder ∘ h.holder, k.panel ∘ h.panel, k.held ∘ h.held⟩

theorem Orders.trans (h : Orders p q) (k : Orders q r) : Orders p r :=
  ⟨k.events ∘ h.events, k.holder ∘ h.holder, k.panel ∘ h.panel, k.role ∘ h.role⟩

theorem steady_ite (c : Prop) [Decidable c] (hq : Steady p q) (hr : Steady p r) : Steady p (if c then q else r) := by
  split
  · exact hq
  · exact hr

theorem ruffles_ite (c : Prop) [Decidable c] (hq : Ruffles p q) (hr : Ruffles p r) : Ruffles p (if c then q else r) := by
  split
  · exact hq
  · exact hr

theorem orders_ite (c : Prop) [Decidable c] (hq : Orders p q) (hr : Orders p r) : Orders p (if c then q else r) := by
  split
  · exact hq
  · exact hr

theorem steady_foldl {α : Type} {f : Part → α → Part} (hf : ∀ p x, Steady p (f p x)) (l : List α) (p : Part) :
    Steady p (l.foldl f p) :=
  foldl_keeps (P := Steady p) (fun q x h => h.trans (hf q x)) (Steady.refl p) l

theorem ruffles_foldl {α : Type} {f : Part → α → Part} (hf : ∀ p x, Ruffles p (f p x)) (l : List α) (p : Part) :
    Ruffles p (l.foldl f p) :=
  foldl_keeps (P := Ruffles p) (fun q x h => h.trans (hf q x)) (Ruffles.refl p) l

theorem orders_foldl {α : Type} {f : Part → α → Part} (hf : ∀ p x, Orders p (f p x)) (l : List α) (p : Part) :
    Orders p (l.foldl f p) :=
  foldl_keeps (P := Orders p) (fun q x h => h.trans (hf q x)) (Orders.refl p) l

/-! ## Roles (R94) -/

theorem holds_of_role (h : (view q a).role = (view p a).role) : holds q a = holds p a := by rw [holds, h]; rfl

theorem listening_congr (h : q.stc.station = p.stc.station) : listening q = listening p := by
  unfold listening starting running isolated; rw [h]

theorem receptionFor_isSome_congr
    (h : ∀ r, (q.hou.receptions.get r).map Reception.area = (p.hou.receptions.get r).map Reception.area) (a : Area) :
    receptionFor q a = none ↔ receptionFor p a = none := by
  rw [receptionFor_eq_none, receptionFor_eq_none]
  exact forall_congr' fun r => by rw [h]

/-- The table of R94 reads the standing of the view, the settings, the station state and the reception records. -/
theorem roleByTable_congr {a : Area} (hs : q.stc.station = p.stc.station) (hc : q.stc.settings = p.stc.settings)
    (hv : (view q a).standing = (view p a).standing)
    (hr : receptionFor q a = none ↔ receptionFor p a = none) : roleByTable q a = roleByTable p a := by
  simp only [View.standing, Prod.mk.injEq] at hv
  obtain ⟨hrole, hholder, hattended, hrelinquished⟩ := hv
  have hnone : (receptionFor q a ≠ none) = (receptionFor p a ≠ none) := propext (not_congr hr)
  simp only [roleByTable, listening_congr hs, holds_of_role hrole, inHome, inStandby, inWatch, hc, hholder, hattended,
    hrelinquished]
  congr 3
  exact if_congr (by rw [hnone]) rfl rfl

/-- The roles of a part in order: none unless it listens, and that of R94's table where the area is not held. -/
theorem roleFine_iff : RoleFine p ↔ HeldListens p ∧ ∀ a, holds p a = false → (view p a).role = unheldRole p a := by
  have hunheld : ∀ a, holds p a = false → unheldRole p a = roleByTable p a := by
    intro a ha
    have hfollow : followed (modView a (fun v => { v with role := .none }) p) a = true ↔
        inHome p a = true ∨ inStandby p a = true ∨ inWatch p a = true ∨ receptionFor p a ≠ none := by
      have hnot : holds (modView a (fun v => { v with role := .none }) p) a = false := by simp [holds]
      have hrec : receptionFor (modView a (fun v => { v with role := .none }) p) a = receptionFor p a := rfl
      simp [followed, hnot, hrec, Option.isSome_iff_ne_none, inHome, inStandby, inWatch, or_assoc]
    cases hl : listening p <;>
      simp [unheldRole, roleByTable, ha, hl, hfollow, and_assoc]
  constructor
  · intro h
    refine ⟨fun a ha => ?_, fun a ha => (h a).trans (hunheld a ha).symm⟩
    have hrole : roleByTable p a = .hold := (h a).symm.trans (of_decide_eq_true ha)
    cases hl : listening p with
    | true => rfl
    | false => simp [roleByTable, hl] at hrole
  · rintro ⟨hheld, hrest⟩ a
    cases ha : holds p a with
    | false => exact (hrest a ha).trans (hunheld a ha)
    | true => simpa [roleByTable, hheld a ha, ha] using of_decide_eq_true ha

theorem Steady.role (h : Steady p q) (hp : RoleFine p) : RoleFine q := fun a => by
  rw [roleByTable_congr h.station h.settings (h.views a) (receptionFor_isSome_congr h.receptions a), ← hp a]
  exact congrArg Prod.fst (h.views a)

theorem Steady.holds (h : Steady p q) (a : Area) : holds q a = holds p a := holds_of_role (congrArg Prod.fst (h.views a))

theorem Steady.holder (h : Steady p q) (hp : HolderFine p) : HolderFine q := fun a ha => by
  rw [h.holds] at ha
  exact (congrArg (fun x => x.2.1) (h.views a)).trans (hp a ha)

theorem Steady.listening (h : Steady p q) : listening q = listening p := listening_congr h.station

theorem Steady.ruffles (h : Steady p q) : Ruffles p q :=
  ⟨h.events, h.holder, h.panel, fun hp a ha => by
    rw [h.listening]
    exact hp a ((h.holds a).symm.trans ha)⟩

theorem Steady.orders (h : Steady p q) : Orders p q := ⟨h.events, h.holder, h.panel, h.role⟩

/-! ## Updates -/

/-- The views, the records, the log and the panel stand. -/
theorem steady_of_frame (hstc : q.stc = p.stc) (hviews : q.aru.views = p.aru.views)
    (hreceptions : q.hou.receptions = p.hou.receptions) (hevents : q.cnp.events = p.cnp.events) (hanu : q.anu = p.anu) :
    Steady p q where
  station := by rw [hstc]
  settings := by rw [hstc]
  views := fun a => by unfold view; rw [hviews]
  receptions := fun i => by rw [hreceptions]
  events := by rw [EventsFine, EventsFine, hevents]; exact id
  panel := by rw [PanelFine, PanelFine, hanu]; exact id

theorem steady_modLif (f : Lif → Lif) (p : Part) : Steady p (modLif f p) := steady_of_frame rfl rfl rfl rfl rfl
theorem steady_modAtu (f : Atu → Atu) (p : Part) : Steady p (modAtu f p) := steady_of_frame rfl rfl rfl rfl rfl
theorem steady_modLdm (f : Ldm → Ldm) (p : Part) : Steady p (modLdm f p) := steady_of_frame rfl rfl rfl rfl rfl
theorem steady_modSsu (f : Ssu → Ssu) (p : Part) : Steady p (modSsu f p) := steady_of_frame rfl rfl rfl rfl rfl
theorem steady_modStats (f : Stats → Stats) (p : Part) : Steady p (modStats f p) := steady_of_frame rfl rfl rfl rfl rfl

theorem steady_modView (a : Area) {f : View → View} (hf : ∀ v, (f v).standing = v.standing) (p : Part) :
    Steady p (modView a f p) :=
  { steady_of_frame (q := p) rfl rfl rfl rfl rfl with
    views := fun b => by
      rw [view_modView]
      split
      · next h => rw [hf, h]
      · rfl }

theorem steady_modHou {f : Hou → Hou} (hf : ∀ h, (f h).receptions = h.receptions) (p : Part) : Steady p (modHou f p) :=
  steady_of_frame rfl rfl (hf _) rfl rfl

theorem steady_modAnu {f : Anu → Anu} (hf : PanelFine p → PanelFine (modAnu f p)) : Steady p (modAnu f p) :=
  { steady_of_frame (q := p) rfl rfl rfl rfl rfl with panel := hf }

theorem steady_setReception {i : Fin 4} {x y : Reception} (hx : p.hou.receptions.get i = some x) (h : y.area = x.area) :
    Steady p (setReception i (some y) p) :=
  { steady_of_frame (q := p) rfl rfl rfl rfl rfl with
    receptions := fun j => by
      rw [setReception_hou, setAt_get]
      split
      · next hj => rw [hj, hx, Option.map_some, Option.map_some, h]
      · rfl }

theorem steady_produce (e : Event) (p : Part) : Steady p (produce e p) :=
  { steady_of_frame (q := p) rfl rfl rfl rfl rfl with events := fun h => storing_length h (now p) e }

theorem steady_modCnp {f : Cnp → Cnp} (hf : ∀ c, (f c).events = c.events) (p : Part) : Steady p (modCnp f p) :=
  steady_of_frame rfl rfl rfl (hf _) rfl

end Sys2Proof.Machine
end


section
/-! PROOFS. The operations that touch none of the four (R49, R52, R92, R94, R167): the link, the table, the meter, the records
and the panel. -/

namespace Sys2Proof.Machine

variable {p q : Part}

/-! ## The horn (R45 to R49) -/

/-- The cadence and the phase counter stand in their ranges (R49, R52). -/
def CountersFine (p : Part) : Prop := p.anu.cadence < 800 ∧ p.anu.phase < 400

/-- A derivation puts the horn in the state of the demands. -/
theorem panelFine_deriveHorn (h : CountersFine p) : PanelFine (deriveHorn p) := by
  obtain ⟨hcadence, hphase⟩ := h
  refine ⟨rfl, ?_, hphase⟩
  change (if _ then 0 else p.anu.cadence) < 800
  split
  · decide
  · exact hcadence

theorem steady_deriveHorn (p : Part) : Steady p (deriveHorn p) :=
  steady_modAnu fun h => panelFine_deriveHorn h.2

/-- Demands set before a derivation. -/
theorem steady_derived {f : Anu → Anu} (hc : ∀ n, (f n).cadence = n.cadence) (hp : ∀ n, (f n).phase = n.phase) (p : Part) :
    Steady p (deriveHorn (modAnu f p)) :=
  { steady_of_frame (p := p) (q := { deriveHorn (modAnu f p) with anu := p.anu }) rfl rfl rfl rfl rfl with
    panel := fun h => panelFine_deriveHorn (by
      rw [CountersFine, modAnu_anu, hc, hp]
      exact h.2) }

theorem steady_derivedIf (c : Prop) [Decidable c] {f : Anu → Anu} (hc : ∀ n, (f n).cadence = n.cadence)
    (hp : ∀ n, (f n).phase = n.phase) (p : Part) : Steady p (deriveHorn (if c then modAnu f p else p)) := by
  split
  · exact steady_derived hc hp p
  · exact steady_deriveHorn p

theorem steady_raised (l : Level) (p : Part) : Steady p (deriveHorn (raiseDemand l p)) := by
  cases l <;> exact steady_derived (fun _ => by rfl) (fun _ => by rfl) p

theorem steady_noticeOccurrence (e : Entry) (p : Part) : Steady p (noticeOccurrence e p) := by
  unfold noticeOccurrence
  split
  · exact steady_raised ..
  · exact steady_deriveHorn p

theorem steady_noticeShelfRelease (e : Entry) (p : Part) : Steady p (noticeShelfRelease e p) := by
  unfold noticeShelfRelease
  split
  · exact steady_raised ..
  · exact steady_deriveHorn p

theorem steady_noticeEmergency (a : Area) (p : Part) : Steady p (noticeEmergency a p) :=
  steady_derivedIf _ (fun _ => by rfl) (fun _ => by rfl) p

theorem steady_silenceHorn (p : Part) : Steady p (silenceHorn p) :=
  steady_modAnu fun h => ⟨rfl, h.2.1, h.2.2⟩

/-! ## The link (R153 to R156) -/

theorem steady_modInput (i : Fin 8) (f : InputRecord → InputRecord) (p : Part) : Steady p (modInput i f p) :=
  steady_modAnu id

theorem steady_modKey (k : Fin 4) (f : KeyRecord → KeyRecord) (p : Part) : Steady p (modKey k f p) := steady_modAnu id

theorem steady_modOffer (i : Fin 4) (n : Nat) (f : Offer → Offer) (p : Part) : Steady p (modOffer i n f p) :=
  steady_of_frame (by simp) (by simp) (modOffer_receptions i n f p) (by simp) (by simp)

theorem steady_modReception (i : Fin 4) (n : Nat) {f : Reception → Reception} (hf : ∀ x, (f x).area = x.area) (p : Part) :
    Steady p (modReception i n f p) := by
  unfold modReception
  split
  · next x hx => exact steady_ite _ (steady_setReception hx (hf x)) (.refl p)
  · exact .refl p

theorem steady_modAnswer (n : Nat) (f : AnswerItem → AnswerItem) (p : Part) : Steady p (modAnswer n f p) :=
  steady_modHou (fun _ => by rfl) p

theorem steady_markEntered (o : Owner) (p : Part) : Steady p (markEntered o p) := by
  cases o with
  | syncRequest a => exact steady_modView a (f := fun v => { v with syncMark := .queued }) (fun _ => rfl) p
  | offer i n => exact steady_modOffer i n _ p
  | reply i n => exact steady_modReception i n (fun _ => by rfl) p
  | answer n => exact steady_modAnswer n _ p
  | input i =>
    simp only [markEntered]
    split
    · exact steady_modInput i _ p
    · exact (steady_modInput i _ p).trans (steady_modStats ..)
  | request | session | beacon => exact steady_of_frame rfl rfl rfl rfl rfl

theorem steady_markOwed (o : Owner) (p : Part) : Steady p (markOwed o p) := by
  cases o with
  | syncRequest a => exact steady_modView a (f := fun v => { v with syncMark := .owed }) (fun _ => rfl) p
  | offer i n => exact steady_modOffer i n _ p
  | reply i n => exact steady_modReception i n (fun _ => by rfl) p
  | request | session | beacon | answer | input => exact steady_of_frame rfl rfl rfl rfl rfl

theorem steady_markAttempt (o : Owner) (p : Part) : Steady p (markAttempt o p) := by
  cases o with
  | offer i n => exact steady_modOffer i n _ p
  | reply i n => exact steady_modReception i n (fun _ => by rfl) p
  | request | session | beacon | answer | input | syncRequest => exact steady_of_frame rfl rfl rfl rfl rfl

theorem steady_markReturned (o : Owner) (p : Part) : Steady p (markReturned o p) := by
  cases o with
  | offer i n => exact steady_modOffer i n _ p
  | reply i n => exact steady_modReception i n (fun _ => by rfl) p
  | request | session | beacon | answer | input | syncRequest => exact steady_of_frame rfl rfl rfl rfl rfl

theorem steady_placeTelegram (o : Owner) (t : Telegram) (p : Part) : Steady p (placeTelegram o t p) :=
  steady_of_frame (by simp) (by simp) (by simp) (by simp) (by simp)

theorem steady_enter (o : Owner) (t : Telegram) (p : Part) :
    Steady p (markEntered o (placeTelegram o t (leaveWaiting o p))) :=
  ((steady_modLif _ p).trans (steady_placeTelegram o t _)).trans (steady_markEntered o _)

theorem steady_pushTelegram (o : Owner) (p : Part) : Steady p (pushTelegram o p) := by
  unfold pushTelegram
  split
  · exact .refl p
  · exact steady_ite _ (steady_ite _ (steady_enter ..) ((steady_modLif _ p).trans (steady_markOwed ..)))
      (steady_markOwed ..)

theorem steady_serveWaiting (p : Part) : Steady p (serveWaiting p) := by
  unfold serveWaiting
  (repeat' split)
  · exact .refl p
  · exact .refl p
  · exact steady_enter ..

theorem steady_placeOwedLogin (p : Part) : Steady p (placeOwedLogin p) :=
  steady_of_frame (by simp) (by simp) (by simp) (by simp) (by simp)

theorem steady_freeSlot (k : Fin 12) (p : Part) : Steady p (freeSlot k p) :=
  ((steady_modLif _ p).trans (steady_serveWaiting _)).trans (steady_placeOwedLogin _)

theorem steady_withdrawTelegram (o : Owner) (p : Part) : Steady p (withdrawTelegram o p) := by
  have hleave : Steady p (leaveWaiting o p) := steady_modLif _ p
  unfold withdrawTelegram
  simp only
  (repeat' split)
  · exact hleave
  · exact hleave
  · exact hleave.trans (steady_freeSlot ..)
  · exact hleave.trans (steady_modLif ..)

theorem steady_callBeacon (p : Part) : Steady p (callBeacon p) := by
  obtain ⟨hpart, hviews, -⟩ := callBeacon_eq p
  exact steady_of_frame (by rw [hpart]) hviews (by rw [hpart]) (by rw [hpart]) (by rw [hpart])

theorem steady_queueRequest (d : StationNo) (x : Payload) (p : Part) : Steady p (queueRequest d x p) :=
  steady_placeTelegram ..

/-! ## The meter (R63 to R66) -/

theorem steady_judgeFlood (a : Area) (p : Part) : Steady p (judgeFlood a p) :=
  steady_ite _ (steady_ite _ ((steady_modLdm _ p).trans (steady_produce ..)) (.refl p))
    (steady_ite _ ((steady_modLdm _ p).trans (steady_produce ..)) (.refl p))

theorem steady_setLoad (a : Area) (n : Nat) (p : Part) : Steady p (setLoad a n p) :=
  steady_ite _ (.refl p) ((steady_modLdm _ p).trans (steady_judgeFlood a _))

theorem steady_decayArea (p : Part) (a : Area) : Steady p (decayArea p a) :=
  steady_ite _ (.refl p) (steady_setLoad ..)

/-! ## The table (chapters 1 and 2) -/

theorem steady_putEntry (e : Entry) (p : Part) : Steady p (putEntry e p) := steady_modAtu _ p

theorem steady_removeEntry (t : Tag) (p : Part) : Steady p (removeEntry t p) :=
  steady_of_frame (by simp) (by simp) (by simp) (by simp) (by simp)

theorem steady_applyRemoval (t : Tag) (p : Part) : Steady p (applyRemoval t p) := by
  unfold applyRemoval
  split
  · exact steady_ite _ (steady_removeEntry t p) (.refl p)
  · exact .refl p

theorem steady_reportOverflow (a : Area) (t : Tag) (w : Reason) (p : Part) : Steady p (reportOverflow a t w p) :=
  ((steady_modAtu _ p).trans (steady_modStats ..)).trans (steady_produce ..)

theorem steady_storeNew (e : Entry) (p : Part) : Steady p (storeNew e p).2 := by
  unfold storeNew
  (repeat' split)
  · exact steady_putEntry e p
  · exact (((steady_removeEntry _ p).trans (steady_deriveHorn _)).trans (steady_reportOverflow ..)).trans (steady_putEntry ..)
  · exact steady_reportOverflow ..
  · exact steady_reportOverflow ..

theorem steady_newOccurrence (e : Entry) (p : Part) : Steady p (newOccurrence e p) := by
  have haccrued : Steady p (if e.shelf.isNone then accrue e.area e.priority p else p) :=
    steady_ite _ (steady_setLoad ..) (.refl p)
  exact (haccrued.trans (steady_putEntry ..)).trans (steady_noticeOccurrence ..)

theorem steady_storeOccurrence (e : Entry) (p : Part) : Steady p (storeOccurrence e p) :=
  steady_ite _ ((steady_storeNew e p).trans (steady_newOccurrence ..)) (steady_storeNew e p)

theorem steady_removed (e : Entry) (t : Tag) (p : Part) : Steady p (applyRemoval t (putEntry e p)) :=
  (steady_putEntry e p).trans (steady_applyRemoval t _)

theorem steady_removeShelf (e : Entry) (p : Part) : Steady p (removeShelf e p) :=
  steady_ite _ ((steady_removed ..).trans (steady_noticeShelfRelease ..)) ((steady_removed ..).trans (steady_deriveHorn _))

theorem steady_repeatActive (e : Entry) (x : Priority) (p : Part) : Steady p (repeatActive e x p) :=
  steady_ite _ (steady_removeShelf ..) (steady_ite _ (.refl p) ((steady_putEntry ..).trans (steady_deriveHorn _)))

theorem steady_clearEqual (e : Entry) (p : Part) : Steady p (clearEqual e p) :=
  steady_ite _ ((steady_removed ..).trans (steady_deriveHorn _)) (.refl p)

theorem steady_applyCondition (t : Tag) (x : Priority) (b : Bool) (n : Occurrence) (p : Part) :
    Steady p (applyCondition t x b n p) := by
  unfold applyCondition
  (repeat' split)
  · exact steady_modStats ..
  · exact steady_storeOccurrence ..
  · exact steady_newOccurrence ..
  · exact steady_modStats ..
  · exact steady_repeatActive ..
  · exact steady_clearEqual ..
  · exact .refl p

theorem steady_applyAcknowledge (t : Tag) (n : Occurrence) (c : Credential) (p : Part) :
    Steady p (applyAcknowledge t n c p) := by
  unfold applyAcknowledge
  split
  · exact .refl p
  · refine steady_ite _ ?_ (.refl p)
    split
    · exact steady_modStats ..
    · exact steady_ite _ (steady_ite _ (steady_modStats ..) ((steady_removed ..).trans (steady_deriveHorn _)))
        (steady_modStats ..)

theorem steady_applyShelve (t : Tag) (w : Word16) (c : Credential) (x : StationNo) (p : Part) :
    Steady p (applyShelve t w c x p) := by
  unfold applyShelve
  (repeat' split)
  · exact .refl p
  · exact steady_modStats ..
  · exact steady_modStats ..
  · exact (steady_putEntry ..).trans (steady_deriveHorn _)
  · exact .refl p

theorem steady_applyUnshelve (t : Tag) (p : Part) : Steady p (applyUnshelve t p) := by
  unfold applyUnshelve
  (repeat' split)
  · exact .refl p
  · exact steady_modStats ..
  · exact steady_removeShelf ..
  · exact .refl p
  · exact .refl p

theorem steady_removeShelfOf (p : Part) (t : Tag) : Steady p (removeShelfOf p t) := by
  unfold removeShelfOf
  split
  · exact steady_ite _ (steady_removeShelf ..) (.refl p)
  · exact .refl p

theorem steady_flushArea (a : Area) (p : Part) : Steady p (flushArea a p) := by
  have hquiet : Steady p (clearQuiet a p) := (steady_modAtu _ p).trans (steady_deriveHorn _)
  exact steady_ite _ hquiet (hquiet.trans (steady_foldl steady_removeShelfOf _ _))

theorem steady_mergeSummary (a : Area) (x : StationNo) (p : Part) (d : Summary) : Steady p (mergeSummary a x p d) := by
  have hput : ∀ e, Steady p (deriveHorn (applyRemoval d.tag (putEntry e p))) := fun e =>
    (steady_removed e d.tag p).trans (steady_deriveHorn _)
  have hstore : Steady p (storeSummary a x d p) :=
    steady_ite _ (((steady_storeNew _ p).trans (steady_applyRemoval ..)).trans (steady_deriveHorn _)) (steady_storeNew _ p)
  unfold mergeSummary
  (repeat' split)
  · exact hstore
  · exact .refl p
  · exact .refl p
  · exact hput _
  · exact hput _
  · exact .refl p

theorem steady_replaceSummary (a : Area) (x : StationNo) (p : Part) (d : Summary) : Steady p (replaceSummary a x p d) := by
  have hstore : ∀ e, Steady p (if (storeNew e p).1 then applyRemoval d.tag (storeNew e p).2 else (storeNew e p).2) := fun e =>
    steady_ite _ ((steady_storeNew e p).trans (steady_applyRemoval ..)) (steady_storeNew e p)
  unfold replaceSummary
  refine steady_ite _ ?_ (.refl p)
  split
  · exact hstore _
  · exact steady_ite _ (steady_removed ..) (steady_removed ..)

theorem steady_replaceArea (a : Area) (x : StationNo) (ds : List Summary) (p : Part) : Steady p (replaceArea a x ds p) :=
  ((steady_modAtu _ p).trans (steady_foldl (steady_replaceSummary a x) ds _)).trans (steady_deriveHorn _)

theorem steady_purgeUnfollowed (p : Part) : Steady p (purgeUnfollowed p) :=
  ((steady_modAtu _ p).trans ((steady_modAtu _ _).trans (steady_modLdm ..))).trans (steady_deriveHorn _)

theorem steady_expireShelf (e : Entry) (p : Part) : Steady p (expireShelf e p) :=
  (steady_produce _ p).trans (steady_removeShelf ..)

/-! ## Offers and answers (R117, R119, R131, R133) -/

theorem steady_addAnswer (x : Option ReplyReason) (a : Area) (d : StationNo) (h : Byte) (w : Bool) (p : Part) :
    Steady p (addAnswer x a d h w p) :=
  steady_ite _ (steady_ite _ (steady_modHou (fun _ => by rfl) p)
    ((steady_modHou (fun _ => by rfl) p).trans (steady_pushTelegram ..))) (.refl p)

theorem steady_setOffer (i : Fin 4) (o : Option Offer) (p : Part) : Steady p (setOffer i o p) :=
  steady_modHou (fun _ => by rfl) p

theorem steady_dropOffer (i : Fin 4) (p : Part) : Steady p (dropOffer i p) := by
  unfold dropOffer
  split
  · exact .refl p
  · exact ((steady_withdrawTelegram _ p).trans (steady_setOffer ..)).trans (steady_deriveHorn _)

theorem steady_closeOffer (i : Fin 4) (w : Reason) (b : Bool) (p : Part) : Steady p (closeOffer i w b p) := by
  have hdrop := steady_dropOffer i p
  unfold closeOffer
  split
  · exact .refl p
  · split
    · exact hdrop
    · exact ((steady_ite _ (hdrop.trans (steady_addAnswer ..)) hdrop).trans (steady_produce ..)).trans (steady_modStats ..)

theorem steady_closeOfferFor (a : Area) (w : Reason) (b : Bool) (p : Part) : Steady p (closeOfferFor a w b p) := by
  unfold closeOfferFor
  split
  · exact steady_closeOffer ..
  · exact .refl p

theorem steady_tripOffer (a : Area) (p : Part) (i : Fin 4) : Steady p (tripOffer a p i) := by
  unfold tripOffer
  split
  · exact steady_ite _ (steady_closeOffer ..) (.refl p)
  · exact .refl p

theorem steady_createOffer (i : Fin 4) (o : Offer) (p : Part) : Steady p (createOffer i o p) :=
  ((steady_setOffer i _ p).trans (steady_modHou (fun _ => by rfl) _)).trans (steady_deriveHorn _)

theorem steady_startOffer (a : Area) (b : Byte) (p : Part) : Steady p (startOffer a b p) := by
  unfold startOffer
  split
  · exact .refl p
  · exact ((steady_modHou (fun _ => by rfl) p).trans (steady_createOffer ..)).trans (steady_placeTelegram ..)

theorem steady_startSync (a : Area) (p : Part) : Steady p (startSync a p) := by
  unfold startSync
  split
  · exact .refl p
  · exact steady_ite _ ((steady_createOffer ..).trans (steady_pushTelegram ..)) (.refl p)

theorem steady_queueReply (i : Fin 4) (w : ReplyReason) (p : Part) : Steady p (queueReply i w p) := by
  unfold queueReply
  split
  · exact .refl p
  · next y hy => exact (steady_setReception (y := { y with answer := w }) hy rfl).trans (steady_pushTelegram ..)

theorem steady_tryAccept (o : Option (Fin 4)) (p : Part) : Steady p (tryAccept o p).2 := by
  unfold tryAccept
  (repeat' split)
  · exact .refl p
  · exact .refl p
  · exact .refl p
  · exact steady_queueReply ..

theorem steady_tryDecline (o : Option (Fin 4)) (p : Part) : Steady p (tryDecline o p).2 := by
  unfold tryDecline
  (repeat' split)
  · exact .refl p
  · exact .refl p
  · exact steady_queueReply ..
  · exact .refl p

theorem steady_refusedStarting {x : ResultCode × Part} (h : Steady p x.2) : Steady p (refusedStarting p x).2 := by
  unfold refusedStarting
  split
  · exact .refl p
  · exact h

theorem steady_itemReady (n : Nat) (p : Part) : Steady p (itemReady n p) :=
  (steady_modAnswer n _ p).trans (steady_pushTelegram ..)

/-- The merge of a handover digest and the record's REVIEW (R123). -/
theorem steady_enterReview (i : Fin 4) (p : Part) : Steady p (enterReview i p) := by
  unfold enterReview
  split
  · exact .refl p
  · next x hx =>
    have hmerge : Steady p (takeMaximum x.area x.load (x.summaries.foldl (mergeSummary x.area x.releaser) p)) :=
      (steady_foldl (steady_mergeSummary _ _) _ p).trans (steady_setLoad ..)
    have hrecord : (takeMaximum x.area x.load (x.summaries.foldl (mergeSummary x.area x.releaser) p)).hou = p.hou := by
      simp [foldl_hou]
    have hkept : (takeMaximum x.area x.load (x.summaries.foldl (mergeSummary x.area x.releaser) p)).hou.receptions.get i =
        some x := by rw [hrecord, hx]
    generalize takeMaximum x.area x.load (x.summaries.foldl (mergeSummary x.area x.releaser) p) = q at hmerge hkept ⊢
    have hreview := hmerge.trans (steady_setReception hkept
      (y := { x with state := .review, timer := q.stc.settings.window }) rfl)
    exact (hreview.trans (steady_produce ..)).trans (steady_deriveHorn _)

/-! ## Grace, relief and sessions (R89 to R91, R138 to R144) -/

theorem steady_stopGrace (p : Part) : Steady p (stopGrace p) := steady_of_frame rfl rfl rfl rfl rfl

theorem steady_startGrace (p : Part) : Steady p (startGrace p) := by
  refine steady_of_frame rfl ?_ rfl rfl rfl
  change (if _ then p.aru else _).views = p.aru.views
  split <;> rfl

theorem steady_disarmRelief (p : Part) : Steady p (disarmRelief p) := (steady_modSsu _ p).trans (steady_deriveHorn _)

theorem steady_cancelRelief (w : Reason) (a : Option Area) (p : Part) : Steady p (cancelRelief w a p) :=
  steady_ite _ ((steady_disarmRelief p).trans (steady_produce ..)) (.refl p)

theorem steady_afterLoss (p : Part) : Steady p (afterLoss p) :=
  steady_ite _ (.refl p) ((steady_stopGrace p).trans (steady_cancelRelief ..))

theorem steady_installSession (c : Credential) (i : Fin 48) (p : Part) : Steady p (installSession c i p) :=
  steady_of_frame (by simp) (by simp) (by simp) (by simp) (by simp)

theorem steady_closeForSession (p : Part) (i : Fin 4) : Steady p (closeForSession p i) := by
  unfold closeForSession
  split
  · exact steady_ite _ (.refl p) (steady_closeOffer ..)
  · exact .refl p

theorem steady_endSession (w : Reason) (y : Option StationNo) (p : Part) : Steady p (endSession w y p) := by
  unfold endSession
  split
  · exact .refl p
  · have hstep : ∀ (c : Prop) [Decidable c] (f : Part → Part) {q : Part}, Steady p q → (∀ q, Steady q (f q)) →
        Steady p (if c then f q else q) := fun c _ f q hq hf => steady_ite c (hq.trans (hf q)) hq
    refine Steady.trans ?_ (steady_deriveHorn _)
    refine Steady.trans ?_ (steady_foldl steady_closeForSession _ _)
    refine hstep _ (fun q => callBeacon (startGrace q)) ?_ fun q => (steady_startGrace q).trans (steady_callBeacon _)
    refine Steady.trans ?_ (steady_produce ..)
    refine hstep _ disarmRelief ?_ steady_disarmRelief
    exact hstep _ (withdrawTelegram _) (steady_modSsu _ p) (steady_withdrawTelegram _)

theorem steady_applyLogin (x : StationNo) (c : Credential) (p : Part) : Steady p (applyLogin x c p) := by
  unfold applyLogin
  split
  · exact .refl p
  · exact steady_ite _ (steady_endSession ..) (.refl p)

theorem steady_armRelief (p : Part) : Steady p (armRelief p) :=
  ((steady_modSsu _ p).trans (steady_deriveHorn _)).trans (steady_produce ..)

/-! ## Views' other fields (R97, R102, R105, R108) -/

theorem steady_startClaimDelay (a : Area) (p : Part) : Steady p (startClaimDelay a p) :=
  steady_ite _ (steady_modView a (fun _ => by rfl) p) (.refl p)

theorem steady_dropOwedSync (a : Area) (p : Part) : Steady p (dropOwedSync a p) := by
  unfold dropOwedSync leaveWaiting
  exact (steady_modView a (fun _ => by rfl) p).trans (steady_modLif ..)

theorem steady_issueSync (a : Area) (p : Part) : Steady p (issueSync a p) := by
  unfold issueSync
  exact (steady_pushTelegram ..).trans (steady_modView a (fun _ => by rfl) _)

theorem steady_judgeStartup (p : Part) : Steady p (judgeStartup p) := by
  refine steady_ite _ (steady_foldl (fun q a => ?_) allAreas p) (.refl p)
  exact steady_ite _ ((steady_issueSync a q).trans (steady_modView a (fun _ => by rfl) _)) (.refl q)

theorem steady_startView (p : Part) (a : Area) : Steady p (startView p a) := by
  unfold startView
  exact steady_modView a (fun v => by split <;> rfl) p

theorem steady_leaveEmergency (a : Area) (x : StationNo) (p : Part) : Steady p (leaveEmergency a x p) := by
  unfold leaveEmergency
  have hleave := ((steady_modView a (f := fun v => { v with emergency := false }) (fun _ => by rfl) p).trans
    (steady_produce { kind := .areaRestored, area := some a, station := some x } _)).trans (steady_deriveHorn _)
  exact steady_ite _ (steady_ite _ (hleave.trans (steady_callBeacon _)) hleave) (.refl p)

end Sys2Proof.Machine
end


section
/-! PROOFS. Areas gained, lost and derived afresh (R92, R94): what leaves the roles to be derived, and what puts them in order. -/

namespace Sys2Proof.Machine

variable {p q r : Part} {a b : Area}

/-! ## Roles changed (R44, R47, R94) -/

theorem panelFine_changeRole (a : Area) (x : Role) (h : PanelFine p) : PanelFine (changeRole a x p) := by
  unfold changeRole
  split
  · exact h
  · simp only
    split
    · exact (steady_derived (fun _ => by rfl) (fun _ => by rfl) (modView a (fun v => { v with role := x }) p)).panel h
    · exact (steady_deriveHorn (modView a (fun v => { v with role := x }) p)).panel h

/-- No area is newly held, and a held area names no new holder. -/
theorem ruffles_of (hl : listening p = true → listening q = true)
    (hv : ∀ b, holds q b = true → holds p b = true ∧ ((view p b).holder = 0 → (view q b).holder = 0))
    (he : EventsFine p → EventsFine q) (hp : PanelFine p → PanelFine q) : Ruffles p q where
  events := he
  holder := fun h b hb => (hv b hb).2 (h b (hv b hb).1)
  panel := hp
  held := fun h b hb => hl (h b (hv b hb).1)

theorem ruffles_modView (a : Area) {f : View → View} (hf : ∀ v, (f v).role = v.role ∧ (v.holder = 0 → (f v).holder = 0))
    (p : Part) : Ruffles p (modView a f p) := by
  refine ruffles_of id (fun b hb => ?_) id id
  rw [holds, view_modView] at hb
  rw [view_modView]
  split at hb
  · next h =>
    rw [if_pos h, h]
    exact ⟨by rw [holds, ← (hf _).1]; exact hb, (hf _).2⟩
  · next h => rw [if_neg h]; exact ⟨hb, id⟩

theorem ruffles_modViews {f : View → View} (hf : ∀ v, (f v).role = v.role ∧ (v.holder = 0 → (f v).holder = 0)) (p : Part) :
    Ruffles p (modViews f p) := by
  refine ruffles_of id (fun b hb => ?_) id id
  rw [holds, view_modViews, (hf _).1] at hb
  rw [view_modViews]
  exact ⟨hb, (hf _).2⟩

/-- An area's view replaced, and its role then derived as unheld (R96, R129). -/
theorem ruffles_lost (a : Area) (f : View → View) {x : Role} (hx : x ≠ .hold) (hq : Steady (modView a f p) q) :
    Ruffles p (changeRole a x q) := by
  have hview : ∀ b, b ≠ a → (view q b).standing = (view p b).standing := fun b hb => by
    rw [hq.views b, view_modView_other p a b f hb]
  refine ruffles_of (fun h => ?_) (fun b hb => ?_) (fun h => ?_) (fun h => panelFine_changeRole a x (hq.panel h))
  · rw [listening_congr (congrArg Stc.station (changeRole_frame q a x).1), hq.listening]
    exact h
  · rw [holds, view_changeRole] at hb
    rw [view_changeRole]
    split at hb
    · exact absurd (of_decide_eq_true hb) hx
    · next hne =>
      have hstanding := hview b hne
      simp only [View.standing, Prod.mk.injEq] at hstanding
      obtain ⟨hrole, hholder, -⟩ := hstanding
      rw [if_neg hne, hholder]
      rw [hrole] at hb
      exact ⟨hb, id⟩
  · rw [EventsFine, (changeRole_frame q a x).2.2.2.2.2.2]
    exact hq.events h

theorem ruffles_changeRole (a : Area) {x : Role} (hx : x ≠ .hold) (p : Part) : Ruffles p (changeRole a x p) := by
  refine ruffles_of (fun h => ?_) (fun b hb => ?_) (fun h => ?_) (panelFine_changeRole a x)
  · rw [listening_congr (congrArg Stc.station (by simp : _ = p.stc))]; exact h
  · rw [holds, view_changeRole] at hb
    rw [view_changeRole]
    split at hb
    · exact absurd (of_decide_eq_true hb) hx
    · next hne => rw [if_neg hne]; exact ⟨hb, id⟩
  · rw [EventsFine, (changeRole_frame p a x).2.2.2.2.2.2]
    exact h

theorem ruffles_refreshRole (p : Part) (a : Area) : Ruffles p (refreshRole p a) :=
  ruffles_ite _ (.refl p) (ruffles_changeRole a (unheldRole_annunciated p a).1 p)

/-! ## The roles derived afresh -/

theorem unheldRole_congr (hs : q.stc = p.stc) (hr : q.hou.receptions = p.hou.receptions)
    (h : (view q a).holder = (view p a).holder ∧ (view q a).relinquished = (view p a).relinquished ∧
      (view q a).attended = (view p a).attended) : unheldRole q a = unheldRole p a := by
  obtain ⟨hholder, hrelinquished, hattended⟩ := h
  have hfollowed : followed (modView a (fun v => { v with role := .none }) q) a =
      followed (modView a (fun v => { v with role := .none }) p) a := by
    simp [followed, inHome, inStandby, inWatch, hs, receptionFor, hr, holds]
  simp only [unheldRole, listening_congr (congrArg Stc.station hs), inHome, inStandby, hs, hholder, hrelinquished, hattended, hfollowed]
  rfl

theorem unheldRole_refreshRole (p : Part) (a b : Area) : unheldRole (refreshRole p a) b = unheldRole p b := by
  refine unheldRole_congr (refreshRole_frame p a).1 (by rw [(refreshRole_frame p a).2.2.2.2.2.1]) ?_
  rw [view_refreshRole]
  split
  · next h => rw [h.1]; exact ⟨rfl, rfl, rfl⟩
  · exact ⟨rfl, rfl, rfl⟩

/-- The area's role is derived: that of a held area is HOLD, that of another what R94 has for it. -/
def Derived (p : Part) (a : Area) : Prop := holds p a = false → (view p a).role = unheldRole p a

theorem derived_refreshRole_self (p : Part) (a : Area) : Derived (refreshRole p a) a := by
  intro h
  rw [holds_refreshRole] at h
  rw [unheldRole_refreshRole, view_refreshRole, if_pos ⟨rfl, h⟩]

theorem derived_refreshRole (h : Derived p b) (a : Area) : Derived (refreshRole p a) b := by
  by_cases hab : b = a
  · rw [hab]; exact derived_refreshRole_self p a
  · intro hb
    rw [holds_refreshRole] at hb
    rw [unheldRole_refreshRole, view_refreshRole, if_neg fun c => hab c.1]
    exact h hb

theorem derived_refreshRoles (p : Part) (b : Area) : Derived (refreshRoles p) b := by
  have hlist : ∀ (l : List Area) (q : Part), b ∈ l → Derived (l.foldl refreshRole q) b := by
    intro l
    induction l with
    | nil => exact fun _ h => absurd h List.not_mem_nil
    | cons a l ih =>
      intro q hb
      rcases List.mem_cons.1 hb with rfl | hb
      · exact foldl_keeps (P := fun q => Derived q b) (fun _ a h => derived_refreshRole h a) (derived_refreshRole_self q b) l
      · exact ih (refreshRole q a) hb
  exact hlist allAreas p (by simp [allAreas])

/-- The judgement of the follow set puts the roles in order (R4, R94). -/
theorem Ruffles.settled (h : Ruffles p q) : Orders p (settleAreas q) := by
  have hroles : Ruffles q (refreshRoles q) := ruffles_foldl ruffles_refreshRole allAreas q
  have hpurge := steady_purgeUnfollowed (refreshRoles q)
  have hall := (h.trans hroles).trans hpurge.ruffles
  refine ⟨hall.events, hall.holder, hall.panel, fun hp => hpurge.role (roleFine_iff.2 ⟨?_, derived_refreshRoles q⟩)⟩
  exact (h.trans hroles).held (roleFine_iff.1 hp).1

/-! ## Areas gained (R95, R103) -/

theorem holder_gainArea (a : Area) (p : Part) : (view (gainArea a p) a).holder = 0 := by
  rw [(gainArea_rest a p).1, view_changeRole, if_pos rfl]
  have hview : ∀ q, (view (dropOwedSync a q) a).holder = (view q a).holder := fun q => by
    simp [dropOwedSync, leaveWaiting, view]
  change (view (viewCleared a p) a).holder = 0
  rw [viewCleared, hview, view_modView_self]
  rfl

theorem orders_gainArea (hl : listening p = true) (a : Area) : Orders p (gainArea a p) := by
  obtain ⟨-, hanu, hhou, hcnp⟩ := gainArea_rest a p
  obtain ⟨hother, hheld, -⟩ := view_gainArea a p
  have hstc : (gainArea a p).stc = p.stc := (gainArea_frame p a).1
  refine ⟨fun h => ?_, fun h b hb => ?_, fun h => ?_, fun h b => ?_⟩
  · rw [EventsFine, hcnp]; exact h
  · by_cases hba : b = a
    · rw [hba]; exact holder_gainArea a p
    · rw [hother b hba]
      rw [holds_of_view (hother b hba)] at hb
      exact h b hb
  · rw [PanelFine, hanu]
    refine panelFine_changeRole a .hold (p := viewCleared a p) ?_
    rw [PanelFine, show (viewCleared a p).anu = p.anu by simp [viewCleared]]
    exact h
  · by_cases hba : b = a
    · rw [hba, of_decide_eq_true hheld, roleByTable, listening_congr (congrArg Stc.station hstc), hl, hheld]
      rfl
    · have hnone : receptionFor (gainArea a p) b = none ↔ receptionFor p b = none := by
        unfold receptionFor; rw [hhou]
      rw [roleByTable_congr (by rw [hstc]) (by rw [hstc]) (by rw [hother b hba]) hnone, hother b hba]
      exact h b

theorem listening_of_running (h : running p = true) : listening p = true := by
  simp [listening, h]

theorem orders_claimArea (p : Part) (a : Area) : Orders p (claimArea p a) := by
  unfold claimArea
  split
  · next hcan =>
    have hrunning : running p = true := by
      simp only [canClaim, Bool.and_eq_true] at hcan
      exact hcan.1.1.1.2
    exact (orders_gainArea (listening_of_running hrunning) a).trans (steady_produce ..).orders
  · exact .refl p

theorem orders_judgeClaims (p : Part) : Orders p (judgeClaims p) := orders_foldl orders_claimArea allAreas p

theorem Ruffles.freed (h : Ruffles p q) : Orders p (afterReceptionFreed q) := h.settled.trans (orders_judgeClaims _)

/-! ## Areas lost, holders recorded and forgotten (R96, R99, R101) -/

theorem ruffles_loseArea (a : Area) (f : View → View) (e : Event) (w : Reason) (b : Bool) (p : Part) :
    Ruffles p (loseArea a f e w b p) :=
  (ruffles_lost a f (unheldRole_annunciated _ a).1 (steady_produce e _)).trans
    ((steady_closeOfferFor ..).trans (steady_startClaimDelay ..)).ruffles

theorem ruffles_clearHolder (a : Area) (p : Part) : Ruffles p (clearHolder a p) := by
  unfold clearHolder
  exact (ruffles_modView a (f := noHolder) (fun _ => ⟨rfl, fun _ => rfl⟩) p).trans (steady_dropOwedSync ..).ruffles

theorem ruffles_conflict (x : StationNo) (c : PeriodCode) (i : BeaconItem) (p : Part) : Ruffles p (conflict x c i p) :=
  ruffles_ite _ ((ruffles_loseArea ..).trans
      ((steady_modStats ..).trans ((steady_afterLoss _).trans (steady_callBeacon _))).ruffles)
    (steady_callBeacon p).ruffles

theorem ruffles_recordHolder (x : StationNo) (c : PeriodCode) (i : BeaconItem) (h : holds p i.area = false) :
    Ruffles p (modView i.area (holderFrom x c i) p) := by
  refine ruffles_of id (fun b hb => ?_) id id
  rw [holds, view_modView] at hb
  rw [view_modView]
  split at hb
  · next hba =>
    change holds p i.area = true at hb
    rw [h] at hb
    cases hb
  · next hba => rw [if_neg hba]; exact ⟨hb, id⟩

/-! ## Reception records freed and opened (R121, R131, R135) -/

theorem ruffles_setReception (i : Fin 4) (x : Option Reception) (p : Part) : Ruffles p (setReception i x p) :=
  ruffles_of id (fun _ h => ⟨h, id⟩) id id

theorem ruffles_dropReception (i : Fin 4) (p : Part) : Ruffles p (dropReception i p) := by
  unfold dropReception
  split
  · exact .refl p
  · exact ((steady_withdrawTelegram _ p).ruffles.trans (ruffles_setReception ..)).trans (steady_deriveHorn _).ruffles

theorem ruffles_closeReception (i : Fin 4) (w : Reason) (p : Part) : Ruffles p (closeReception i w p) := by
  unfold closeReception
  split
  · exact .refl p
  · split
    · exact ruffles_dropReception i p
    · exact (ruffles_dropReception i p).trans ((steady_produce ..).trans (steady_modStats ..)).ruffles

theorem ruffles_tripReception (a : Area) (p : Part) (i : Fin 4) : Ruffles p (tripReception a p i) := by
  unfold tripReception
  split
  · exact ruffles_ite _ (ruffles_closeReception ..) (.refl p)
  · exact .refl p

theorem ruffles_tripRecords (a : Area) (p : Part) : Ruffles p (tripRecords a p) :=
  (steady_foldl (steady_tripOffer a) _ p).ruffles.trans (ruffles_foldl (ruffles_tripReception a) _ _)

theorem ruffles_dropForeignSync (a : Area) (x : StationNo) (p : Part) : Ruffles p (dropForeignSync a x p) := by
  unfold dropForeignSync
  split
  · exact .refl p
  · split
    · exact .refl p
    · exact ruffles_ite _ (ruffles_dropReception ..) (.refl p)

theorem ruffles_createReception (i : Fin 4) (x : Reception) (p : Part) : Ruffles p (createReception i x p) :=
  (ruffles_setReception ..).trans (steady_modHou (fun _ => by rfl) _).ruffles

/-! ## Beacons (R99, R100, R104, R109) -/

theorem ruffles_takeItem (x : StationNo) (c : PeriodCode) (p : Part) (i : BeaconItem) : Ruffles p (takeItem x c p i) := by
  unfold takeItem
  simp only
  split
  · exact ruffles_conflict ..
  · next hnot =>
    have hfalse : holds p i.area = false := by simpa using hnot
    have hsync : holds (dropOwedSync i.area p) i.area = false := ((steady_dropOwedSync i.area p).holds _).trans hfalse
    refine ruffles_ite _ (Ruffles.trans ?_ (ruffles_dropForeignSync ..)) (.refl p)
    split
    · exact ruffles_recordHolder x c i hfalse
    · exact (steady_dropOwedSync i.area p).ruffles.trans (ruffles_recordHolder x c i hsync)

theorem ruffles_omitArea (x : StationNo) (c : BeaconContent) (p : Part) (a : Area) : Ruffles p (omitArea x c p a) := by
  have hclear := (ruffles_clearHolder a p).trans (steady_startClaimDelay a _).ruffles
  exact ruffles_ite _ (ruffles_ite _ (hclear.trans (steady_produce ..).ruffles) hclear) (.refl p)

theorem steady_compareItem (x : StationNo) (p : Part) (i : BeaconItem) : Steady p (compareItem x p i) := by
  have hcount := steady_modView i.area (f := fun v => { v with mismatch := min 2 (v.mismatch + 1) }) (fun _ => by rfl) p
  unfold compareItem
  exact steady_ite _ (steady_ite _ (steady_modView i.area (fun _ => by rfl) p)
    (steady_ite _ (hcount.trans (steady_issueSync ..)) hcount)) (.refl p)

theorem steady_ifHeld {f : Part → Part} (hf : ∀ q, Steady q (f q)) (a : Area) (p : Part) :
    Steady p (if holds p a then f p else p) := steady_ite _ (hf p) (.refl p)

theorem ruffles_enterEmergency (a : Area) (x : StationNo) (w : Reason) (p : Part) : Ruffles p (enterEmergency a x w p) := by
  unfold enterEmergency
  refine ruffles_ite _ (.refl p) ?_
  have hset := (steady_modView a (f := fun v => { v with emergency := true }) (fun _ => by rfl) p).trans
    (steady_produce { kind := .areaTripped, area := some a, station := some x, reason := some w } _)
  have hswept := (hset.trans (steady_flushArea a _)).ruffles.trans (ruffles_tripRecords a _)
  have hrelief := hswept.trans (steady_ifHeld (steady_cancelRelief .trip (some a)) a _).ruffles
  exact (hrelief.trans (steady_noticeEmergency a _).ruffles).trans (steady_ifHeld steady_callBeacon a _).ruffles

theorem orders_tripArea (a : Area) (x : StationNo) (p : Part) : Orders p (tripArea a x p) :=
  orders_ite _ (.refl p) (ruffles_enterEmergency ..).freed

theorem orders_applyBeacon (x : StationNo) (c : BeaconContent) (p : Part) : Orders p (applyBeacon x c p) := by
  have htrip : ∀ p i, Ruffles p (tripFromItem x p i) := fun p i => ruffles_ite _ (ruffles_enterEmergency ..) (.refl p)
  unfold applyBeacon
  refine orders_ite _ (Orders.trans ?_ ((orders_judgeClaims _).trans (steady_judgeStartup _).orders)) (.refl p)
  refine Ruffles.settled (Ruffles.trans ?_ (ruffles_foldl htrip _ _))
  refine Ruffles.trans ?_ (ruffles_foldl (fun p i => (steady_compareItem x p i).ruffles) _ _)
  refine Ruffles.trans ?_ (ruffles_foldl (ruffles_omitArea x c) _ _)
  refine Ruffles.trans ?_ (ruffles_foldl (ruffles_takeItem x c.period) _ _)
  exact Steady.ruffles (steady_of_frame (p := p) (q := modAru _ p) rfl rfl rfl rfl rfl)

theorem orders_forgetHolder (a : Area) (p : Part) : Orders p (forgetHolder a p) := by
  have hclear := (ruffles_clearHolder a p).trans (steady_startClaimDelay a _).ruffles
  exact (Ruffles.settled (ruffles_ite _ (hclear.trans (steady_produce ..).ruffles) hclear)).trans (orders_judgeClaims _)

end Sys2Proof.Machine
end


section
/-! PROOFS. Sessions, transfers and the panel (R49, R52, R92, R94, R167). -/

namespace Sys2Proof.Machine

variable {p q r : Part}

theorem Ruffles.freedBy (h : Ruffles p q) {f : Part → Part} (hf : ∀ q, Steady q (f q)) : Orders p (afterReceptionFreed (f q)) :=
  (h.trans (hf q).ruffles).freed

/-! ## Areas lost at once, and the relinquished marks (R85, R91, R96, R111, R142) -/

theorem ruffles_loseForIsolation (p : Part) (a : Area) : Ruffles p (loseForIsolation p a) :=
  ruffles_ite _ ((ruffles_loseArea ..).trans (steady_afterLoss _).ruffles) (.refl p)

theorem ruffles_releaseForRights (p : Part) (a : Area) : Ruffles p (releaseForRights p a) :=
  ruffles_ite _ ((ruffles_loseArea ..).trans (steady_afterLoss _).ruffles) (.refl p)

theorem ruffles_releaseForGrace (p : Part) (a : Area) : Ruffles p (releaseForGrace p a) :=
  ruffles_ite _ ((ruffles_loseArea ..).trans (steady_afterLoss _).ruffles) (.refl p)

theorem ruffles_clearRelinquished (p : Part) : Ruffles p (clearRelinquished p) :=
  ruffles_modViews (f := fun v => { v with relinquished := false }) (fun _ => ⟨rfl, id⟩) p

theorem ruffles_aruIsolated (p : Part) : Ruffles p (aruIsolated p) := by
  have hidle : ∀ q, Steady q (modAru (fun x => { x with beaconMark := .idle, beaconOwed := false }) q) := fun q =>
    steady_of_frame rfl rfl rfl rfl rfl
  exact ((ruffles_foldl ruffles_loseForIsolation allAreas p).trans (hidle _).ruffles).trans
    (ruffles_modViews (f := fun v => { v with syncMark := .none, resync := 0 }) (fun _ => ⟨rfl, id⟩) _)

/-! ## Sessions (R84, R85, R91, R139 to R145) -/

theorem orders_login (c : Credential) (i : Fin 48) (p : Part) : Orders p (login c i p) := by
  have hstart := ((steady_installSession c i p).trans (steady_produce { kind := .sessionStarted } _)).trans (steady_stopGrace _)
  have hrights := (hstart.ruffles.trans (ruffles_clearRelinquished _)).trans (ruffles_foldl ruffles_releaseForRights allAreas _)
  have hcalled : ∀ (b : Bool) (q : Part), Orders q (if b then callBeacon q else q) := fun b q =>
    orders_ite _ (steady_callBeacon q).orders (.refl q)
  exact ((hrights.settled.trans (hcalled (holdsAny (produce { kind := .sessionStarted } (installSession c i p))) _)).trans
    (orders_judgeClaims _)).trans (steady_deriveHorn _).orders

theorem orders_relieve (c : Credential) (i : Fin 48) (p : Part) : Orders p (relieve c i p) := by
  have hfirst : Steady p (match p.ssu.session with
      | some x => if x.mark = .queued then withdrawTelegram (.session x.number) p else p
      | none => p) := by
    split
    · exact steady_ite _ (steady_withdrawTelegram ..) (.refl p)
    · exact .refl p
  have hinstalled := ((hfirst.trans (steady_installSession c i _)).trans (steady_disarmRelief _)).trans
    (steady_produce { kind := .sessionRelieved } _)
  exact (((hinstalled.ruffles.trans (ruffles_clearRelinquished _)).settled.trans (steady_callBeacon _).orders).trans
    (orders_judgeClaims _)).trans (steady_deriveHorn _).orders

theorem orders_attemptRelief (c : Credential) (p : Part) : Orders p (attemptRelief c p) := by
  unfold attemptRelief
  split
  · exact (steady_produce ..).orders
  · split
    · exact orders_relieve ..
    · exact .refl p

theorem orders_presentBadge (c : Credential) (p : Part) : Orders p (presentBadge c p) := by
  have hrefuse : ∀ w, Orders p (refuseBadge w p) := fun w => (steady_produce ..).orders
  unfold presentBadge
  split
  · refine orders_ite _ (orders_ite _ (steady_cancelRelief ..).orders (steady_endSession ..).orders) ?_
    exact orders_ite _ (orders_attemptRelief c p) (orders_ite _ (hrefuse _) (hrefuse _))
  · split
    · exact hrefuse _
    · exact orders_ite _ (hrefuse _) (orders_ite _ (orders_login ..) (hrefuse _))

theorem orders_badgeBurst (b : List Bool) (p : Part) : Orders p (badgeBurst b p) :=
  orders_ite _ ((steady_modSsu ..).orders.trans (orders_presentBadge ..)) (.refl p)

theorem orders_graceRun (p : Part) : Orders p (graceRun p) := by
  refine orders_ite _ ?_ (.refl p)
  exact (ruffles_foldl ruffles_releaseForGrace allAreas p).settled.trans
    ((steady_callBeacon _).trans (steady_stopGrace _)).orders

/-! ## Transfers (chapter 7) -/

theorem orders_discardReception (i : Fin 4) (b : Bool) (p : Part) : Orders p (discardReception i b p) := by
  unfold discardReception
  split
  · exact .refl p
  · exact (ruffles_closeReception ..).freedBy fun q => steady_addAnswer ..

theorem orders_applyHandoverDigest (x : StationNo) (d : DigestContent) (p : Part) :
    Orders p (applyHandoverDigest x d p) := by
  unfold applyHandoverDigest
  split
  · exact orders_ite _ (steady_itemReady ..).orders (steady_modAnswer ..).orders
  · split
    · exact .refl p
    · split
      · exact .refl p
      · next i _ y hy =>
        refine orders_ite _ (orders_ite _ ?_ (orders_discardReception ..)) (.refl p)
        have hfed := steady_setReception (y := storeSegment y d) hy rfl
        exact (steady_ite _ (hfed.trans (steady_enterReview ..)) hfed).orders

theorem orders_applyOffer (x : StationNo) (c : OfferContent) (p : Part) : Orders p (applyOffer x c p) := by
  have hcreated : ∀ {q : Part}, Ruffles p q → ∀ i,
      Orders p (if c.segmentCount = 0 then enterReview i (settleAreas (createReception i (offeredReception q x c) q))
        else settleAreas (createReception i (offeredReception q x c) q)) := fun {q} hq i => by
    have hset := (hq.trans (ruffles_createReception i (offeredReception q x c) q)).settled
    exact orders_ite _ (hset.trans (steady_enterReview i _).orders) hset
  unfold applyOffer
  cases staleReception p x c with
  | none =>
    simp only
    split
    · exact (steady_addAnswer ..).orders
    · exact .refl p
    · exact hcreated (.refl p) _
  | some i =>
    simp only
    split
    · exact (ruffles_closeReception ..).freedBy fun q => steady_addAnswer ..
    · next hr hfree =>
      exact absurd hfree (by
        intro hnone
        unfold receiveRefusal at hr
        simp only [hnone, Option.isNone_none, Bool.or_true, if_true] at hr
        (repeat' split at hr) <;> simp at hr)
    · exact hcreated (ruffles_closeReception ..) _

theorem steady_takeMaximum (a : Area) (n : Word16) (p : Part) : Steady p (takeMaximum a n p) := steady_setLoad ..

theorem orders_applySync (i : Fin 4) (x : Reception) (p : Part) : Orders p (applySync i x p) := by
  have hmerged := (steady_replaceArea x.area x.releaser x.summaries p).trans (steady_takeMaximum x.area x.load _)
  have hdropped := (hmerged.ruffles.trans (ruffles_dropReception i _)).trans
    (steady_modView x.area (f := fun v => { v with mismatch := 0, resync := 0, startup := false }) (fun _ => rfl) _).ruffles
  exact hdropped.freedBy fun q => steady_modStats ..

theorem orders_feedSync (i : Fin 4) (d : DigestContent) (p : Part) : Orders p (feedSync i d p) := by
  unfold feedSync
  split
  · exact .refl p
  · next y hy =>
    have hfed := (steady_setReception (y := storeSegment y d) hy rfl).orders
    exact orders_ite _ (orders_ite _ (hfed.trans (orders_applySync ..)) hfed) (ruffles_dropReception ..).freed

theorem orders_applySyncDigest (x : StationNo) (d : DigestContent) (p : Part) : Orders p (applySyncDigest x d p) := by
  unfold applySyncDigest
  split
  · exact orders_feedSync ..
  · split
    · exact .refl p
    · next i _ =>
      have hset := ((ruffles_createReception i (syncReception p x d) p).trans (steady_deriveHorn _).ruffles).settled
      exact orders_ite _ (hset.trans (orders_feedSync ..)) (.refl p)

theorem orders_replyCompleted (i : Fin 4) (n : Nat) (p : Part) : Orders p (replyCompleted i n p) := by
  unfold replyCompleted
  split
  · exact .refl p
  · next x hx =>
    refine orders_ite _ (orders_ite _ ?_ (ruffles_closeReception ..).freed) (.refl p)
    exact ((steady_setReception (y := { x with state := .accepted, mark := .none, timer := Config.releaseSeconds }) hx
      rfl).trans (steady_deriveHorn _)).orders

theorem steady_applyReply (x : StationNo) (a : Area) (h : Byte) (b : Bool) (w : ReplyReason) (p : Part) :
    Steady p (applyReply x a h b w p) := by
  have herror : Steady p (protocolError x a b p) := steady_produce ..
  unfold applyReply
  split
  · exact herror
  · split
    · exact herror
    · refine steady_ite _ (steady_ite _ ?_ ?_) herror
      · exact ((steady_dropOffer ..).trans (steady_produce ..)).trans (steady_modStats ..)
      · exact (steady_setOffer ..).trans (steady_pushTelegram ..)

theorem orders_releaseCompleted (i : Fin 4) (n : Nat) (p : Part) : Orders p (releaseCompleted i n p) := by
  unfold releaseCompleted
  split
  · exact .refl p
  · next o ho =>
    refine orders_ite _ ?_ (.refl p)
    have hlost := ruffles_lost o.area (releasedView p o.area o.target)
      (unheldRole_annunciated (modView o.area (releasedView p o.area o.target) p) o.area).1 (.refl (modView _ _ p))
    refine Orders.trans (Ruffles.settled (Ruffles.trans ?_ (steady_afterLoss _).ruffles)) (steady_callBeacon _).orders
    exact hlost.trans (((steady_dropOffer i _).trans (steady_produce ..)).trans (steady_modStats ..)).ruffles

theorem ruffles_gainArea (hl : listening p = true) (a : Area) : Ruffles p (gainArea a p) where
  events := (orders_gainArea hl a).events
  holder := (orders_gainArea hl a).holder
  panel := (orders_gainArea hl a).panel
  held := fun _ _ _ => by rw [listening_congr (congrArg Stc.station (gainArea_frame p a).1)]; exact hl

theorem orders_applyRelease (hl : listening p = true) (x : StationNo) (a : Area) (h : Byte) : Orders p (applyRelease x a h p) := by
  have hrights : ∀ i, Orders p (afterReceptionFreed (countFailed (produce
      { kind := .handoverLost, area := some a, station := some x, reason := some .rights } (dropReception i p)))) := fun i =>
    ((ruffles_dropReception i p).trans (steady_produce ..).ruffles).freedBy fun q => steady_modStats ..
  have hgained : ∀ i, Orders p (afterReceptionFreed (modStats (fun s => { s with completedReceiver := s.completedReceiver + 1 })
      (produce { kind := .handoverComplete, area := some a, station := some x, reason := some .gained }
        (gainArea a (dropReception i p))))) := fun i => by
    have hkept : listening (dropReception i p) = true := by
      rw [listening_congr (congrArg Stc.station (dropReception_frame p i).1)]; exact hl
    exact (((ruffles_dropReception i p).trans (ruffles_gainArea hkept a)).trans (steady_produce ..).ruffles).freedBy
      fun q => steady_modStats ..
  unfold applyRelease
  split
  · exact .refl p
  · split
    · exact .refl p
    · exact orders_ite _ (orders_ite _ (hrights _) (hgained _)) (.refl p)

theorem orders_applyWithdraw (x : StationNo) (a : Area) (h : Byte) (p : Part) : Orders p (applyWithdraw x a h p) := by
  unfold applyWithdraw
  split
  · exact .refl p
  · exact (ruffles_closeReception ..).freed

theorem steady_enterOffered (i : Fin 4) (n : Nat) (p : Part) : Steady p (enterOffered i n p) := steady_modOffer ..

theorem steady_offerCompleted (i : Fin 4) (n : Nat) (p : Part) : Steady p (offerCompleted i n p) := by
  unfold offerCompleted
  split
  · exact .refl p
  · exact steady_ite _ (steady_ite _ (steady_enterOffered ..) ((steady_modOffer ..).trans (steady_pushTelegram ..))) (.refl p)

theorem steady_segmentCompleted (i : Fin 4) (n : Nat) (p : Part) : Steady p (segmentCompleted i n p) := by
  unfold segmentCompleted
  split
  · exact .refl p
  · refine steady_ite _ (steady_ite _ ?_ ((steady_modOffer ..).trans (steady_pushTelegram ..))) (.refl p)
    split
    · exact (steady_modOffer ..).trans (steady_enterOffered ..)
    · exact (steady_modOffer ..).trans (steady_dropOffer ..)

theorem orders_gapRun (i : Fin 4) (p : Part) : Orders p (gapRun i p) := by
  unfold gapRun
  split
  · refine orders_ite _ ?_ (.refl p)
    split
    · exact orders_discardReception ..
    · exact (ruffles_dropReception ..).freed
  · exact .refl p

theorem steady_reviewRun (i : Fin 4) (p : Part) : Steady p (reviewRun i p) := by
  unfold reviewRun
  split
  · next x hx =>
    exact steady_ite _ ((steady_setReception (y := { x with timer := 0 }) hx rfl).trans (steady_queueReply ..)) (.refl p)
  · exact .refl p

theorem orders_releaseRun (i : Fin 4) (p : Part) : Orders p (releaseRun i p) := by
  unfold releaseRun
  split
  · refine orders_ite _ ?_ (.refl p)
    exact ((ruffles_dropReception i p).trans (steady_produce ..).ruffles).freedBy fun q => steady_modStats ..
  · exact .refl p

theorem steady_replyRun (i : Fin 4) (p : Part) : Steady p (replyRun i p) := by
  unfold replyRun
  split
  · exact steady_ite _ (steady_closeOffer ..) (.refl p)
  · exact .refl p

theorem steady_answerGapRun (i : Fin 4) (p : Part) : Steady p (answerGapRun i p) := by
  unfold answerGapRun
  split
  · exact steady_ite _ (steady_itemReady ..) (.refl p)
  · exact .refl p

theorem steady_answerCompleted (n : Nat) (p : Part) : Steady p (answerCompleted n p) :=
  steady_of_frame rfl rfl rfl rfl rfl

/-! ## The panel (chapter 3) -/

theorem steady_bumpUnpublished (i : Fin 8) (p : Part) : Steady p (bumpUnpublished i p) :=
  steady_ite _ ((steady_modInput i _ p).trans (steady_modAnu id)) (steady_modInput i _ p)

theorem steady_countMerged (n : Nat) (p : Part) : Steady p (countMerged n p) := steady_of_frame rfl rfl rfl rfl rfl

theorem steady_settleInput (i : Fin 8) (p : Part) : Steady p (settleInput i p) :=
  ((steady_modLif _ p).trans (steady_modInput i _ _)).trans (steady_countMerged ..)

theorem steady_awaitInput (i : Fin 8) (p : Part) : Steady p (awaitInput i p) :=
  (steady_modInput i _ p).trans (steady_pushTelegram ..)

theorem steady_judgeInput (i : Fin 8) (p : Part) : Steady p (judgeInput i p) :=
  steady_ite _ (steady_settleInput i p) (steady_awaitInput i p)

theorem steady_seedPair (i : Fin 8) (p : Part) : Steady p (seedPair i p) := by
  unfold seedPair
  split
  · exact steady_modInput ..
  · exact .refl p

theorem steady_seedInput (p : Part) (i : Fin 8) : Steady p (seedInput p i) :=
  steady_ite _ (steady_ite _ ((steady_seedPair i p).trans (steady_modInput ..))
    ((steady_seedPair i p).trans (steady_awaitInput ..))) (.refl p)

theorem steady_inputChanged (i : Fin 8) (p : Part) : Steady p (inputChanged i p) := by
  have hbump := (steady_modInput i (fun x => { x with condition := otherContact x.condition, run := 0 }) p).trans
    (steady_bumpUnpublished i _)
  unfold inputChanged
  simp only
  split
  · exact hbump
  · exact hbump.trans (steady_awaitInput ..)
  · exact steady_ite _ (hbump.trans (steady_settleInput ..)) hbump
  · exact hbump

theorem steady_changeInput (i : Fin 8) (p : Part) : Steady p (changeInput i p) :=
  steady_ite _ (steady_inputChanged i p) (.refl p)

theorem steady_activateTrip (i : Fin 8) (p : Part) : Steady p (activateTrip i p) :=
  steady_ite _ (steady_ite _ (((steady_modInput i _ p).trans (steady_modInput i _ _)).trans (steady_pushTelegram ..))
    (steady_modInput i _ p)) (.refl p)

theorem steady_clearTrip (i : Fin 8) (p : Part) : Steady p (clearTrip i p) :=
  steady_ite _ (steady_modInput i _ p) (.refl p)

theorem steady_settleContact (i : Fin 8) (b : Bool) (p : Part) : Steady p (settleContact i b p) :=
  steady_ite _ ((steady_modInput i _ p).trans (steady_seedInput _ i)) (.refl p)

theorem steady_reliefKey (p : Part) : Steady p (reliefKey p) := by
  unfold reliefKey
  split
  · exact steady_armRelief p
  · exact steady_ite _ (.refl p) (steady_produce ..)

/-- A press that a transfer's rule judged: queued, or refused with its event (R55). -/
theorem steady_judgedKey {x : ResultCode × Part} (h : Steady p x.2) (c : Bool) (k : EventKind) (a : Option Area) :
    Steady p (if (if c then refusedStarting p x else x).1 = .queued then (if c then refusedStarting p x else x).2
      else keyRefused k a (if c then refusedStarting p x else x).1 (if c then refusedStarting p x else x).2) := by
  have hr : Steady p (if c then refusedStarting p x else x).2 := by
    cases c with
    | true => exact steady_refusedStarting h
    | false => exact h
  exact steady_ite _ hr (hr.trans (steady_produce ..))

theorem steady_keyAction (k : Fin 4) (p : Part) : Steady p (keyAction k p) := by
  unfold keyAction
  refine steady_ite _ (.refl p) ?_
  split
  · exact steady_silenceHorn p
  · exact steady_judgedKey (steady_tryAccept (oldestReview p) p) ..
  · exact steady_judgedKey (steady_tryDecline (oldestReview p) p) ..
  · exact steady_reliefKey p

theorem steady_pressKey (k : Fin 4) (p : Part) : Steady p (pressKey k p) :=
  steady_ite _ ((steady_modKey k _ p).trans (steady_keyAction k _)) (.refl p)

theorem steady_releaseKey (k : Fin 4) (p : Part) : Steady p (releaseKey k p) := steady_ite _ (steady_modKey k _ p) (.refl p)

theorem steady_settleKey (k : Fin 4) (b : Bool) (p : Part) : Steady p (settleKey k b p) :=
  steady_ite _ (steady_modKey k _ p) (.refl p)

theorem steady_contactEdge (i : Fin 8) (p : Part) : Steady p (contactEdge i p) := by
  unfold contactEdge
  split
  · exact .refl p
  · exact steady_changeInput i p
  · exact steady_ite _ (steady_activateTrip i p) (steady_clearTrip i p)

theorem steady_sampleKey (f : Fin 4 → Bool) (p : Part) (k : Fin 4) : Steady p (sampleKey f p k) := by
  unfold sampleKey
  simp only
  split
  · exact steady_ite _ (steady_settleKey ..) (steady_modKey ..)
  · exact steady_ite _ (steady_ite _ (steady_pressKey ..) (steady_modKey ..)) (steady_modKey ..)
  · exact steady_ite _ (steady_modKey ..) (steady_ite _ (steady_releaseKey ..) (steady_modKey ..))

theorem steady_sampleInput (f : Fin 8 → Bool) (p : Part) (i : Fin 8) : Steady p (sampleInput f p i) := by
  unfold sampleInput
  refine steady_ite _ ?_ (.refl p)
  split
  · exact steady_ite _ (steady_settleContact ..) (steady_modInput ..)
  · exact steady_ite _ (steady_modInput ..) (steady_ite _ (steady_contactEdge ..) (steady_modInput ..))
  · exact steady_ite _ (steady_ite _ (steady_contactEdge ..) (steady_modInput ..)) (steady_modInput ..)

/-- The counters advance within their ranges (R49, R52). -/
theorem steady_advanceCounters (p : Part) : Steady p (advanceCounters p) :=
  { steady_of_frame (p := p) (q := { advanceCounters p with anu := p.anu }) rfl rfl rfl rfl rfl with
    panel := fun h => ⟨h.1, Nat.mod_lt _ (by decide), Nat.mod_lt _ (by decide)⟩ }

theorem steady_sampleStep (k : BitVec 4) (c : BitVec 8) (p : Part) : Steady p (sampleStep k c p) :=
  steady_ite _ (((steady_advanceCounters p).trans (steady_foldl (steady_sampleKey _) _ _)).trans
    (steady_foldl (steady_sampleInput _) _ _)) (.refl p)

end Sys2Proof.Machine
end


section
/-! PROOFS. The line, the start-up and the tick (R49, R52, R92, R94, R167). -/

namespace Sys2Proof.Machine

variable {p q r : Part}

/-! ## The line (chapter 9) -/

theorem steady_popRing (p : Part) : Steady p (popRing p) := steady_of_frame rfl rfl rfl rfl rfl

theorem orders_takeTelegram {f : Telegram → Part → Option Part}
    (hf : ∀ t q, listening p = true → f t p = some q → Orders p q) : Orders p (takeTelegram f p) := by
  unfold takeTelegram
  split
  · split
    · next hl =>
      split
      · next h => exact (hf _ _ hl h).trans (steady_popRing _).orders
      · exact .refl p
    · exact .refl p
  · exact .refl p

theorem orders_takeMark {f : Slot → Part → Option Part} (hf : ∀ x q, f x p = some q → Orders p q) :
    Orders p (takeMark f p) := by
  unfold takeMark
  split
  · split
    · split
      · split
        · next h => exact (hf _ _ h).trans ((steady_freeSlot ..).trans (steady_popRing _)).orders
        · exact .refl p
      · exact .refl p
    · exact .refl p
  · exact .refl p

theorem steady_discardInput (i : Fin 8) (p : Part) : Steady p (discardInput i p) := by
  unfold discardInput
  split
  · exact steady_modInput ..
  · exact (steady_bumpUnpublished i p).trans (steady_ite _ (steady_settleInput ..) (steady_modInput ..))

theorem steady_discardNotice (p : Part) (o : Owner) : Steady p (discardNotice p o) := by
  unfold discardNotice
  split
  · exact steady_discardInput ..
  · exact .refl p

theorem ruffles_houIsolated (p : Part) : Ruffles p (houIsolated p) :=
  ((ruffles_foldl (f := fun q i => closeOffer i .isolated false q) (fun _ _ => (steady_closeOffer ..).ruffles) _ p).trans
    (ruffles_foldl (f := fun q i => closeReception i .isolated q) (fun _ _ => ruffles_closeReception ..) _ _)).trans
    (steady_modHou (f := fun h => { h with answers := [] }) (fun _ => rfl) _).ruffles

/-- Another station state in which the station listens. -/
theorem ruffles_setListening (f : Stc → Stc) (h : listening (modStc f p) = true) : Ruffles p (modStc f p) :=
  ruffles_of (fun _ => h) (fun _ hb => ⟨hb, id⟩) id id

theorem orders_enterIsolated (p : Part) : Orders p (enterIsolated p) := by
  have hqueue : Steady p (discardQueue p) := steady_modLif _ p
  have hnotices := hqueue.trans (steady_foldl steady_discardNotice (discardedOwners p) _)
  have hlogin : ∀ q, Steady q (oweLogin q) := fun q => steady_of_frame rfl rfl rfl rfl rfl
  have hlink := (hnotices.trans (hlogin _)).trans (steady_modLif (fun l => { l with waiting := [], errors := 0 }) _)
  have hleft := hlink.ruffles.trans (ruffles_setListening (fun c =>
    { c with station := some .isolated, isolation := Config.isolationSeconds, settle := 0 }) rfl)
  have hfreed := (hleft.trans (ruffles_aruIsolated _)).trans (ruffles_houIsolated _)
  exact (hfreed.trans (steady_cancelRelief .holdings none _).ruffles).settled.trans
    ((steady_produce ..).trans (steady_deriveHorn _)).orders

theorem orders_onSending {f : Fin 12 → Slot → Part → Part} (hf : ∀ k x, Orders p (f k x p)) : Orders p (onSending f p) := by
  unfold onSending
  split
  · split
    · exact hf ..
    · exact .refl p
  · exact .refl p

theorem steady_endAttempt (k : Fin 12) (x : Slot) (p : Part) : Steady p (endAttempt k x p) :=
  steady_ite _ (steady_freeSlot k p) ((steady_modLif _ p).trans (steady_markReturned ..))

theorem orders_countError {f : Part → Part} (hf : ∀ q, Orders q (f q)) (p : Part) : Orders p (countError f p) := by
  have hcount := ((steady_modLif (fun l => { l with errors := l.errors + 1 }) p).trans
    (steady_modStats (fun s => { s with transmitErrors := s.transmitErrors + 1 }) _)).orders
  exact orders_ite _ (hcount.trans (orders_enterIsolated _)) (hcount.trans (hf _))

theorem steady_beginAttempt (p : Part) : Steady p (beginAttempt p) := by
  unfold beginAttempt
  refine steady_ite _ ?_ (.refl p)
  split
  · split
    · exact (steady_modLif ..).trans (steady_markAttempt ..)
    · exact .refl p
  · exact .refl p

theorem steady_receive (b : List Byte) (p : Part) : Steady p (receive b p) := by
  unfold receive
  refine steady_ite _ (steady_ite _ (.refl p) (steady_ite _ (steady_ite _ (.refl p) (steady_modStats ..)) ?_)) (.refl p)
  split
  · exact (steady_modLif _ p).trans (steady_modStats ..)
  · exact steady_modStats ..

theorem steady_beaconCompleted (c : BeaconContent) (p : Part) : Steady p (beaconCompleted c p) := by
  have haru : ∀ (f : Aru → Aru) (q : Part), (∀ x, (f x).views = x.views) → Steady q (modAru f q) := fun f q hf =>
    steady_of_frame rfl (hf _) rfl rfl rfl
  have hnext := haru (fun r => { r with schedule := ownPeriod p, first := nextFirst c }) p fun _ => rfl
  refine steady_ite _ hnext (steady_ite _ ?_ (hnext.trans (haru _ _ fun _ => by rfl)))
  exact hnext.trans ((haru _ _ fun _ => by rfl).trans (steady_callBeacon _))

/-! ## Start-up (chapter 11) -/

/-- The station is told that it has no configuration, a reset being in progress (R170, R171). -/
theorem orders_enterUnconfigured (f : ConfigFault) (h : p.stc.station = none) : Orders p (enterUnconfigured f p) := by
  have hdeaf : listening p = false := by simp [listening, starting, running, isolated, h]
  have hset : Orders p (modStc (fun c => { c with station := some .unconfigured, fault := some f }) p) :=
    ⟨id, id, id, fun hr a => (hr a).trans (by rw [roleByTable, roleByTable, if_pos (by simp [hdeaf])]; rfl)⟩
  exact hset.trans ((steady_produce ..).trans (steady_deriveHorn _)).orders

/-- The part as a reset leaves it, before the straps are judged (R170). -/
def clearedPart (x : StationNo) (c : ResetCause) (w : Stats) : Part :=
  { stc := { strapPins := x, number := x, cause := c }, cnp := { stats := w } }

theorem orders_resetPart (x : StationNo) (c : ResetCause) (w : Stats) (p : Part) : Orders p (resetPart x c w) := by
  have hview : ∀ a, view (clearedPart x c w) a = {} := fun a => tabulate_get ..
  have hclear : Orders p (clearedPart x c w) :=
    ⟨fun _ => Nat.zero_le 64, fun _ a _ => by rw [hview], fun _ => ⟨rfl, Nat.zero_lt_succ _, Nat.zero_lt_succ _⟩,
      fun _ a => by rw [hview]; rfl⟩
  exact orders_ite _ (hclear.trans (orders_enterUnconfigured .straps rfl)) hclear

theorem orders_consoleReset (x : StationNo) (p : Part) : Orders p (consoleReset x p) :=
  orders_ite _ (orders_resetPart ..) (orders_resetPart ..)

theorem Ruffles.startingFollows (w : Reason) (h : Ruffles p q) : Orders p (startingFollows w q) :=
  (h.trans (ruffles_foldl (fun q a => (steady_startView q a).ruffles) _ _)).settled.trans
    (((steady_judgeStartup _).trans (steady_produce ..)).trans (steady_deriveHorn _)).orders

theorem orders_acceptImage (b : List Byte) (p : Part) : Orders p (acceptImage b p) := by
  refine Ruffles.startingFollows _ (ruffles_of (fun _ => rfl) (fun a ha => ?_) id id)
  simp only [holds, view, modAru_aru, modStc_aru, tabulate_get] at ha ⊢
  exact ⟨ha, id⟩

theorem orders_imageRead (ok : Bool) (b : List Byte) (p : Part) : Orders p (imageRead ok b p) := by
  unfold imageRead
  split
  · next hs =>
    split
    · exact orders_enterUnconfigured _ (by simpa using hs)
    · exact orders_acceptImage b p
  · exact .refl p

theorem steady_inputRunning (p : Part) (i : Fin 8) : Steady p (inputRunning p i) :=
  (steady_seedInput p i).trans (steady_pushTelegram ..)

theorem steady_sendReadyAnswers (p : Part) : Steady p (sendReadyAnswers p) :=
  steady_foldl (fun _ _ => steady_ite _ (steady_pushTelegram ..) (.refl _)) _ p

theorem orders_settleRun (p : Part) : Orders p (settleRun p) := by
  have hset := ((ruffles_setListening (p := p) (fun c => { c with station := some .running, settle := 0 }) rfl).trans
    (ruffles_modViews (f := fun v => { v with startup := false }) (fun _ => ⟨rfl, id⟩) _)).settled
  have hschedule : ∀ q, Steady q (modAru (fun x => { x with schedule := ownPeriod q }) q) := fun q =>
    steady_of_frame rfl rfl rfl rfl rfl
  have haru := (hset.trans ((steady_callBeacon _).trans (hschedule _)).orders).trans (orders_judgeClaims _)
  refine orders_ite _ (haru.trans ?_) (.refl p)
  exact (((steady_foldl steady_inputRunning (List.finRange 8) _).trans (steady_sendReadyAnswers _)).trans
    ((steady_produce ..).trans (steady_deriveHorn _))).orders

theorem orders_isolationRun (p : Part) : Orders p (isolationRun p) :=
  orders_ite _ (((ruffles_setListening setStarting rfl).trans (steady_placeOwedLogin _).ruffles).startingFollows _) (.refl p)

/-! ## The clock (chapter 1) -/

theorem steady_shelfRun (t : Tag) (p : Part) : Steady p (shelfRun t p) := by
  unfold shelfRun
  split
  · split
    · exact steady_ite _ (steady_expireShelf ..) (.refl p)
    · exact .refl p
  · exact .refl p

theorem steady_meterTick (p : Part) : Steady p (meterTick p) :=
  steady_ite _ (steady_foldl steady_decayArea allAreas p) (.refl p)

theorem orders_holderRun (a : Area) (p : Part) : Orders p (holderRun a p) :=
  orders_ite _ (orders_forgetHolder a p) (.refl p)

theorem steady_stationRun (x : StationNo) (p : Part) : Steady p (stationRun x p) := by
  unfold stationRun
  split
  · exact steady_ite _ (steady_of_frame rfl rfl rfl rfl rfl) (.refl p)
  · exact .refl p

theorem orders_claimRun (a : Area) (p : Part) : Orders p (claimRun a p) :=
  orders_ite _ ((steady_modView a (f := fun v => { v with claimDelay := 0 }) (fun _ => rfl) p).orders.trans
    (orders_judgeClaims _)) (.refl p)

theorem steady_scheduleRun (p : Part) : Steady p (scheduleRun p) := by
  have hdue : Steady p (modAru (fun r => { r with schedule := 0 }) p) := steady_of_frame rfl rfl rfl rfl rfl
  exact steady_ite _ (hdue.trans (steady_callBeacon _)) (.refl p)

theorem steady_advanceSeconds (p : Part) : Steady p (advanceSeconds p) := ⟨rfl, rfl, fun _ => rfl, fun _ => rfl, id, id⟩

/-- The counts alone (R37, R93, R101, R102, R120, R140, R174). -/
theorem steady_counted (p : Part) : Steady p
    { p with
      stc := tickStc p.stc, atu := tickAtu p.atu, ssu := tickSsu p.ssu, aru := tickAru (running p) p.aru,
      hou := tickHou p.hou } where
  station := rfl
  settings := rfl
  views := fun a => by simp only [view, tickAru, tabulate_get]; rfl
  receptions := fun i => by
    simp only [tickHou, tabulate_get, Option.map_map]
    congr 1
    funext x
    simp only [Function.comp, tickReception]
    split <;> rfl
  events := id
  panel := id

theorem orders_tickStep (s : State) : Orders s.part (tickStep s).part := by
  rw [tickStep_part]
  refine orders_ite _ (.refl _) (orders_ite _ ?_ (steady_advanceSeconds _).orders)
  exact ((steady_advanceSeconds _).trans (steady_counted _)).orders.trans (orders_judgeClaims _)

/-! ## The Console Port (chapter 10) -/

theorem orders_request {α : Type} {code : Byte} {always : Bool} {form : List Byte → Option α} {serve : α → Part → Part}
    (hserve : ∀ x q, Orders q (serve x q)) (f : Frame) (p : Part) : Orders p (request code always form serve f p) := by
  have hanswered : ∀ (f : Cnp → Cnp) (q : Part), (∀ c, (f c).events = c.events) → Orders q (modCnp f q) := fun f q hf =>
    (steady_modCnp hf q).orders
  unfold request
  refine orders_ite _ (.refl p) (orders_ite _ (hanswered _ _ fun _ => by rfl) (orders_ite _ (hanswered _ _ fun _ => by rfl) ?_))
  simp only
  split
  · exact Orders.trans (hanswered _ _ fun _ => by rfl) (hanswered _ _ fun _ => by rfl)
  · exact orders_ite _ (Orders.trans (hanswered _ _ fun _ => by rfl) (hanswered _ _ fun _ => by rfl))
      (Orders.trans (hanswered _ _ fun _ => by rfl) (hserve ..))

theorem steady_answerWith (c : ResultCode) (b : List Byte) (p : Part) : Steady p (answerWith c b p) :=
  steady_modCnp (fun _ => by rfl) _

theorem steady_serveReadEntry (t : Tag) (p : Part) : Steady p (serveReadEntry t p) := by
  unfold serveReadEntry; split <;> exact steady_answerWith ..

theorem steady_serveReadReception (i : Fin 4) (m n : Nat) (p : Part) : Steady p (serveReadReception i m n p) := by
  unfold serveReadReception; split <;> exact steady_answerWith ..

theorem steady_serveAck (t : Tag) (p : Part) : Steady p (serveAck t p) := by
  unfold serveAck
  split
  · exact steady_answerWith ..
  · exact (steady_queueRequest ..).trans (steady_answerWith ..)

theorem steady_serveShelve (t : Tag) (m : Nat) (p : Part) : Steady p (serveShelve t m p) := by
  unfold serveShelve
  split
  · exact steady_answerWith ..
  · exact (steady_queueRequest ..).trans (steady_answerWith ..)

theorem steady_serveUnshelve (t : Tag) (p : Part) : Steady p (serveUnshelve t p) := by
  unfold serveUnshelve
  split
  · exact steady_answerWith ..
  · exact (steady_queueRequest ..).trans (steady_answerWith ..)

theorem steady_serveTrip (b : Bool) (a : Area) (p : Part) : Steady p (serveTrip b a p) := by
  unfold serveTrip
  split
  · exact steady_answerWith ..
  · exact (steady_queueRequest ..).trans (steady_answerWith ..)

theorem steady_serveOffer (a : Area) (b : Byte) (p : Part) : Steady p (serveOffer a b p) := by
  unfold serveOffer
  split
  · exact steady_answerWith ..
  · exact (steady_startOffer ..).trans (steady_answerWith ..)

theorem steady_serveRelief (p : Part) : Steady p (serveRelief p) := by
  unfold serveRelief
  split
  · exact steady_answerWith ..
  · exact (steady_armRelief p).trans (steady_answerWith ..)

theorem steady_serveLogout (p : Part) : Steady p (serveLogout p) :=
  steady_ite _ ((steady_endSession ..).trans (steady_answerWith ..)) (steady_answerWith ..)

end Sys2Proof.Machine
end


section
/-! PROOFS. O56 command by command: the telegrams and completion marks of the ring, the transmit attempt, the requests of the
Console Port, and then the step. -/

namespace Sys2Proof.Machine

variable {p : Part}

/-- What a rule of the ring makes of the state, if it applies, keeps the four in order. -/
def OrdersSome (p : Part) (o : Option Part) : Prop := ∀ q, o = some q → Orders p q

theorem ordersSome_none (p : Part) : OrdersSome p none := fun _ h => Option.noConfusion rfl (heq_of_eq h)

theorem ordersSome_some {q : Part} (h : Orders p q) : OrdersSome p (some q) := fun _ e => Option.some.inj e ▸ h

theorem ordersSome_ite {c : Prop} [Decidable c] {o o' : Option Part} (h : OrdersSome p o) (h' : OrdersSome p o') :
    OrdersSome p (if c then o else o') := by
  split
  · exact h
  · exact h'

theorem ordersSome_addressed (t : Telegram) {q : Part} (h : Orders p q) : OrdersSome p (some (if addressed t then q else p)) :=
  ordersSome_some (orders_ite _ h (.refl p))

/-! ## Telegrams received -/

theorem ordersSome_takenCondition (t : Telegram) : OrdersSome p (takenCondition t p) := by
  unfold takenCondition
  split
  · exact ordersSome_some (steady_applyCondition ..).orders
  · exact ordersSome_none p

theorem ordersSome_takenAcknowledge (t : Telegram) : OrdersSome p (takenAcknowledge t p) := by
  unfold takenAcknowledge
  split
  · exact ordersSome_some (steady_applyAcknowledge ..).orders
  · exact ordersSome_none p

theorem ordersSome_takenShelve (t : Telegram) : OrdersSome p (takenShelve t p) := by
  unfold takenShelve
  split
  · exact ordersSome_ite (ordersSome_none p) (ordersSome_some (steady_applyShelve ..).orders)
  · exact ordersSome_none p

theorem ordersSome_takenUnshelve (t : Telegram) : OrdersSome p (takenUnshelve t p) := by
  unfold takenUnshelve
  split
  · exact ordersSome_ite (ordersSome_some (steady_applyUnshelve ..).orders) (ordersSome_none p)
  · exact ordersSome_none p

theorem ordersSome_takenBeacon (t : Telegram) : OrdersSome p (takenBeacon t p) := by
  unfold takenBeacon
  split
  · exact ordersSome_some (orders_applyBeacon ..)
  · exact ordersSome_none p

theorem ordersSome_takenSyncRequest (t : Telegram) : OrdersSome p (takenSyncRequest t p) := by
  unfold takenSyncRequest
  split
  · exact ordersSome_addressed t (steady_ite _ (steady_startSync ..) (.refl p)).orders
  · exact ordersSome_none p

theorem ordersSome_takenTrip (t : Telegram) : OrdersSome p (takenTrip t p) := by
  unfold takenTrip
  split
  · exact ordersSome_some (orders_tripArea ..)
  · exact ordersSome_none p

theorem ordersSome_takenRestore (t : Telegram) : OrdersSome p (takenRestore t p) := by
  unfold takenRestore
  split
  · exact ordersSome_some (steady_leaveEmergency ..).orders
  · exact ordersSome_none p

theorem ordersSome_takenLogin (t : Telegram) : OrdersSome p (takenLogin t p) := by
  unfold takenLogin
  split
  · exact ordersSome_some (steady_applyLogin ..).orders
  · exact ordersSome_none p

theorem ordersSome_takenOffer (t : Telegram) : OrdersSome p (takenOffer t p) := by
  unfold takenOffer
  split
  · exact ordersSome_addressed t (orders_applyOffer ..)
  · exact ordersSome_none p

theorem ordersSome_takenHandoverDigest (t : Telegram) : OrdersSome p (takenHandoverDigest t p) := by
  unfold takenHandoverDigest
  split
  · exact ordersSome_ite (ordersSome_none p) (ordersSome_addressed t (orders_applyHandoverDigest ..))
  · exact ordersSome_none p

theorem ordersSome_takenSyncDigest (t : Telegram) : OrdersSome p (takenSyncDigest t p) := by
  unfold takenSyncDigest
  split
  · exact ordersSome_ite (ordersSome_some (orders_ite _ (.refl p) (orders_applySyncDigest ..))) (ordersSome_none p)
  · exact ordersSome_none p

theorem ordersSome_takenReply (t : Telegram) : OrdersSome p (takenReply t p) := by
  unfold takenReply
  split
  · exact ordersSome_addressed t (steady_applyReply ..).orders
  · exact ordersSome_none p

theorem ordersSome_takenRelease (hl : listening p = true) (t : Telegram) : OrdersSome p (takenRelease t p) := by
  unfold takenRelease
  split
  · exact ordersSome_addressed t (orders_applyRelease hl ..)
  · exact ordersSome_none p

theorem ordersSome_takenWithdraw (t : Telegram) : OrdersSome p (takenWithdraw t p) := by
  unfold takenWithdraw
  split
  · exact ordersSome_addressed t (orders_applyWithdraw ..)
  · exact ordersSome_none p

/-! ## Completions -/

theorem orders_conditionCompleted (i : Fin 8) (t : Tag) (x : Priority) (b : Bool) (n : Occurrence) :
    Orders p (conditionCompleted i t x b n p) :=
  ((steady_modInput i _ p).trans ((steady_applyCondition t x b n _).trans (steady_judgeInput i _))).orders

theorem ordersSome_completedTrip (x : Slot) : OrdersSome p (completedTrip x p) := by
  unfold completedTrip
  split
  · refine ordersSome_some (Orders.trans ?_ (orders_tripArea ..))
    split
    · exact (steady_modInput ..).orders
    · exact .refl p
  · exact ordersSome_none p

theorem ordersSome_completedCondition (x : Slot) : OrdersSome p (completedCondition x p) := by
  unfold completedCondition
  split
  · exact ordersSome_some (orders_conditionCompleted ..)
  · exact ordersSome_none p

theorem ordersSome_completedAcknowledge (x : Slot) : OrdersSome p (completedAcknowledge x p) := by
  unfold completedAcknowledge
  split
  · exact ordersSome_some (steady_applyAcknowledge ..).orders
  · exact ordersSome_none p

theorem ordersSome_completedShelve (x : Slot) : OrdersSome p (completedShelve x p) := by
  unfold completedShelve
  split
  · exact ordersSome_some (orders_ite _ (steady_applyUnshelve ..).orders (steady_applyShelve ..).orders)
  · exact ordersSome_none p

theorem ordersSome_completedRestore (x : Slot) : OrdersSome p (completedRestore x p) := by
  unfold completedRestore
  split
  · exact ordersSome_some (steady_leaveEmergency ..).orders
  · exact ordersSome_none p

theorem ordersSome_completedLogin (x : Slot) : OrdersSome p (completedLogin x p) := by
  unfold completedLogin
  split
  · exact ordersSome_some (steady_modSsu ..).orders
  · exact ordersSome_none p

theorem ordersSome_completedBeacon (x : Slot) : OrdersSome p (completedBeacon x p) := by
  unfold completedBeacon
  split
  · exact ordersSome_some (steady_beaconCompleted ..).orders
  · exact ordersSome_none p

theorem ordersSome_completedSyncRequest (x : Slot) : OrdersSome p (completedSyncRequest x p) := by
  unfold completedSyncRequest
  split
  · exact ordersSome_some (orders_ite _ (.refl p) (steady_modView _ (fun _ => by rfl) p).orders)
  · exact ordersSome_none p

theorem ordersSome_completedOffer (x : Slot) : OrdersSome p (completedOffer x p) := by
  unfold completedOffer
  split
  · exact ordersSome_some (steady_offerCompleted ..).orders
  · exact ordersSome_none p

theorem ordersSome_completedHandoverSegment (x : Slot) : OrdersSome p (completedHandoverSegment x p) := by
  unfold completedHandoverSegment
  split
  · exact ordersSome_ite (ordersSome_none p) (ordersSome_some (steady_segmentCompleted ..).orders)
  · exact ordersSome_none p

theorem ordersSome_completedSyncSegment (x : Slot) : OrdersSome p (completedSyncSegment x p) := by
  unfold completedSyncSegment
  split
  · exact ordersSome_ite (ordersSome_some (steady_segmentCompleted ..).orders) (ordersSome_none p)
  · exact ordersSome_none p

theorem ordersSome_completedReply (x : Slot) : OrdersSome p (completedReply x p) := by
  unfold completedReply
  split
  · exact ordersSome_some (orders_replyCompleted ..)
  · exact ordersSome_none p

theorem ordersSome_completedRelease (x : Slot) : OrdersSome p (completedRelease x p) := by
  unfold completedRelease
  split
  · exact ordersSome_some (orders_releaseCompleted ..)
  · exact ordersSome_none p

theorem ordersSome_completedAnswer (x : Slot) : OrdersSome p (completedAnswer x p) := by
  unfold completedAnswer
  split
  · exact ordersSome_some (steady_answerCompleted ..).orders
  · exact ordersSome_none p

/-! ## The transmit attempt -/

theorem steady_completeSlot (k : Fin 12) (x : Slot) (p : Part) : Steady p (completeSlot k x p) :=
  steady_of_frame rfl rfl rfl rfl rfl

theorem orders_faultBusy (p : Part) : Orders p (faultBusy p) := orders_ite _ (orders_countError .refl p) (.refl p)

/-! ## The clock's commands -/

/-! ## Requests that only answer, and the two that judge a review -/

theorem steady_readPort (n : Nat) (p : Part) : Steady p (readPort n p) := steady_of_frame rfl rfl rfl rfl rfl

/-- Events read leave the queue (R168). -/
theorem steady_serveReadEvents (n : Nat) (p : Part) : Steady p (serveReadEvents n p) :=
  { steady_of_frame (p := p) (q := { serveReadEvents n p with cnp := p.cnp }) rfl rfl rfl rfl rfl with
    events := fun h => (List.drop_sublist n p.cnp.events).length_le.trans h }

theorem steady_serveStatus (p : Part) : Steady p (serveStatus p) :=
  (steady_answerWith ..).trans (steady_modCnp (fun _ => by rfl) _)

theorem steady_serveAccept (a : Area) (p : Part) : Steady p (serveAccept a p) :=
  (steady_refusedStarting (steady_tryAccept ..)).trans (steady_answerWith ..)

theorem steady_serveDecline (a : Area) (p : Part) : Steady p (serveDecline a p) :=
  (steady_refusedStarting (steady_tryDecline ..)).trans (steady_answerWith ..)

theorem orders_badRequest (c : Byte) (f : Frame) (p : Part) : Orders p
    (if 1 ≤ c.toNat ∧ c.toNat ≤ 19 then p else request c true (fun _ => (none : Option Unit)) (fun _ q => q) f p) :=
  orders_ite _ (.refl p) (orders_request (fun _ => .refl) f p)

/-! ## Every command -/

theorem exec_orders (c : Instr) (s : State) : ∃ q, exec c s = .next (s.withPart q) ∧ Orders s.part q := by
  cases c with
  | powerOnReset straps => exact ⟨_, rfl, orders_resetPart ..⟩
  | consoleReset straps => exact ⟨_, rfl, orders_consoleReset ..⟩
  | imageReadComplete ok b => exact ⟨_, rfl, orders_imageRead ..⟩
  | settleEnd => exact ⟨_, rfl, orders_settleRun _⟩
  | isolationEnd => exact ⟨_, rfl, orders_isolationRun _⟩
  | voidTransaction first => exact ⟨_, rfl, .refl _⟩
  | readTransaction n => exact ⟨_, rfl, (steady_readPort ..).orders⟩
  | status f => exact ⟨_, rfl, orders_request (fun _ q => (steady_serveStatus q).orders) f _⟩
  | readEntry f => exact ⟨_, rfl, orders_request (fun x q => (steady_serveReadEntry x q).orders) f _⟩
  | readList f => exact ⟨_, rfl, orders_request (fun _ _ => (steady_answerWith ..).orders) f _⟩
  | readArea f => exact ⟨_, rfl, orders_request (fun _ _ => (steady_answerWith ..).orders) f _⟩
  | readReception f => exact ⟨_, rfl, orders_request (fun _ _ => (steady_serveReadReception ..).orders) f _⟩
  | readEvents f => exact ⟨_, rfl, orders_request (fun x q => (steady_serveReadEvents x q).orders) f _⟩
  | readStats f => exact ⟨_, rfl, orders_request (fun _ _ => (steady_answerWith ..).orders) f _⟩
  | ack f => exact ⟨_, rfl, orders_request (fun x q => (steady_serveAck x q).orders) f _⟩
  | shelve f => exact ⟨_, rfl, orders_request (fun _ _ => (steady_serveShelve ..).orders) f _⟩
  | unshelve f => exact ⟨_, rfl, orders_request (fun x q => (steady_serveUnshelve x q).orders) f _⟩
  | silence f => exact ⟨_, rfl, orders_request (fun _ q => ((steady_silenceHorn q).trans (steady_answerWith ..)).orders) f _⟩
  | offer f => exact ⟨_, rfl, orders_request (fun _ _ => (steady_serveOffer ..).orders) f _⟩
  | accept f => exact ⟨_, rfl, orders_request (fun x q => (steady_serveAccept x q).orders) f _⟩
  | decline f => exact ⟨_, rfl, orders_request (fun x q => (steady_serveDecline x q).orders) f _⟩
  | relief f => exact ⟨_, rfl, orders_request (fun _ q => (steady_serveRelief q).orders) f _⟩
  | logout f => exact ⟨_, rfl, orders_request (fun _ q => (steady_serveLogout q).orders) f _⟩
  | declareTrip f => exact ⟨_, rfl, orders_request (fun x q => (steady_serveTrip false x q).orders) f _⟩
  | restore f => exact ⟨_, rfl, orders_request (fun x q => (steady_serveTrip true x q).orders) f _⟩
  | restart f => exact ⟨_, rfl, orders_request (fun _ q => orders_consoleReset q.stc.strapPins q) f _⟩
  | keySilencePress => exact ⟨_, rfl, (steady_pressKey ..).orders⟩
  | keyAcceptPress => exact ⟨_, rfl, (steady_pressKey ..).orders⟩
  | keyDeclinePress => exact ⟨_, rfl, (steady_pressKey ..).orders⟩
  | keyReliefPress => exact ⟨_, rfl, (steady_pressKey ..).orders⟩
  | alarmInputChange i => exact ⟨_, rfl, (steady_changeInput ..).orders⟩
  | tripInputActivation i => exact ⟨_, rfl, (steady_activateTrip ..).orders⟩
  | badgePresentation b => exact ⟨_, rfl, orders_badgeBurst ..⟩
  | telegramReceived b => exact ⟨_, rfl, (steady_receive ..).orders⟩
  | takeCondition => exact ⟨_, rfl, orders_takeTelegram fun t q _ => ordersSome_takenCondition t q⟩
  | takeAcknowledge => exact ⟨_, rfl, orders_takeTelegram fun t q _ => ordersSome_takenAcknowledge t q⟩
  | takeShelve => exact ⟨_, rfl, orders_takeTelegram fun t q _ => ordersSome_takenShelve t q⟩
  | takeUnshelve => exact ⟨_, rfl, orders_takeTelegram fun t q _ => ordersSome_takenUnshelve t q⟩
  | takeBeacon => exact ⟨_, rfl, orders_takeTelegram fun t q _ => ordersSome_takenBeacon t q⟩
  | takeSyncRequest => exact ⟨_, rfl, orders_takeTelegram fun t q _ => ordersSome_takenSyncRequest t q⟩
  | takeTrip => exact ⟨_, rfl, orders_takeTelegram fun t q _ => ordersSome_takenTrip t q⟩
  | takeRestore => exact ⟨_, rfl, orders_takeTelegram fun t q _ => ordersSome_takenRestore t q⟩
  | takeLogin => exact ⟨_, rfl, orders_takeTelegram fun t q _ => ordersSome_takenLogin t q⟩
  | takeOffer => exact ⟨_, rfl, orders_takeTelegram fun t q _ => ordersSome_takenOffer t q⟩
  | takeHandoverDigest => exact ⟨_, rfl, orders_takeTelegram fun t q _ => ordersSome_takenHandoverDigest t q⟩
  | takeSyncDigest => exact ⟨_, rfl, orders_takeTelegram fun t q _ => ordersSome_takenSyncDigest t q⟩
  | takeReply => exact ⟨_, rfl, orders_takeTelegram fun t q _ => ordersSome_takenReply t q⟩
  | takeRelease => exact ⟨_, rfl, orders_takeTelegram fun t q hl => ordersSome_takenRelease hl t q⟩
  | takeWithdraw => exact ⟨_, rfl, orders_takeTelegram fun t q _ => ordersSome_takenWithdraw t q⟩
  | sendAttempt => exact ⟨_, rfl, (steady_beginAttempt _).orders⟩
  | arbitrationLost => exact ⟨_, rfl, orders_onSending fun k x => (steady_endAttempt k x _).orders⟩
  | lineCompletion => exact ⟨_, rfl, orders_onSending fun k x => (steady_completeSlot k x _).orders⟩
  | transmitError => exact ⟨_, rfl, orders_onSending fun k x => orders_countError (fun q => (steady_endAttempt k x q).orders) _⟩
  | busyFault => exact ⟨_, rfl, orders_faultBusy _⟩
  | conditionCompletion => exact ⟨_, rfl, orders_takeMark fun x q => ordersSome_completedCondition x q⟩
  | acknowledgeCompletion => exact ⟨_, rfl, orders_takeMark fun x q => ordersSome_completedAcknowledge x q⟩
  | shelveCompletion => exact ⟨_, rfl, orders_takeMark fun x q => ordersSome_completedShelve x q⟩
  | tripCompletion => exact ⟨_, rfl, orders_takeMark fun x q => ordersSome_completedTrip x q⟩
  | restoreCompletion => exact ⟨_, rfl, orders_takeMark fun x q => ordersSome_completedRestore x q⟩
  | loginCompletion => exact ⟨_, rfl, orders_takeMark fun x q => ordersSome_completedLogin x q⟩
  | beaconCompletion => exact ⟨_, rfl, orders_takeMark fun x q => ordersSome_completedBeacon x q⟩
  | syncRequestCompletion => exact ⟨_, rfl, orders_takeMark fun x q => ordersSome_completedSyncRequest x q⟩
  | offerCompletion => exact ⟨_, rfl, orders_takeMark fun x q => ordersSome_completedOffer x q⟩
  | digestSegmentCompletion => exact ⟨_, rfl, orders_takeMark fun x q => ordersSome_completedHandoverSegment x q⟩
  | syncSegmentCompletion => exact ⟨_, rfl, orders_takeMark fun x q => ordersSome_completedSyncSegment x q⟩
  | replyCompletion => exact ⟨_, rfl, orders_takeMark fun x q => ordersSome_completedReply x q⟩
  | releaseCompletion => exact ⟨_, rfl, orders_takeMark fun x q => ordersSome_completedRelease x q⟩
  | answerItemCompletion => exact ⟨_, rfl, orders_takeMark fun x q => ordersSome_completedAnswer x q⟩
  | shelfExpiry t => exact ⟨_, rfl, (steady_shelfRun t _).orders⟩
  | meteringTick => exact ⟨_, rfl, (steady_meterTick _).orders⟩
  | holderAged a => exact ⟨_, rfl, orders_holderRun a _⟩
  | stationUnheard x => exact ⟨_, rfl, (steady_stationRun x _).orders⟩
  | claimDelayRun a => exact ⟨_, rfl, orders_claimRun a _⟩
  | beaconScheduleDue => exact ⟨_, rfl, (steady_scheduleRun _).orders⟩
  | answerGapExpiry i => exact ⟨_, rfl, (steady_answerGapRun i _).orders⟩
  | gapTimeout i => exact ⟨_, rfl, orders_gapRun i _⟩
  | reviewTimeout i => exact ⟨_, rfl, (steady_reviewRun i _).orders⟩
  | releaseTimeout i => exact ⟨_, rfl, orders_releaseRun i _⟩
  | replyTimeout i => exact ⟨_, rfl, (steady_replyRun i _).orders⟩
  | graceExpiry => exact ⟨_, rfl, orders_graceRun _⟩
  | reliefWindowExpiry => exact ⟨_, rfl, (steady_ite _ (steady_cancelRelief ..) (.refl _)).orders⟩
  | keyReleaseEdge k => exact ⟨_, rfl, (steady_releaseKey k _).orders⟩
  | keyFirstSettling k d => exact ⟨_, rfl, (steady_settleKey k d _).orders⟩
  | inputFirstSettling i b => exact ⟨_, rfl, (steady_settleContact i b _).orders⟩
  | tripInputDeactivation i => exact ⟨_, rfl, (steady_clearTrip i _).orders⟩
  | sampleTick k c => exact ⟨_, rfl, (steady_sampleStep k c _).orders⟩
  | badRequest c f => exact ⟨_, rfl, orders_badRequest c f _⟩

theorem step_orders {s u : State} (h : step s = .next u) : Orders s.part u.part := by
  unfold step at h
  split at h
  · next c rest _ =>
    obtain ⟨q, hexec, horders⟩ := exec_orders c { s with pending := rest }
    rw [hexec] at h
    exact Host.Outcome.next.inj h ▸ horders
  · exact Host.Outcome.next.inj h ▸ orders_tickStep s

end Sys2Proof.Machine

open Sys2Proof.Machine in
/-- Settles O56: each command of `exec`, and the tick, keeps the four in order (`step_orders`). -/
theorem stepsKeepQueuesHoldersAndPanel : Obligations.StepsKeepQueuesHoldersAndPanel := by
  intro s u h
  exact ⟨(step_orders h).events, (step_orders h).holder, (step_orders h).role, (step_orders h).panel⟩
end


section
/-! PROOFS. The keys: press, release and first settling, SILENCE and RELIEF; what the horn output and the lamps show. -/

namespace Sys2Proof.Machine

variable {p : Part} {s : State} {a : Area}

/-! ## Edges (R54, R55) -/

/-- The part once key `k` has been found down (R54). -/
def pressedKey (k : Fin 4) (p : Part) : Part := modKey k (fun x => { x with state := .down, run := 0 }) p

theorem sampling_of_station (h : p.stc.station ≠ none) : sampling p = true := Option.isSome_iff_ne_none.2 h

theorem pressKey_up {k : Fin 4} (h : p.stc.station ≠ none) (hup : (key p k).state = .up) :
    pressKey k p = keyAction k (pressedKey k p) := if_pos ⟨sampling_of_station h, hup⟩

theorem releaseKey_down {k : Fin 4} (h : p.stc.station ≠ none) (hdown : (key p k).state = .down) :
    releaseKey k p = modKey k (fun x => { x with state := .up, run := 0 }) p := if_pos ⟨sampling_of_station h, hdown⟩

theorem settleKey_unknown {k : Fin 4} (h : p.stc.station ≠ none) (hu : (key p k).state = .unknown) (down : Bool) :
    settleKey k down p = modKey k (fun x => { x with state := if down then .down else .up, run := 0 }) p :=
  if_pos ⟨sampling_of_station h, hu⟩

theorem keyAction_unconfigured (h : unconfigured p = true) (k : Fin 4) : keyAction k p = p := if_pos h

theorem keyAction_listening (h : listening p = true) (k : Fin 4) : keyAction k p =
    match k with
    | 0 => silenceHorn p
    | 1 => acceptKey p
    | 2 => declineKey p
    | 3 => reliefKey p :=
  if_neg (by rw [unconfigured_of_listening h]; exact Bool.false_ne_true)

/-! ## RELIEF (R139) -/

/-- The result of a RELIEF request by R139's checks in order. -/
def reliefCode (p : Part) : ResultCode :=
  if running p = false then .notRunning
  else if sessionActive p = false then .noSession
  else if p.ssu.armed = true then .done
  else if holdsAny p = false then .notActing
  else if (∃ a, holds p a = true ∧ urgentAlerting p a = true) then .unackedUrgent
  else if (∃ r, p.hou.offers.get r ≠ none ∨ p.hou.receptions.get r ≠ none) then .busy
  else .queued

theorem heldUrgent_iff : heldUrgent p = true ↔ ∃ a, holds p a = true ∧ urgentAlerting p a = true := by
  simp [heldUrgent, allAreas]

theorem anyRecord_iff : anyRecord p = true ↔ ∃ r, p.hou.offers.get r ≠ none ∨ p.hou.receptions.get r ≠ none := by
  simp [anyRecord, Option.isSome_iff_ne_none]

theorem reliefRefusal_getD (p : Part) : (reliefRefusal p).getD .queued = reliefCode p := by
  unfold reliefRefusal reliefCode
  rw [firstFailing_cons Iff.rfl, firstFailing_cons Iff.rfl, firstFailing_cons (Bool.not_eq_false' _).to_iff,
    firstFailing_cons Iff.rfl, firstFailing_cons ((Bool.not_eq_false' _).to_iff.trans heldUrgent_iff),
    firstFailing_cons ((Bool.not_eq_false' _).to_iff.trans anyRecord_iff)]
  rfl

theorem reliefRefusal_ne_queued (p : Part) : reliefRefusal p ≠ some .queued := by
  unfold reliefRefusal
  simp only [firstFailing]
  (repeat' split) <;> simp

/-- No check refuses exactly when the code is the model's word for an admitted request. -/
theorem reliefRefusal_eq_none : reliefRefusal p = none ↔ reliefCode p = .queued := by
  rw [← reliefRefusal_getD]
  cases h : reliefRefusal p with
  | none => simp
  | some c => exact ⟨nofun, fun hc => absurd (h.trans (congrArg some hc)) (reliefRefusal_ne_queued p)⟩

theorem reliefRefusal_eq_some (h : reliefCode p ≠ .queued) : reliefRefusal p = some (reliefCode p) := by
  rw [← reliefRefusal_getD] at h ⊢
  cases hr : reliefRefusal p with
  | none => rw [hr] at h; exact absurd rfl h
  | some c => rfl

/-- An answer ends the outstanding request, an event having come between (R162, R167). -/
theorem answering_storing_outstanding (c : Cnp) (o : Option Byte) (n : Seconds) (e : Event) (x : ResultCode) (b : List Byte) :
    (({ c with outstanding := o } : Cnp).storing n e).answering x b = (c.storing n e).answering x b := by
  simp only [Cnp.storing]
  split <;> rfl

/-- What a press of the RELIEF key makes of the part by R139's code (R55). -/
theorem reliefKey_eq (p : Part) : reliefKey p =
    if reliefCode p = .queued then armRelief p
    else if reliefCode p = .done then p
    else produce { kind := .reliefRefused, reason := some (.result (reliefCode p)) } p := by
  by_cases h : reliefCode p = .queued
  · rw [if_pos h, reliefKey, reliefRefusal_eq_none.2 h]
  · rw [if_neg h, reliefKey, reliefRefusal_eq_some h]
    rfl

theorem exec_relief (hl : listening s.part = true) (ho : portOpen s.part = true) :
    Machine.exec (.relief (Frame.of [])) s = .next (s.withPart (serveRelief (requested 15 s.part))) := by
  obtain ⟨hshort, hform⟩ := frameOf_whole (form := formNone) (params := []) (by decide) rfl
  exact congrArg (fun q => Host.Outcome.next (s.withPart q)) (request_served hl ho hshort hform)

theorem exec_silence (hl : listening s.part = true) (ho : portOpen s.part = true) :
    Machine.exec (.silence (Frame.of [])) s = .next (s.withPart (serveSilence (requested 11 s.part))) := by
  obtain ⟨hshort, hform⟩ := frameOf_whole (form := formNone) (params := []) (by decide) rfl
  exact congrArg (fun q => Host.Outcome.next (s.withPart q)) (request_served hl ho hshort hform)

end Sys2Proof.Machine

open Sys2Proof.Machine in
/-- Settles O22: each edge sets its key's record alone (`releaseKey_down` and its like). -/
theorem keyEdgesSettleStates : Obligations.KeyEdgesSettleStates := by
  intro s k hs
  refine ⟨fun hdown => ?_, fun hu down => ?_, fun hun hup => ?_⟩
  · exact congrArg (fun q => Host.Outcome.next (s.withPart q)) (releaseKey_down hs hdown)
  · exact congrArg (fun q => Host.Outcome.next (s.withPart q)) (settleKey_unknown hs hu down)
  · have hpress : pressKey k s.part = pressedKey k s.part := by
      rw [pressKey_up hs hup, keyAction_unconfigured (show unconfigured (pressedKey k s.part) = true from hun)]
    refine ⟨?_, ?_, ?_, ?_⟩ <;> rintro rfl <;> exact congrArg (fun q => Host.Outcome.next (s.withPart q)) hpress

open Sys2Proof.Machine in
/-- Settles O20: the checks by `reliefRefusal_getD`, the request by `exec_relief`, the press by `pressKey_up`. -/
theorem reliefIsJudgedInOrder : Obligations.ReliefIsJudgedInOrder := by
  intro s code hl hcode
  have hcode : code = reliefCode s.part := hcode
  subst hcode
  refine ⟨fun ho => ⟨_, exec_relief hl ho, fun hne => ?_, fun heq => ?_⟩, fun hup => ⟨_, rfl, ?_⟩⟩
  · have hrefused : reliefRefusal (requested 15 s.part) = some (reliefCode s.part) := reliefRefusal_eq_some hne
    rw [serveRelief, hrefused]
    rfl
  · have hpassed : reliefRefusal (requested 15 s.part) = none := reliefRefusal_eq_none.2 heq
    have hcnp := answering_storing_outstanding s.part.cnp (some 15) s.part.stc.seconds { kind := .reliefArmed } .done []
    rw [serveRelief, hpassed, ← hcnp]
    rfl
  · have hpress : pressKey 3 s.part = reliefKey (pressedKey 3 s.part) := by
      rw [pressKey_up (listening_station hl) hup, keyAction_listening (show listening (pressedKey 3 s.part) = true from hl)]
    have hkey : key (pressedKey 3 s.part) 3 = { key s.part 3 with state := .down, run := 0 } := key_modKey_self ..
    have hcode : reliefCode (pressedKey 3 s.part) = reliefCode s.part := rfl
    rw [hpress, reliefKey_eq, hcode]
    split
    · next hq =>
      refine ⟨congrArg KeyRecord.state hkey, congrArg KeyRecord.run hkey, fun _ => rfl, fun hd => ?_, fun hne => absurd hq hne⟩
      rw [hq] at hd
      cases hd
    · next hq =>
      split
      · next hd =>
        exact ⟨congrArg KeyRecord.state hkey, congrArg KeyRecord.run hkey, fun hq' => absurd hq' hq, fun _ => rfl,
          fun _ hne => absurd hd hne⟩
      · next hd =>
        exact ⟨congrArg KeyRecord.state hkey, congrArg KeyRecord.run hkey, fun hq' => absurd hq' hq,
          fun hd' => absurd hd' hd, fun _ _ => rfl⟩
end


section
/-! PROOFS. What SILENCE clears, and what the horn output and the lamps show (R49 to R53). -/

namespace Sys2Proof.Machine

variable {p : Part} {s : State} {a : Area}

/-! ## SILENCE (R50) -/

/-- The panel with the demands cleared and the horn silent (R50). -/
def silenced (n : Anu) : Anu := { n with urgent := false, routine := false, trip := false, horn := .silent }

theorem silenceHorn_eq (p : Part) : silenceHorn p = { p with anu := silenced p.anu } := rfl

/-! ## Area lamps (R51) -/

theorem areaHas_iff {f : Entry → Bool} {g : Entry → Prop} (h : ∀ e, f e = true ↔ g e) :
    areaHas p a f = true ↔ ∃ e ∈ p.atu.table, e.area = a ∧ g e := by
  simp [areaHas, h]

theorem levelOf_eq_urgent (x : Priority) : levelOf x = .urgent ↔ x = .p1 ∨ x = .p2 := by cases x <;> simp [levelOf]
theorem levelOf_eq_routine (x : Priority) : levelOf x = .routine ↔ x = .p3 ∨ x = .p4 := by cases x <;> simp [levelOf]

theorem flickering_iff : (AreaSet.has p.atu.overflow a || (orphaned p a && decide ((view p a).role ≠ .cover))) = true ↔
    AreaSet.has p.atu.overflow a = true ∨ ((view p a).holder = 0 ∧ (view p a).role ≠ .hold ∧ (view p a).role ≠ .cover) := by
  simp [orphaned, holds, and_assoc]

theorem flashingFast_iff : (emergency p a ||
      areaHas p a (fun e => alerting e && !e.quiet && decide (levelOf e.priority = .urgent))) = true ↔
    (view p a).emergency = true ∨ ∃ e ∈ p.atu.table, e.area = a ∧
      (entryState e = some .alerting ∧ e.quiet = false ∧ (e.priority = .p1 ∨ e.priority = .p2)) := by
  rw [Bool.or_eq_true]
  refine or_congr Iff.rfl (areaHas_iff fun e => ?_)
  rw [← levelOf_eq_urgent, Bool.and_eq_true, Bool.and_eq_true, alerting, decide_eq_true_iff, Bool.not_eq_true',
    decide_eq_true_iff, and_assoc]

theorem flashingSlow_iff : areaHas p a (fun e =>
      (alerting e && !e.quiet && decide (levelOf e.priority = .routine)) || decide (entryState e = some .returned)) = true ↔
    ∃ e ∈ p.atu.table, e.area = a ∧ (entryState e = some .returned ∨
      (entryState e = some .alerting ∧ e.quiet = false ∧ (e.priority = .p3 ∨ e.priority = .p4))) :=
  areaHas_iff fun e => by
    rw [← levelOf_eq_routine, Bool.or_eq_true, Bool.and_eq_true, Bool.and_eq_true, alerting, decide_eq_true_iff,
      Bool.not_eq_true', decide_eq_true_iff, decide_eq_true_iff, and_assoc, or_comm]

theorem shiningSteady_iff : areaHas p a (fun e => decide (entryState e = some .standing) || (alerting e && e.quiet)) = true ↔
    ∃ e ∈ p.atu.table, e.area = a ∧ (entryState e = some .standing ∨ (entryState e = some .alerting ∧ e.quiet = true)) :=
  areaHas_iff fun e => by rw [Bool.or_eq_true, Bool.and_eq_true, alerting, decide_eq_true_iff, decide_eq_true_iff]

/-- The area lamp shows the first condition of R51 that holds. -/
theorem areaLamp_of_role (h : (view p a).role ≠ .none) {flicker fast slow steady : Prop}
    (hflicker : (AreaSet.has p.atu.overflow a || (orphaned p a && decide ((view p a).role ≠ .cover))) = true ↔ flicker)
    (hfast : (emergency p a || areaHas p a (fun e => alerting e && !e.quiet && decide (levelOf e.priority = .urgent))) = true ↔
      fast)
    (hslow : areaHas p a (fun e => (alerting e && !e.quiet && decide (levelOf e.priority = .routine)) ||
      decide (entryState e = some .returned)) = true ↔ slow)
    (hsteady : areaHas p a (fun e => decide (entryState e = some .standing) || (alerting e && e.quiet)) = true ↔ steady) :
    (flicker → areaLamp p a = .flicker) ∧ (¬flicker → fast → areaLamp p a = .fast) ∧
      (¬flicker → ¬fast → slow → areaLamp p a = .slow) ∧
      (¬flicker → ¬fast → ¬slow → steady → areaLamp p a = .steady) ∧
      (¬flicker → ¬fast → ¬slow → ¬steady → areaLamp p a = .off) := by
  have hlamp : ¬(!lampArea p a) = true := by simp [lampArea, h]
  rw [areaLamp, if_neg hlamp]
  refine ⟨fun f => ?_, fun f g => ?_, fun f g w => ?_, fun f g w y => ?_, fun f g w y => ?_⟩
  · rw [if_pos (hflicker.2 f)]
  · rw [if_neg (mt hflicker.1 f), if_pos (hfast.2 g)]
  · rw [if_neg (mt hflicker.1 f), if_neg (mt hfast.1 g), if_pos (hslow.2 w)]
  · rw [if_neg (mt hflicker.1 f), if_neg (mt hfast.1 g), if_neg (mt hslow.1 w), if_pos (hsteady.2 y)]
  · rw [if_neg (mt hflicker.1 f), if_neg (mt hfast.1 g), if_neg (mt hslow.1 w), if_neg (mt hsteady.1 y)]

theorem areaLamp_of_no_role (h : (view p a).role = .none) : areaLamp p a = .off := if_pos (by simp [lampArea, h])

/-! ## The other lamps (R53) -/

theorem sessionLamp_eq (p : Part) : sessionLamp p = if p.ssu.session = none then .off else .steady := by
  unfold sessionLamp sessionActive
  cases p.ssu.session <;> rfl

theorem inReview_iff : inReview p = true ↔
    ∃ r x, p.hou.receptions.get r = some x ∧ x.kind = .handover ∧ x.state = .review := by
  simp only [inReview, List.any_eq_true, List.mem_finRange, true_and]
  refine exists_congr fun r => ?_
  cases p.hou.receptions.get r with
  | none => simp
  | some x => simp

/-- The HANDOVER lamp shows the first condition of R53 that holds. -/
theorem handoverLamp_cases (p : Part) :
    let review : Prop := ∃ r x, p.hou.receptions.get r = some x ∧ x.kind = .handover ∧ x.state = .review
    let busy : Prop := (∃ r, p.hou.offers.get r ≠ none ∨ p.hou.receptions.get r ≠ none) ∨ p.ssu.armed = true
    (review → handoverLamp p = .fast) ∧ (¬review → busy → handoverLamp p = .slow) ∧
      (¬review → ¬busy → handoverLamp p = .off) := by
  have hbusy : (anyRecord p || p.ssu.armed) = true ↔
      (∃ r, p.hou.offers.get r ≠ none ∨ p.hou.receptions.get r ≠ none) ∨ p.ssu.armed = true := by
    rw [Bool.or_eq_true, anyRecord_iff]
  refine ⟨fun h => if_pos (inReview_iff.2 h), fun h hb => ?_, fun h hb => ?_⟩
  · rw [handoverLamp, if_neg (mt inReview_iff.1 h), if_pos (hbusy.2 hb)]
  · rw [handoverLamp, if_neg (mt inReview_iff.1 h), if_neg (mt hbusy.1 hb)]

end Sys2Proof.Machine

open Sys2Proof.Machine in
/-- Settles O16: SILENCE by `silenceHorn_eq`, the lamps by `areaLamp_of_role` and its like, their light by `lampLevel_iff`. -/
theorem silenceClearsDemands : Obligations.SilenceClearsDemands := by
  refine ⟨fun s hl => ⟨fun ho => ?_, fun hup => ?_, fun a => rfl⟩, fun p => ⟨rfl, fun a => ?_, sessionLamp_eq p, ?_,
    fun x hx => ?_, ?_⟩, fun n _ => ?_⟩
  · exact exec_silence hl ho
  · have hpress : pressKey 0 s.part = silenceHorn (pressedKey 0 s.part) := by
      rw [pressKey_up (listening_station hl) hup, keyAction_listening (show listening (pressedKey 0 s.part) = true from hl)]
    exact congrArg (fun q => Host.Outcome.next (s.withPart q)) hpress
  · exact ⟨areaLamp_of_no_role, fun h => areaLamp_of_role h flickering_iff flashingFast_iff flashingSlow_iff shiningSteady_iff⟩
  · exact handoverLamp_cases p
  · cases x <;> rw [stationLamp, hx]
  · exact ⟨fun a => lampLevel_iff .., lampLevel_iff .., lampLevel_iff .., lampLevel_iff ..⟩
  · exact ⟨decide_eq_true_iff, decide_eq_true_iff, decide_eq_true_iff, rfl, rfl⟩
end


section
/-! PROOFS. The ACCEPT and DECLINE keys: the oldest record in REVIEW, the checks in order, the REPLY queued or owed (R55, R125,
R126). -/

namespace Sys2Proof.Machine

variable {p : Part} {s : State} {a : Area} {r : Fin 4} {x : Reception}

/-! ## The oldest record in REVIEW (R55) -/

theorem olderReview_of_not (h : ∀ y, p.hou.receptions.get r = some y → ¬(y.kind = .handover ∧ y.state = .review))
    (best : Option (Fin 4 × Nat)) : olderReview p best r = best := by
  unfold olderReview
  cases hr : p.hou.receptions.get r with
  | none => rfl
  | some y => exact if_neg (h y hr)

theorem oldestReview_eq_none (h : ∀ r y, p.hou.receptions.get r = some y → ¬(y.kind = .handover ∧ y.state = .review)) :
    oldestReview p = none := by
  have hfold : (List.finRange 4).foldl (olderReview p) none = none := by
    refine List.foldlRecOn (motive := fun b => b = none) _ _ rfl fun b hb r _ => ?_
    rw [olderReview_of_not (h r), hb]
  rw [oldestReview, hfold]
  rfl

/-- What the search has found so far is younger than the record of serial number `n`. -/
def Younger (n : Nat) (best : Option (Fin 4 × Nat)) : Prop := ∀ b m, best = some (b, m) → n < m

/-- The record is found as the search passes it, and stands against every later one. -/
theorem foldl_olderReview (hx : p.hou.receptions.get r = some x) (hk : x.kind = .handover) (hs : x.state = .review)
    (hmin : ∀ q y, q ≠ r → p.hou.receptions.get q = some y → y.kind = .handover → y.state = .review → x.serial < y.serial)
    (l : List (Fin 4)) (best : Option (Fin 4 × Nat)) (h : best = some (r, x.serial) ∨ (r ∈ l ∧ Younger x.serial best)) :
    l.foldl (olderReview p) best = some (r, x.serial) := by
  induction l generalizing best with
  | nil => exact h.resolve_right fun c => absurd c.1 List.not_mem_nil
  | cons q l ih =>
    refine ih (olderReview p best q) ?_
    by_cases hq : q = r
    · left
      subst hq
      rw [olderReview, hx]
      simp only [hk, hs, and_self, if_true]
      rcases h with rfl | ⟨-, hyoung⟩
      · simp
      · cases best with
        | none => rfl
        | some bm => exact if_pos (hyoung bm.1 bm.2 rfl)
    · unfold olderReview
      cases hy : p.hou.receptions.get q with
      | none => exact h.imp_right fun c => ⟨(List.mem_cons.1 c.1).resolve_left (Ne.symm hq), c.2⟩
      | some y =>
        by_cases hrev : y.kind = .handover ∧ y.state = .review
        · have hlt := hmin q y hq hy hrev.1 hrev.2
          simp only [hrev, and_self, if_true]
          rcases h with rfl | ⟨hmem, hyoung⟩
          · exact .inl (if_neg (Nat.lt_asymm hlt))
          · refine .inr ⟨(List.mem_cons.1 hmem).resolve_left (Ne.symm hq), fun b m hb => ?_⟩
            cases best with
            | none => cases hb; exact hlt
            | some bm =>
              simp only at hb
              split at hb
              · cases hb; exact hlt
              · exact hyoung b m hb
        · simp only [hrev, if_false]
          exact h.imp_right fun c => ⟨(List.mem_cons.1 c.1).resolve_left (Ne.symm hq), c.2⟩

theorem oldestReview_eq_some (hx : p.hou.receptions.get r = some x) (hk : x.kind = .handover) (hs : x.state = .review)
    (hmin : ∀ q y, q ≠ r → p.hou.receptions.get q = some y → y.kind = .handover → y.state = .review →
      x.serial < y.serial) : oldestReview p = some r := by
  have hfold := foldl_olderReview hx hk hs hmin (List.finRange 4) none (.inr ⟨List.mem_finRange r, nofun⟩)
  rw [oldestReview, hfold]
  rfl

/-! ## The checks (R125) -/

/-- The result of an ACCEPT of record `x` by R125's checks in order. -/
def acceptCode (p : Part) (x : Reception) : ResultCode :=
  if x.mark ≠ .none then .busy
  else if sessionActive p = false then .noSession
  else if mayHold p x.area = false then .noRight
  else if emergency p x.area = true then .emergency
  else if urgentAlerting p x.area = true then .unackedUrgent
  else if stationCeilingPasses p x.load = false then .load
  else .queued

theorem acceptRefusal_getD (p : Part) (x : Reception) : (acceptRefusal p x).getD .queued = acceptCode p x := by
  unfold acceptRefusal acceptCode
  rw [firstFailing_cons decide_eq_false_iff_not, firstFailing_cons Iff.rfl, firstFailing_cons Iff.rfl,
    firstFailing_cons (Bool.not_eq_false' _).to_iff, firstFailing_cons (Bool.not_eq_false' _).to_iff,
    firstFailing_cons Iff.rfl]
  rfl

theorem acceptRefusal_ne_queued (p : Part) (x : Reception) : acceptRefusal p x ≠ some .queued := by
  unfold acceptRefusal
  simp only [firstFailing]
  (repeat' split) <;> simp

theorem tryAccept_refused (hx : p.hou.receptions.get r = some x) (h : acceptCode p x ≠ .queued) :
    tryAccept (some r) p = (acceptCode p x, p) := by
  rw [← acceptRefusal_getD] at h ⊢
  simp only [tryAccept, hx]
  cases hr : acceptRefusal p x with
  | none => rw [hr] at h; exact absurd rfl h
  | some c => rfl

theorem tryAccept_queued (hx : p.hou.receptions.get r = some x) (h : acceptCode p x = .queued) :
    tryAccept (some r) p = (.queued, queueReply r .none p) := by
  rw [← acceptRefusal_getD] at h
  simp only [tryAccept, hx]
  cases hr : acceptRefusal p x with
  | none => rfl
  | some c => rw [hr] at h; exact absurd (hr.trans (congrArg some h)) (acceptRefusal_ne_queued p x)

theorem tryDecline_eq (hx : p.hou.receptions.get r = some x) :
    tryDecline (some r) p = if x.mark = .none then (.queued, queueReply r .operator p) else (.busy, p) := by
  simp only [tryDecline, hx]

/-! ## The REPLY queued or owed (R125, R126, R154) -/

/-- HOU with the record's answer and mark as a press leaves them. -/
def answeredHou (p : Part) (r : Fin 4) (x : Reception) (why : ReplyReason) (m : TxMark) : Hou :=
  { p.hou with receptions := setAt p.hou.receptions r (some { x with answer := why, mark := m }) }

/-- The REPLY of record `x` for a reason (R125, R126). -/
def reasonedReply (p : Part) (x : Reception) (why : ReplyReason) : Telegram :=
  { source := p.stc.number, destination := x.releaser, payload := .reply x.area x.number (decide (why ≠ .none)) why }

theorem queueReply_eq (hx : p.hou.receptions.get r = some x) (why : ReplyReason) :
    queueReply r why p = pushTelegram (.reply r x.serial) (setReception r (some { x with answer := why }) p) := by
  rw [queueReply, hx]

theorem ownerTelegram_reply (p : Part) (r : Fin 4) (x : Reception) (why : ReplyReason) :
    ownerTelegram (setReception r (some { x with answer := why }) p) (.reply r x.serial) = some (reasonedReply p x why) := by
  have hget : (setReception r (some { x with answer := why }) p).hou.receptions.get r = some { x with answer := why } :=
    setAt_get_self ..
  rw [ownerTelegram, hget]
  exact if_pos rfl

theorem modReception_set {q : Part} {y : Reception} {f : Reception → Reception} {n : Nat}
    (hget : q.hou.receptions.get r = some y) (hn : y.serial = n) : modReception r n f q = setReception r (some (f y)) q := by
  rw [modReception, hget]
  exact if_pos hn

theorem queueReply_entered (hx : p.hou.receptions.get r = some x) (hrun : running p = true) (ho : occupied p < 12)
    (why : ReplyReason) : ∃ k, p.lif.slots.get k = none ∧ queueReply r why p = { p with
      lif := placedIn k (.reply r x.serial) (reasonedReply p x why) (leaveWaiting (.reply r x.serial) p).lif,
      hou := answeredHou p r x why .queued } := by
  obtain ⟨k, hk, hpush⟩ := pushTelegram_entered (ownerTelegram_reply p r x why) hrun ho
  refine ⟨k, hk, ?_⟩
  rw [queueReply_eq hx, hpush, markEntered, modReception_set (y := { x with answer := why }) (setAt_get_self ..) rfl]
  exact congrArg (fun v => { p with
    lif := placedIn k (.reply r x.serial) (reasonedReply p x why) (leaveWaiting (.reply r x.serial) p).lif,
    hou := { p.hou with receptions := v } }) (setAt_setAt ..)

theorem queueReply_owed (hx : p.hou.receptions.get r = some x) (hrun : running p = true) (ho : occupied p = 12)
    (why : ReplyReason) : queueReply r why p = { p with
      lif := (joinWaiting (.reply r x.serial) p).lif, hou := answeredHou p r x why .owed } := by
  have hfull : ¬occupied (setReception r (some { x with answer := why }) p) < Config.slotCount := fun h =>
    absurd (show occupied p < 12 from h) (by omega)
  have hmay : ownerMayQueue (setReception r (some { x with answer := why }) p) (.reply r x.serial) = true := hrun
  rw [queueReply_eq hx, pushTelegram, ownerTelegram_reply]
  simp only [hmay, if_true, if_neg hfull]
  rw [markOwed, modReception_set (y := { x with answer := why }) (setAt_get_self ..) rfl]
  exact congrArg (fun v => { p with
    lif := (joinWaiting (.reply r x.serial) p).lif, hou := { p.hou with receptions := v } }) (setAt_setAt ..)

/-- The part of a state once key `k` has been pressed and the REPLY of record `x` is queued, or owed with no slot free. -/
theorem replied_of_press {k : Fin 4} (hx : s.part.hou.receptions.get r = some x) (hrun : running s.part = true)
    (why : ReplyReason) {u : State} (hu : u = s.withPart (queueReply r why (pressedKey k s.part))) :
    (occupied s.part < 12 →
      u = s.withPart { s.part with
        lif := u.part.lif, hou := answeredHou s.part r x why .queued, anu := (pressedKey k s.part).anu } ∧
      s.part.lif.enqueued u.part.lif (.reply r x.serial) (reasonedReply s.part x why)) ∧
    (occupied s.part = 12 →
      u = s.withPart { s.part with
        lif := { s.part.lif with waiting := u.part.lif.waiting }, hou := answeredHou s.part r x why .owed,
        anu := (pressedKey k s.part).anu } ∧
      Owner.reply r x.serial ∈ u.part.lif.waiting) := by
  refine ⟨fun ho => ?_, fun ho => ?_⟩
  · obtain ⟨j, hj, heq⟩ := queueReply_entered (p := pressedKey k s.part) hx hrun ho why
    rw [heq] at hu
    exact hu ▸ ⟨rfl, j, s.part.lif.nextOrder, hj, rfl⟩
  · rw [queueReply_owed (p := pressedKey k s.part) hx hrun ho why] at hu
    exact hu ▸ ⟨rfl, mem_joinWaiting ..⟩

/-! ## The presses (R55) -/

theorem pressKey_accept (hl : listening p = true) (hup : (key p 1).state = .up) :
    pressKey 1 p = acceptKey (pressedKey 1 p) := by
  rw [pressKey_up (listening_station hl) hup, keyAction_listening (show listening (pressedKey 1 p) = true from hl)]

theorem pressKey_decline (hl : listening p = true) (hup : (key p 2).state = .up) :
    pressKey 2 p = declineKey (pressedKey 2 p) := by
  rw [pressKey_up (listening_station hl) hup, keyAction_listening (show listening (pressedKey 2 p) = true from hl)]

theorem refusedStarting_running (h : running p = true) (x : ResultCode × Part) : refusedStarting p x = x := by
  have hnot : ¬starting p = true := by
    have hstation : p.stc.station = some .running := of_decide_eq_true h
    simp [starting, hstation]
  exact if_neg hnot

/-- What a transfer key makes of a part in RUNNING by what its rule answers (R55). -/
theorem acceptKey_found (h : oldestReview p = some r) (hrun : running p = true) :
    acceptKey p = if (tryAccept (some r) p).1 = .queued then (tryAccept (some r) p).2
      else keyRefused .acceptRefused (recordArea p (some r)) (tryAccept (some r) p).1 (tryAccept (some r) p).2 := by
  unfold acceptKey
  simp only [h, Option.isSome_some, if_true, refusedStarting_running hrun]

theorem declineKey_found (h : oldestReview p = some r) (hrun : running p = true) :
    declineKey p = if (tryDecline (some r) p).1 = .queued then (tryDecline (some r) p).2
      else keyRefused .declineRefused (recordArea p (some r)) (tryDecline (some r) p).1 (tryDecline (some r) p).2 := by
  unfold declineKey
  simp only [h, Option.isSome_some, if_true, refusedStarting_running hrun]

theorem acceptKey_none (h : oldestReview p = none) : acceptKey p = keyRefused .acceptRefused none .noRecord p := by
  unfold acceptKey
  simp only [h]
  rfl

theorem declineKey_none (h : oldestReview p = none) : declineKey p = keyRefused .declineRefused none .noRecord p := by
  unfold declineKey
  simp only [h]
  rfl

theorem recordArea_some (hx : p.hou.receptions.get r = some x) : recordArea p (some r) = some x.area := by
  rw [recordArea, hx]
  rfl

end Sys2Proof.Machine

open Sys2Proof.Machine in
/-- Settles O19: the record by `oldestReview_eq_some`, the checks by `acceptRefusal_getD`, the REPLY by `replied_of_press`. -/
theorem handoverKeysActOnOldestReview : Obligations.HandoverKeysActOnOldestReview := by
  intro s hl
  refine ⟨fun hnone => ?_, fun r x hrun hx hk hs hmin => ?_⟩
  · have hfound : ∀ k, oldestReview (pressedKey k s.part) = none := fun k => oldestReview_eq_none hnone
    refine ⟨fun hup => ?_, fun hup => ?_⟩
    · exact congrArg (fun q => Host.Outcome.next (s.withPart q)) ((pressKey_accept hl hup).trans (acceptKey_none (hfound 1)))
    · exact congrArg (fun q => Host.Outcome.next (s.withPart q)) ((pressKey_decline hl hup).trans (declineKey_none (hfound 2)))
  · have hfound : ∀ k, oldestReview (pressedKey k s.part) = some r := fun k => oldestReview_eq_some hx hk hs hmin
    have hget : ∀ k, (pressedKey k s.part).hou.receptions.get r = some x := fun _ => hx
    refine ⟨fun code hup hcode => ?_, fun hup => ?_⟩
    · have hcode : code = acceptCode (pressedKey 1 s.part) x := hcode
      subst hcode
      have hpress := (pressKey_accept hl hup).trans (acceptKey_found (hfound 1) hrun)
      refine ⟨fun hne => ?_, fun heq => ?_⟩
      · rw [tryAccept_refused (hget 1) hne, if_neg hne, recordArea_some (hget 1)] at hpress
        exact congrArg (fun q => Host.Outcome.next (s.withPart q)) hpress
      · rw [tryAccept_queued (hget 1) heq, if_pos rfl] at hpress
        exact ⟨_, congrArg (fun q => Host.Outcome.next (s.withPart q)) hpress, replied_of_press hx hrun .none rfl⟩
    · have hpress := (pressKey_decline hl hup).trans (declineKey_found (hfound 2) hrun)
      rw [tryDecline_eq (hget 2)] at hpress
      refine ⟨fun hne => ?_, fun heq => ?_⟩
      · rw [if_neg hne, if_neg (show ResultCode.busy ≠ .queued by decide), recordArea_some (hget 2)] at hpress
        exact congrArg (fun q => Host.Outcome.next (s.withPart q)) hpress
      · rw [if_pos heq, if_pos rfl] at hpress
        exact ⟨_, congrArg (fun q => Host.Outcome.next (s.withPart q)) hpress, replied_of_press hx hrun .operator rfl⟩
end


section
/-! PROOFS. Contact inputs: a change of an ALARM input, the edges of a TRIP input, a first settling (R57 to R60). -/

namespace Sys2Proof.Machine

variable {p : Part} {s : State} {i : Fin 8} {x y : InputRecord}

/-! ## One input's record -/

/-- The part with another record for input `i`. -/
def putInput (i : Fin 8) (y : InputRecord) (p : Part) : Part := { p with anu := { p.anu with inputs := setAt p.anu.inputs i y } }

theorem modInput_eq (i : Fin 8) (f : InputRecord → InputRecord) (p : Part) : modInput i f p = putInput i (f (input p i)) p := rfl

@[simp] theorem input_putInput (i : Fin 8) (y : InputRecord) (p : Part) : input (putInput i y p) i = y := setAt_get_self ..

theorem putInput_putInput (i : Fin 8) (x y : InputRecord) (p : Part) : putInput i y (putInput i x p) = putInput i y p := by
  simp only [putInput, setAt_setAt]

theorem modInput_putInput (i : Fin 8) (f : InputRecord → InputRecord) (y : InputRecord) (p : Part) :
    modInput i f (putInput i y p) = putInput i (f y) p := by
  rw [modInput_eq, input_putInput, putInput_putInput]

/-! ## Its telegram (R58, R60) -/

/-- An input whose telegram may not queue yet waits for RUNNING (R153). -/
theorem pushTelegram_input_barred (h : running p = false) (i : Fin 8) : pushTelegram (.input i) p = p := by
  have hbarred : ownerMayQueue p (.input i) = false := h
  rw [pushTelegram]
  cases ownerTelegram p (.input i) with
  | none => rfl
  | some t => simp only [hbarred, Bool.false_eq_true, if_false]; rfl

theorem ownerTelegram_trip (hu : (inputConfig p i).use = .trip) (ht : y.trip = .pending) :
    ownerTelegram (putInput i y p) (.input i) =
      some (ownTelegram p 0 (.trip false (areaOfNibble ((inputConfig p i).tripArea.extractLsb' 0 4)) 0)) := by
  have hu' : (inputConfig (putInput i y p) i).use = .trip := hu
  simp only [ownerTelegram, inputPayload, hu', input_putInput, ht, if_true]
  rfl

/-- The CONDITION telegram that record `y` has to publish: the published occurrence for CLEAR, the next one for ACTIVE. -/
def publishedNext (c : InputConfig) (y : InputRecord) : Payload :=
  .condition c.tag c.priority (!y.published) (if y.published then y.publishedOccurrence else y.publishedOccurrence + 1)

theorem ownerTelegram_alarm (hu : (inputConfig p i).use = .alarm) (hp : y.publication = .waiting) (hm : inputMatches y = false) :
    ownerTelegram (putInput i y p) (.input i) =
      some (ownTelegram p 0 (publishedNext (inputConfig p i) y)) := by
  have hu' : (inputConfig (putInput i y p) i).use = .alarm := hu
  have hpayload : inputPayload (putInput i y p) i = some (publishedNext (inputConfig p i) y) := by
    unfold inputPayload publishedNext
    simp only [hu', input_putInput, hp, hm, and_self, if_true]
    cases y.published <;> rfl
  rw [ownerTelegram, hpayload]
  rfl

theorem markEntered_trip (hu : (inputConfig p i).use = .trip) (y : InputRecord) :
    markEntered (.input i) (putInput i y p) = putInput i { y with trip := .inFlight } p := by
  have hu' : (inputConfig (putInput i y p) i).use = .trip := hu
  simp only [markEntered, hu', modInput_putInput]

theorem markEntered_alarm (hu : (inputConfig p i).use = .alarm) (y : InputRecord) :
    markEntered (.input i) (putInput i y p) =
      countMerged (y.unpublished.toNat - 1) (putInput i { y with publication := .inFlight, unpublished := 0 } p) := by
  have hu' : (inputConfig (putInput i y p) i).use = .alarm := hu
  simp only [markEntered, hu', modInput_putInput, input_putInput]

/-- A pending input whose telegram finds a slot free in RUNNING (R153). -/
theorem pushTelegram_input {t : Telegram} (ht : ownerTelegram (putInput i y p) (.input i) = some t) (hrun : running p = true)
    (ho : occupied p < 12) : ∃ k, p.lif.slots.get k = none ∧ pushTelegram (.input i) (putInput i y p) =
      markEntered (.input i) (putInput i y { p with lif := placedIn k (.input i) t (leaveWaiting (.input i) p).lif }) :=
  pushTelegram_entered ht hrun ho

/-! ## A change of an ALARM input (R58, R59) -/

theorem otherContact_eq (h : x.condition ≠ .unknown) :
    otherContact x.condition = if x.condition = .active then .clear else .active := by
  cases hc : x.condition with
  | unknown => exact absurd hc h
  | active => rfl
  | clear => rfl

/-- A settled record agrees with its published condition when that says whether it is ACTIVE (R58). -/
theorem inputMatches_eq (h : x.condition ≠ .unknown) : inputMatches x = (x.published == decide (x.condition = .active)) := by
  unfold inputMatches
  cases hc : x.condition with
  | unknown => exact absurd hc h
  | active => cases x.published <;> rfl
  | clear => cases x.published <;> rfl

/-- Record `x` once its condition has changed and the change is counted (R59). -/
def flippedInput (x : InputRecord) : InputRecord :=
  { x with condition := if x.condition = .active then .clear else .active, run := 0, unpublished := x.unpublished + 1 }

section
variable (hc : (input p i).condition ≠ .unknown) (hn : (input p i).unpublished ≠ 65535)
include hc hn

theorem bumpUnpublished_flipped :
    bumpUnpublished i (modInput i (fun x => { x with condition := otherContact x.condition, run := 0 }) p) =
      putInput i (flippedInput (input p i)) p := by
  rw [modInput_eq, bumpUnpublished, input_putInput, if_neg hn, modInput_putInput, otherContact_eq hc]
  rfl

theorem inputChanged_counted (h : (input p i).publication = .unseeded ∨ (input p i).publication = .inFlight) :
    inputChanged i p = putInput i (flippedInput (input p i)) p := by
  have hpub : (flippedInput (input p i)).publication = (input p i).publication := rfl
  simp only [inputChanged, bumpUnpublished_flipped hc hn, input_putInput, hpub]
  rcases h with h | h <;> rw [h]

theorem inputChanged_waiting (h : (input p i).publication = .waiting) (hm : inputMatches (flippedInput (input p i)) = true) :
    inputChanged i p = settleInput i (putInput i (flippedInput (input p i)) p) := by
  have hpub : (flippedInput (input p i)).publication = .waiting := h
  simp only [inputChanged, bumpUnpublished_flipped hc hn, input_putInput, hpub, hm, if_true]

theorem inputChanged_settled (h : (input p i).publication = .settled) :
    inputChanged i p = awaitInput i (putInput i (flippedInput (input p i)) p) := by
  have hpub : (flippedInput (input p i)).publication = .settled := h
  simp only [inputChanged, bumpUnpublished_flipped hc hn, input_putInput, hpub]

end

theorem changeInput_listening (hl : listening p = true) (hu : (inputConfig p i).use = .alarm)
    (hc : (input p i).condition ≠ .unknown) : changeInput i p = inputChanged i p := if_pos ⟨hl, hu, hc⟩

theorem flippedInput_condition (x : InputRecord) : (flippedInput x).condition ≠ .unknown := by
  unfold flippedInput
  split <;> simp

/-- A change away from the published condition. -/
theorem flippedInput_differs (hc : x.condition ≠ .unknown) (h : x.published = decide (x.condition = .active)) :
    inputMatches (flippedInput x) = false := by
  have hpub : (flippedInput x).published = x.published := rfl
  rw [inputMatches_eq (flippedInput_condition x), hpub, h]
  cases hx : x.condition with
  | unknown => exact absurd hx hc
  | active => simp [flippedInput, hx]
  | clear => simp [flippedInput, hx]

/-- What it publishes: the next occurrence for ACTIVE, the published one for CLEAR (R58). -/
theorem publishedNext_flipped (hc : x.condition ≠ .unknown) (h : x.published = decide (x.condition = .active))
    (c : InputConfig) : publishedNext c (flippedInput x) =
      .condition c.tag c.priority (decide ((flippedInput x).condition = .active))
        (if (flippedInput x).condition = .active then x.publishedOccurrence + 1 else x.publishedOccurrence) := by
  have hpub : (flippedInput x).published = x.published := rfl
  rw [publishedNext, hpub, h]
  cases hx : x.condition with
  | unknown => exact absurd hx hc
  | active => simp [flippedInput, hx]
  | clear => simp [flippedInput, hx]

/-- Of the changes counted the one published now is left out (R59). -/
theorem ofNat_succ_pred {n : Word16} (h : n ≠ 65535) : BitVec.ofNat 16 ((n + 1).toNat - 1) = n := by
  have hlt : n.toNat + 1 < 65536 := by
    have hne : n.toNat ≠ 65535 := fun c => h (BitVec.eq_of_toNat_eq c)
    have := n.isLt
    omega
  have hsucc : (n + 1).toNat = n.toNat + 1 := by
    rw [BitVec.toNat_add]
    exact Nat.mod_eq_of_lt hlt
  rw [hsucc, Nat.add_sub_cancel, BitVec.ofNat_toNat, BitVec.setWidth_eq]

theorem settleInput_put (y : InputRecord) (p : Part) : settleInput i (putInput i y p) =
    countMerged y.unpublished.toNat (leaveWaiting (.input i) (putInput i { y with publication := .settled, unpublished := 0 } p)) := by
  have hinput : input (putInput i y p) i = y := input_putInput ..
  have hmod := modInput_putInput i (fun x => { x with publication := .settled, unpublished := 0 }) y (leaveWaiting (.input i) p)
  rw [settleInput, hinput]
  exact congrArg (countMerged y.unpublished.toNat) hmod

/-- The change of a SETTLED record is put in the queue (R58, R59). -/
theorem awaitInput_queued (hu : (inputConfig p i).use = .alarm) (hm : inputMatches y = false) (hrun : running p = true)
    (ho : occupied p < 12) : ∃ k, p.lif.slots.get k = none ∧ awaitInput i (putInput i y p) =
      countMerged (y.unpublished.toNat - 1) (putInput i { y with publication := .inFlight, unpublished := 0 } { p with
        lif := placedIn k (.input i) (ownTelegram p 0 (publishedNext (inputConfig p i) y)) (leaveWaiting (.input i) p).lif }) := by
  obtain ⟨k, hk, hpush⟩ := pushTelegram_input (y := { y with publication := .waiting })
    (ownerTelegram_alarm hu rfl (show inputMatches { y with publication := .waiting } = false from hm)) hrun ho
  exact ⟨k, hk, by rw [awaitInput, modInput_putInput, hpush, markEntered_alarm (by exact hu)]; rfl⟩

/-! ## TRIP inputs and first settlings (R57, R58, R60) -/

theorem activateTrip_eq (hl : listening p = true) (hu : (inputConfig p i).use = .trip) (hc : (input p i).condition = .clear) :
    activateTrip i p = if (input p i).trip = .idle then
        pushTelegram (.input i) (putInput i { input p i with condition := .active, run := 0, trip := .pending } p)
      else putInput i { input p i with condition := .active, run := 0 } p := by
  rw [activateTrip, if_pos ⟨hl, hu, hc⟩, tripActivated]
  simp only [modInput_eq, input_putInput, putInput_putInput]

theorem clearTrip_eq (hl : listening p = true) (hu : (inputConfig p i).use = .trip) (hc : (input p i).condition = .active) :
    clearTrip i p = putInput i { input p i with condition := .clear, run := 0 } p := if_pos ⟨hl, hu, hc⟩

/-- Record `x` once its condition has settled (R57). -/
def settledInput (x : InputRecord) (active : Bool) : InputRecord :=
  { x with condition := if active then .active else .clear, run := 0 }

theorem settledInput_condition (x : InputRecord) (active : Bool) : (settledInput x active).condition ≠ .unknown := by
  cases active
  · exact nofun
  · exact nofun

theorem settledInput_active (x : InputRecord) (active : Bool) : decide ((settledInput x active).condition = .active) = active := by
  cases active <;> rfl

theorem settleContact_eq (hl : listening p = true) (hu : (inputConfig p i).use ≠ .unused)
    (hc : (input p i).condition = .unknown) (active : Bool) :
    settleContact i active p = seedInput (putInput i (settledInput (input p i) active) p) i := if_pos ⟨hl, hu, hc⟩

theorem seedInput_barred (h : running p = false ∨ (inputConfig p i).use ≠ .alarm ∨ (input p i).publication ≠ .unseeded) :
    seedInput p i = p := by
  refine if_neg fun ⟨hrun, hu, hp, _⟩ => ?_
  rcases h with h | h | h
  · rw [hrun] at h; cases h
  · exact h hu
  · exact h hp

/-- The published pair as the table has it, else as it stood (R58). -/
def seededInput (p : Part) (i : Fin 8) (y : InputRecord) : InputRecord :=
  match findEntry p (inputConfig p i).tag with
  | some e => { y with published := e.active, publishedOccurrence := e.occurrence }
  | none => y

theorem seedPair_put (y : InputRecord) (p : Part) : seedPair i (putInput i y p) = putInput i (seededInput p i y) p := by
  have hfind : findEntry (putInput i y p) (inputConfig (putInput i y p) i).tag = findEntry p (inputConfig p i).tag := rfl
  rw [seedPair, hfind, seededInput]
  cases findEntry p (inputConfig p i).tag with
  | none => rfl
  | some e => exact modInput_putInput ..

/-- A record seeded with a pair that agrees is SETTLED (R58). -/
theorem seedInput_settled (hrun : running p = true) (hu : (inputConfig p i).use = .alarm) (hp : y.publication = .unseeded)
    (hc : y.condition ≠ .unknown) (hm : inputMatches (seededInput p i y) = true) :
    seedInput (putInput i y p) i = putInput i { seededInput p i y with publication := .settled } p := by
  have hcond : running (putInput i y p) = true ∧ (inputConfig (putInput i y p) i).use = .alarm ∧
      (input (putInput i y p) i).publication = .unseeded ∧ (input (putInput i y p) i).condition ≠ .unknown := by
    rw [input_putInput]
    exact ⟨hrun, hu, hp, hc⟩
  rw [seedInput, if_pos hcond]
  simp only [seedPair_put, input_putInput, hm, if_true, modInput_putInput]

end Sys2Proof.Machine

open Sys2Proof.Machine in
/-- Settles O23: a change that is only counted by `inputChanged_counted`, a record settled by `settleInput_put`, one published
by `awaitInput_queued`. -/
theorem alarmInputChangePublishes : Obligations.AlarmInputChangePublishes := by
  intro s i hl hu hc hn
  have hexec : ∀ {q}, inputChanged i s.part = q → exec (.alarmInputChange i) s = .next (s.withPart q) := fun {q} h =>
    congrArg (fun q => Host.Outcome.next (s.withPart q)) ((changeInput_listening hl hu hc).trans h)
  have hagrees := inputMatches_eq (flippedInput_condition (input s.part i))
  refine ⟨fun hp => hexec (inputChanged_counted hc hn hp), fun hp hm => ?_, fun hp hpub hrun ho => ?_⟩
  · rw [hexec ((inputChanged_waiting hc hn hp (hagrees.trans (beq_iff_eq.2 hm))).trans (settleInput_put ..)), countMerged,
      BitVec.ofNat_toNat, BitVec.setWidth_eq]
    rfl
  · have hdiffer := flippedInput_differs hc hpub
    obtain ⟨k, hk, hawait⟩ := awaitInput_queued hu hdiffer hrun ho
    have hcount : BitVec.ofNat 16 ((flippedInput (input s.part i)).unpublished.toNat - 1) = (input s.part i).unpublished :=
      ofNat_succ_pred hn
    rw [countMerged, hcount, publishedNext_flipped hc hpub] at hawait
    exact ⟨_, hexec ((inputChanged_settled hc hn hp).trans hawait), rfl, k, s.part.lif.nextOrder, hk, rfl⟩

open Sys2Proof.Machine in
/-- Settles O24: the edges by `activateTrip_eq` and `clearTrip_eq`, a first settling by `seedInput_settled`. -/
theorem inputsTripAndSeed : Obligations.InputsTripAndSeed := by
  refine ⟨fun s i hl hu => ⟨fun hc => ?_, fun hc => ?_⟩, fun s i active hl hu hc => ⟨fun h => ?_, fun hrun ha hp => ?_⟩⟩
  · have hexec : exec (.tripInputActivation i) s = .next (s.withPart (activateTrip i s.part)) := rfl
    rw [hexec, activateTrip_eq hl hu hc]
    refine ⟨fun ht => ?_, fun ht hrun => ?_, fun ht hrun ho => ?_⟩
    · rw [if_neg ht]; rfl
    · rw [if_pos ht, pushTelegram_input_barred (by exact hrun)]; rfl
    · obtain ⟨k, hk, hpush⟩ := pushTelegram_input
        (y := { input s.part i with condition := .active, run := 0, trip := .pending }) (ownerTelegram_trip hu rfl) hrun ho
      rw [if_pos ht, hpush, markEntered_trip (by exact hu)]
      exact ⟨_, rfl, rfl, k, s.part.lif.nextOrder, hk, rfl⟩
  · exact congrArg (fun q => Host.Outcome.next (s.withPart q)) (clearTrip_eq hl hu hc)
  · have hbarred : seedInput (putInput i (settledInput (input s.part i) active) s.part) i =
        putInput i (settledInput (input s.part i) active) s.part := by
      refine seedInput_barred ?_
      rw [input_putInput]
      refine h.imp_right fun h => h.imp_left fun ht => ?_
      rw [show (inputConfig (putInput i (settledInput (input s.part i) active) s.part) i).use = .trip from ht]
      decide
    exact congrArg (fun q => Host.Outcome.next (s.withPart q)) ((settleContact_eq hl hu hc active).trans hbarred)
  · have hseeded : inputMatches (seededInput s.part i (settledInput (input s.part i) active)) = true →
        exec (.inputFirstSettling i active) s = .next (s.withPart (putInput i
          { seededInput s.part i (settledInput (input s.part i) active) with publication := .settled } s.part)) := fun hm =>
      congrArg (fun q => Host.Outcome.next (s.withPart q)) ((settleContact_eq hl hu hc active).trans
        (seedInput_settled hrun ha hp (settledInput_condition (input s.part i) active) hm))
    have hagrees := inputMatches_eq (settledInput_condition (input s.part i) active)
    refine ⟨fun e he hactive => ?_, fun hnone hpub => ?_⟩
    · have hseed : seededInput s.part i (settledInput (input s.part i) active) =
          { settledInput (input s.part i) active with published := active, publishedOccurrence := e.occurrence } := by
        rw [seededInput, he, ← hactive]
      rw [hseed] at hseeded
      refine hseeded ?_
      rw [inputMatches_eq (by exact settledInput_condition (input s.part i) active)]
      exact beq_iff_eq.2 (settledInput_active (input s.part i) active).symm
    · have hseed : seededInput s.part i (settledInput (input s.part i) active) = settledInput (input s.part i) active := by
        rw [seededInput, hnone]
      rw [hseed] at hseeded
      refine hseeded (hagrees.trans (beq_iff_eq.2 ?_))
      exact hpub.trans (settledInput_active (input s.part i) active).symm
end


section
/-! PROOFS. The sample tick (R49, R52, R54, R57): counting a sample of one key or input commutes with the edge of another, so that
a tick may count every sample first and then take the edges in turn. -/

namespace Sys2Proof.Machine

variable {p q : Part} {s : State} {i j : Fin 8} {k l : Fin 4}

/-! ## What commutes -/

/-- The two may be done in either order. -/
def Commutes (f g : Part → Part) : Prop := ∀ q, f (g q) = g (f q)

theorem Commutes.comp {f f' g : Part → Part} (hf : Commutes f g) (hf' : Commutes f' g) : Commutes (fun q => f (f' q)) g :=
  fun q => (congrArg f (hf' q)).trans (hf (f' q))

theorem commutes_ite {f f' g : Part → Part} {c : Part → Prop} [DecidablePred c] (hc : ∀ q, c (g q) ↔ c q) (hf : Commutes f g)
    (hf' : Commutes f' g) : Commutes (fun q => if c q then f q else f' q) g := fun q => by
  by_cases h : c q
  · simp only [if_pos h, if_pos ((hc q).2 h)]; exact hf q
  · simp only [if_neg h, if_neg (mt (hc q).1 h)]; exact hf' q

theorem commutes_id (g : Part → Part) : Commutes (fun q => q) g := fun _ => rfl

/-- Keys' and inputs' records changed, and nothing else of the panel. -/
def editRecords (f : Vector KeyRecord 4 → Vector KeyRecord 4) (g : Vector InputRecord 8 → Vector InputRecord 8) : Part → Part :=
  modAnu fun n => { n with keys := f n.keys, inputs := g n.inputs }

theorem modKey_edits (k : Fin 4) (f : KeyRecord → KeyRecord) : modKey k f = editRecords (fun v => setAt v k (f (v.get k))) id := rfl

theorem modInput_edits (i : Fin 8) (f : InputRecord → InputRecord) :
    modInput i f = editRecords id (fun v => setAt v i (f (v.get i))) := rfl

theorem setAt_comm {α : Type} {n : Nat} (v : Vector α n) {i j : Fin n} (h : i ≠ j) (x y : α) :
    setAt (setAt v i x) j y = setAt (setAt v j y) i x := by
  apply Vector.ext
  intro m hm
  have hget : ∀ w : Vector α n, w[m] = w.get ⟨m, hm⟩ := fun _ => rfl
  simp only [hget, setAt_get]
  by_cases hi : (⟨m, hm⟩ : Fin n) = i
  · rw [if_neg (fun c => h (hi.symm.trans c)), if_pos hi, if_pos hi]
  · rw [if_neg hi, if_neg hi]

theorem commutes_modKey (h : l ≠ k) (f g : KeyRecord → KeyRecord) : Commutes (modKey k f) (modKey l g) := fun q => by
  have hk : (setAt q.anu.keys l (g (q.anu.keys.get l))).get k = q.anu.keys.get k := by rw [setAt_get, if_neg h.symm]
  have hl : (setAt q.anu.keys k (f (q.anu.keys.get k))).get l = q.anu.keys.get l := by rw [setAt_get, if_neg h]
  simp only [modKey, modAnu, hk, hl, setAt_comm _ h]

theorem commutes_modInput (h : j ≠ i) (f g : InputRecord → InputRecord) : Commutes (modInput i f) (modInput j g) := fun q => by
  have hi : (setAt q.anu.inputs j (g (q.anu.inputs.get j))).get i = q.anu.inputs.get i := by rw [setAt_get, if_neg h.symm]
  have hj : (setAt q.anu.inputs i (f (q.anu.inputs.get i))).get j = q.anu.inputs.get j := by rw [setAt_get, if_neg h]
  simp only [modInput, modAnu, hi, hj, setAt_comm _ h]

theorem commutes_modKey_modInput (f : KeyRecord → KeyRecord) (g : InputRecord → InputRecord) :
    Commutes (modKey k f) (modInput i g) := fun _ => rfl

/-! ## What a key does leaves the records alone, and does not read them (R55) -/

section
variable {f : Vector KeyRecord 4 → Vector KeyRecord 4} {g : Vector InputRecord 8 → Vector InputRecord 8}

theorem commutes_setReception (i : Fin 4) (x : Option Reception) : Commutes (setReception i x) (editRecords f g) := fun _ => rfl

theorem commutes_modReception (i : Fin 4) (n : Nat) (h : Reception → Reception) :
    Commutes (modReception i n h) (editRecords f g) := fun q => by
  have hget : (editRecords f g q).hou.receptions.get i = q.hou.receptions.get i := rfl
  unfold modReception
  rw [hget]
  cases q.hou.receptions.get i with
  | none => rfl
  | some x => exact commutes_ite (c := fun _ => x.serial = n) (fun _ => Iff.rfl) (commutes_setReception i _) (commutes_id _) q

theorem commutes_placeTelegram (o : Owner) (t : Telegram) : Commutes (placeTelegram o t) (editRecords f g) := fun q => by
  have hfree : freeSlotOf (editRecords f g q) = freeSlotOf q := rfl
  unfold placeTelegram
  rw [hfree]
  cases freeSlotOf q <;> rfl

/-- A telegram is pushed either way alike when its owner's content and marks commute. -/
theorem commutes_pushTelegram {o : Owner} (ht : ∀ q, ownerTelegram (editRecords f g q) o = ownerTelegram q o)
    (hentered : Commutes (markEntered o) (editRecords f g)) (howed : Commutes (markOwed o) (editRecords f g)) :
    Commutes (pushTelegram o) (editRecords f g) := fun q => by
  have hmay : ownerMayQueue (editRecords f g q) o = ownerMayQueue q o := by cases o <;> rfl
  have hoccupied : occupied (editRecords f g q) = occupied q := rfl
  have hleave : leaveWaiting o (editRecords f g q) = editRecords f g (leaveWaiting o q) := rfl
  have hjoin : joinWaiting o (editRecords f g q) = editRecords f g (joinWaiting o q) := rfl
  unfold pushTelegram
  rw [ht]
  cases ownerTelegram q o with
  | none => rfl
  | some t =>
    simp only [hmay, hoccupied, hleave, hjoin, commutes_placeTelegram o t _, hentered _, howed _]
    split
    · split <;> rfl
    · rfl

theorem commutes_pushReply (i : Fin 4) (n : Nat) : Commutes (pushTelegram (.reply i n)) (editRecords f g) :=
  commutes_pushTelegram (fun _ => rfl) (commutes_modReception i n _) (commutes_modReception i n _)

theorem commutes_queueReply (i : Fin 4) (w : ReplyReason) : Commutes (queueReply i w) (editRecords f g) := fun q => by
  have hget : (editRecords f g q).hou.receptions.get i = q.hou.receptions.get i := rfl
  unfold queueReply
  rw [hget]
  cases q.hou.receptions.get i with
  | none => rfl
  | some x => exact commutes_pushReply i x.serial (setReception i (some { x with answer := w }) q)

/-- A transfer key's rule gives the same result either way. -/
def RuleCommutes (t : Part → ResultCode × Part) (g : Part → Part) : Prop := ∀ q, t (g q) = ((t q).1, g (t q).2)

theorem ruleCommutes_tryAccept (o : Option (Fin 4)) : RuleCommutes (tryAccept o) (editRecords f g) := fun q => by
  cases o with
  | none => rfl
  | some i =>
    have hget : (editRecords f g q).hou.receptions.get i = q.hou.receptions.get i := rfl
    simp only [tryAccept, hget]
    cases q.hou.receptions.get i with
    | none => rfl
    | some x =>
      have hrefusal : acceptRefusal (editRecords f g q) x = acceptRefusal q x := rfl
      simp only [hrefusal]
      cases acceptRefusal q x with
      | none => simp only [commutes_queueReply i .none q]
      | some c => rfl

theorem ruleCommutes_tryDecline (o : Option (Fin 4)) : RuleCommutes (tryDecline o) (editRecords f g) := fun q => by
  cases o with
  | none => rfl
  | some i =>
    have hget : (editRecords f g q).hou.receptions.get i = q.hou.receptions.get i := rfl
    simp only [tryDecline, hget]
    cases q.hou.receptions.get i with
    | none => rfl
    | some x =>
      simp only
      split
      · simp only [commutes_queueReply i .operator q]
      · rfl

/-- A press judged by a transfer rule commutes when the rule does (R55). -/
theorem commutes_judgedKey {t : Part → ResultCode × Part} (h : RuleCommutes t (editRecords f g)) (c : Bool) (e : EventKind)
    (a : Option Area) (q : Part) :
    let r := fun q => if c then refusedStarting q (t q) else t q
    (if (r (editRecords f g q)).1 = .queued then (r (editRecords f g q)).2
      else keyRefused e a (r (editRecords f g q)).1 (r (editRecords f g q)).2) =
    editRecords f g (if (r q).1 = .queued then (r q).2 else keyRefused e a (r q).1 (r q).2) := by
  intro r
  have hr : r (editRecords f g q) = ((r q).1, editRecords f g (r q).2) := by
    have hstarting : starting (editRecords f g q) = starting q := rfl
    cases c with
    | false => exact h q
    | true =>
      simp only [r, if_true, refusedStarting, hstarting, h q]
      split <;> rfl
  rw [hr]
  by_cases hq : (r q).1 = .queued
  · rw [if_pos hq, if_pos hq]
  · rw [if_neg hq, if_neg hq]
    rfl

theorem commutes_acceptKey : Commutes acceptKey (editRecords f g) := fun q =>
  commutes_judgedKey (ruleCommutes_tryAccept (oldestReview q)) (oldestReview q).isSome .acceptRefused
    (recordArea q (oldestReview q)) q

theorem commutes_declineKey : Commutes declineKey (editRecords f g) := fun q =>
  commutes_judgedKey (ruleCommutes_tryDecline (oldestReview q)) (oldestReview q).isSome .declineRefused
    (recordArea q (oldestReview q)) q

theorem commutes_reliefKey : Commutes reliefKey (editRecords f g) := fun q => by
  have hrefusal : reliefRefusal (editRecords f g q) = reliefRefusal q := rfl
  unfold reliefKey
  rw [hrefusal]
  cases reliefRefusal q with
  | none => rfl
  | some c =>
    by_cases hc : c = .done
    · simp only [if_pos hc]
    · simp only [if_neg hc]
      rfl

theorem commutes_keyAction (k : Fin 4) : Commutes (keyAction k) (editRecords f g) := by
  refine commutes_ite (c := fun q => unconfigured q = true) (fun _ => Iff.rfl) (commutes_id _) fun q => ?_
  match k with
  | 0 => rfl
  | 1 => exact commutes_acceptKey q
  | 2 => exact commutes_declineKey q
  | 3 => exact commutes_reliefKey q

end

/-! ## Edges of a key (R54, R55) -/

theorem commutes_pressKey {h : Part → Part} (hedit : ∃ f g, h = editRecords f g) (hkey : ∀ q, key (h q) k = key q k)
    (hmod : ∀ f, Commutes (modKey k f) h) : Commutes (pressKey k) h := by
  obtain ⟨f, g, rfl⟩ := hedit
  refine commutes_ite (c := fun q => sampling q = true ∧ (key q k).state = .up) (fun q => ?_)
    ((commutes_keyAction k).comp (hmod _)) (commutes_id _)
  rw [hkey]
  rfl

theorem commutes_releaseKey {h : Part → Part} (hedit : ∃ f g, h = editRecords f g) (hkey : ∀ q, key (h q) k = key q k)
    (hmod : ∀ f, Commutes (modKey k f) h) : Commutes (releaseKey k) h := by
  obtain ⟨f, g, rfl⟩ := hedit
  refine commutes_ite (c := fun q => sampling q = true ∧ (key q k).state = .down) (fun q => ?_) (hmod _) (commutes_id _)
  rw [hkey]
  rfl

theorem commutes_settleKey {h : Part → Part} (hedit : ∃ f g, h = editRecords f g) (hkey : ∀ q, key (h q) k = key q k)
    (hmod : ∀ f, Commutes (modKey k f) h) (down : Bool) : Commutes (settleKey k down) h := by
  obtain ⟨f, g, rfl⟩ := hedit
  refine commutes_ite (c := fun q => sampling q = true ∧ (key q k).state = .unknown) (fun q => ?_) (hmod _) (commutes_id _)
  rw [hkey]
  rfl

/-! ## Edges of an input (R57 to R60) -/

section
variable {g : InputRecord → InputRecord} (h : j ≠ i)
include h

theorem input_modInput_ne (q : Part) : input (modInput j g q) i = input q i :=
  input_modInput_other q j i g h.symm

theorem commutes_pushInput : Commutes (pushTelegram (.input i)) (modInput j g) := by
  have hinput := input_modInput_ne (g := g) h
  have hpayload : ∀ q, inputPayload (modInput j g q) i = inputPayload q i := fun q => by
    unfold inputPayload
    rw [hinput]
    rfl
  have htelegram : ∀ q, ownerTelegram (modInput j g q) (.input i) = ownerTelegram q (.input i) := fun q => by
    simp only [ownerTelegram, hpayload]
    rfl
  have hentered : Commutes (markEntered (.input i)) (modInput j g) := fun q => by
    have hconfig : inputConfig (modInput j g q) i = inputConfig q i := rfl
    simp only [markEntered, hconfig, hinput]
    have halarm := congrArg (countMerged ((input q i).unpublished.toNat - 1))
      (commutes_modInput h (fun x => { x with publication := .inFlight, unpublished := 0 }) g q)
    cases (inputConfig q i).use
    · exact halarm
    · exact halarm
    · exact commutes_modInput h (fun x => { x with trip := .inFlight }) g q
  exact commutes_pushTelegram (f := id) (g := fun v => setAt v j (g (v.get j))) htelegram hentered fun _ => rfl

theorem commutes_awaitInput : Commutes (awaitInput i) (modInput j g) :=
  (commutes_pushInput h).comp (commutes_modInput h _ g)

theorem commutes_settleInput : Commutes (settleInput i) (modInput j g) := fun q => by
  have hmod := commutes_modInput h (fun x => { x with publication := .settled, unpublished := 0 }) g (leaveWaiting (.input i) q)
  unfold settleInput
  rw [input_modInput_ne h]
  exact congrArg (countMerged (input q i).unpublished.toNat) hmod

theorem commutes_bumpUnpublished : Commutes (bumpUnpublished i) (modInput j g) := by
  refine commutes_ite (c := fun q => (input q i).unpublished = 65535) (fun q => by rw [input_modInput_ne h]) (fun q => ?_)
    (commutes_modInput h _ g)
  exact congrArg (modAnu fun n => { n with freeCount := n.freeCount + 1 })
    (commutes_modInput h (fun x => { x with unpublished := Config.unpublishedPastEnd q.anu.freeCount }) g q)

theorem commutes_inputChanged : Commutes (inputChanged i) (modInput j g) := fun q => by
  have hflip := (commutes_bumpUnpublished (g := g) h).comp
    (commutes_modInput h (fun x => { x with condition := otherContact x.condition, run := 0 }) g) q
  unfold inputChanged
  simp only [hflip, input_modInput_ne h]
  generalize bumpUnpublished i (modInput i (fun x => { x with condition := otherContact x.condition, run := 0 }) q) = r
  have hmatch := commutes_ite (g := modInput j g) (c := fun q => inputMatches (input q i) = true)
    (fun q => by rw [input_modInput_ne h]) (commutes_settleInput h) (commutes_id _) r
  simp only [input_modInput_ne h] at hmatch
  cases (input r i).publication with
  | unseeded => rfl
  | settled => exact commutes_awaitInput h r
  | waiting => exact hmatch
  | inFlight => rfl

theorem commutes_changeInput : Commutes (changeInput i) (modInput j g) :=
  commutes_ite (c := fun q => listening q = true ∧ (inputConfig q i).use = .alarm ∧ (input q i).condition ≠ .unknown)
    (fun q => by rw [input_modInput_ne h]; rfl) (commutes_inputChanged h) (commutes_id _)

theorem commutes_activateTrip : Commutes (activateTrip i) (modInput j g) := by
  refine commutes_ite (c := fun q => listening q = true ∧ (inputConfig q i).use = .trip ∧ (input q i).condition = .clear)
    (fun q => by rw [input_modInput_ne h]; rfl) (fun q => ?_) (commutes_id _)
  unfold tripActivated
  simp only [commutes_modInput h (fun x => { x with condition := .active, run := 0 }) g q]
  exact commutes_ite (c := fun q => (input q i).trip = .idle) (fun q => by rw [input_modInput_ne h])
    ((commutes_pushInput h).comp (commutes_modInput h (fun x => { x with trip := .pending }) g)) (commutes_id _) _

theorem commutes_clearTrip : Commutes (clearTrip i) (modInput j g) :=
  commutes_ite (c := fun q => listening q = true ∧ (inputConfig q i).use = .trip ∧ (input q i).condition = .active)
    (fun q => by rw [input_modInput_ne h]; rfl) (commutes_modInput h _ g) (commutes_id _)

theorem commutes_seedPair : Commutes (seedPair i) (modInput j g) := fun q => by
  have hfind : findEntry (modInput j g q) (inputConfig (modInput j g q) i).tag = findEntry q (inputConfig q i).tag := rfl
  unfold seedPair
  rw [hfind]
  cases findEntry q (inputConfig q i).tag with
  | none => rfl
  | some e => exact commutes_modInput h (fun x => { x with published := e.active, publishedOccurrence := e.occurrence }) g q

theorem commutes_seedInput : Commutes (fun q => seedInput q i) (modInput j g) := by
  refine commutes_ite (c := fun q => running q = true ∧ (inputConfig q i).use = .alarm ∧ (input q i).publication = .unseeded
    ∧ (input q i).condition ≠ .unknown) (fun q => by rw [input_modInput_ne h]; rfl) (fun q => ?_) (commutes_id _)
  simp only [commutes_seedPair (g := g) h q]
  exact commutes_ite (c := fun q => inputMatches (input q i) = true) (fun q => by rw [input_modInput_ne h])
    (commutes_modInput h (fun x => { x with publication := .settled }) g) (commutes_awaitInput h) _

theorem commutes_settleContact (active : Bool) : Commutes (settleContact i active) (modInput j g) :=
  commutes_ite (c := fun q => listening q = true ∧ (inputConfig q i).use ≠ .unused ∧ (input q i).condition = .unknown)
    (fun q => by rw [input_modInput_ne h]; rfl) ((commutes_seedInput h).comp (commutes_modInput h _ g)) (commutes_id _)

end

end Sys2Proof.Machine
end


section
/-! PROOFS. The sample tick as its counts and then its edges in turn (R49, R52, R54, R57, R82; logs 8, 9). -/

namespace Sys2Proof.Machine

variable {p q : Part} {s : State} {i j : Fin 8} {k l : Fin 4}

/-! ## Counts first, edges after -/

/-- Of a list of samples taken in order, those that complete no run may all be counted before the edges of the others are taken:
an edge commutes with the counts after it, and neither touches what a later sample reads. -/
theorem foldl_deferred {ι : Type} {step act count : ι → Part → Part} {due : ι → Bool} {fresh : ι → Part → Prop}
    {before : ι → ι → Prop} (hstep : ∀ x q, fresh x q → step x q = if due x then act x q else count x q)
    (hact : ∀ x y q, before x y → fresh y q → fresh y (act x q))
    (hcount : ∀ x y q, before x y → fresh y q → fresh y (count x q))
    (hcomm : ∀ x y, before x y → Commutes (act x) (count y)) (l : List ι) (hl : l.Pairwise before) (q : Part)
    (hq : ∀ x ∈ l, fresh x q) :
    l.foldl (fun q x => step x q) q =
      (l.filter due).foldl (fun q x => act x q) ((l.filter fun x => !due x).foldl (fun q x => count x q) q) := by
  induction l generalizing q with
  | nil => rfl
  | cons x l ih =>
    obtain ⟨hbefore, hrest⟩ := List.pairwise_cons.1 hl
    have hx : step x q = if due x then act x q else count x q := hstep x q (hq x List.mem_cons_self)
    have hfresh : ∀ y ∈ l, fresh y q := fun y hy => hq y (List.mem_cons_of_mem x hy)
    rw [List.foldl_cons, hx]
    cases hd : due x with
    | true =>
      have hthrough : ∀ (m : List ι) (r : Part), (∀ y ∈ m, before x y) →
          m.foldl (fun q x => count x q) (act x r) = act x (m.foldl (fun q x => count x q) r) := by
        intro m
        induction m with
        | nil => exact fun _ _ => rfl
        | cons y m ihm =>
          intro r hm
          rw [List.foldl_cons, List.foldl_cons, ← hcomm x y (hm y List.mem_cons_self) r,
            ihm _ fun z hz => hm z (List.mem_cons_of_mem y hz)]
      rw [if_pos rfl, ih hrest _ fun y hy => hact x y q (hbefore y hy) (hfresh y hy),
        hthrough _ q fun y hy => hbefore y (List.mem_of_mem_filter hy)]
      simp [hd]
    | false =>
      rw [if_neg Bool.false_ne_true, ih hrest _ fun y hy => hcount x y q (hbefore y hy) (hfresh y hy)]
      simp [hd]

/-! ## One sample -/

/-- A key, or a contact input. -/
abbrev Sensor := Fin 4 ⊕ Fin 8

/-- The keys by rising number, and then the inputs. -/
def sensors : List Sensor := (List.finRange 4).map .inl ++ (List.finRange 8).map .inr

/-- The first is sampled before the second. -/
def Sensor.before : Sensor → Sensor → Bool
  | .inl k, .inl l => decide (l ≠ k)
  | .inl _, .inr _ => true
  | .inr _, .inl _ => false
  | .inr i, .inr j => decide (j ≠ i)

theorem pairwise_sensors : sensors.Pairwise fun x y => Sensor.before x y = true := by decide

/-- What the edge or settling of a key does, by its state (R54, R55). -/
def keyTaken (x : KeyRecord) (k : Fin 4) (down : Bool) : Part → Part :=
  match x.state with
  | .unknown => settleKey k down
  | .up => pressKey k
  | .down => releaseKey k

/-- What the change or settling of an input does, by its condition and use (R57 to R60). -/
def inputTaken (c : InputConfig) (x : InputRecord) (i : Fin 8) (active : Bool) : Part → Part :=
  match x.condition, c.use with
  | .unknown, _ => settleContact i active
  | _, .alarm => changeInput i
  | .clear, _ => activateTrip i
  | .active, _ => clearTrip i

section
variable (p : Part) (keys : BitVec 4) (contacts : BitVec 8)

/-- The row of the edge or settling that the sensor's sample completes. -/
def edgeOf : Sensor → Option Instr
  | .inl k => keyEdge k (key p k) (keys.getLsbD k.val)
  | .inr i => if listening p = true then inputEdge (inputConfig p i) i (input p i) (contactActive p contacts i) else none

/-- What that row does to the part. -/
def takeEdge : Sensor → Part → Part
  | .inl k => keyTaken (key p k) k (keys.getLsbD k.val)
  | .inr i => inputTaken (inputConfig p i) (input p i) i (contactActive p contacts i)

/-- An input's record once its sample is counted, if it is sampled. -/
def inputAfter (i : Fin 8) (x : InputRecord) : InputRecord :=
  if listening p = true ∧ (inputConfig p i).use ≠ .unused then inputCounted x (contactActive p contacts i) else x

/-- A sample that completes no run. -/
def countSample : Sensor → Part → Part
  | .inl k => modKey k fun x => keyCounted x (keys.getLsbD k.val)
  | .inr i => modInput i (inputAfter p contacts i)

/-- The sample of one sensor. -/
def takeSample : Sensor → Part → Part
  | .inl k, q => sampleKey (fun k => keys.getLsbD k.val) q k
  | .inr i, q => sampleInput (fun i => contacts.getLsbD i.val) q i

/-- What the sensor's sample reads is as `p` has it. -/
def Fresh : Sensor → Part → Prop
  | .inl k, q => key q k = key p k
  | .inr i, q => q.stc.station = p.stc.station ∧ q.stc.settings = p.stc.settings ∧ input q i = input p i

end

theorem settleCount_eq (n : Nat) (b c : Bool) : settleCount n b c = if n = 0 ∨ b ≠ c then 1 else n + 1 := by
  unfold settleCount
  by_cases h : n = 0
  · simp [h]
  · by_cases hb : b = c <;> simp [h, hb]

theorem debounceSamples_eq (c : BitVec 2) : debounceSamples c = [4, 10, 20, 100].getD c.toNat 0 := by
  revert c
  decide

theorem contactActive_eq (h : q.stc.settings = p.stc.settings) (contacts : BitVec 8) (i : Fin 8) :
    sampleActive (inputConfig q i) (contacts.getLsbD i.val) = contactActive p contacts i := by
  have hconfig : inputConfig q i = inputConfig p i := by unfold inputConfig; rw [h]
  rw [sampleActive, contactActive, hconfig]
  cases (inputConfig p i).activeOpen <;> cases contacts.getLsbD i.val <;> rfl

theorem modKey_congr {f g : KeyRecord → KeyRecord} (h : f (key q k) = g (key q k)) : modKey k f q = modKey k g q :=
  congrArg (fun x => { q with anu := { q.anu with keys := setAt q.anu.keys k x } }) h

theorem modInput_congr {f g : InputRecord → InputRecord} (h : f (input q i) = g (input q i)) : modInput i f q = modInput i g q :=
  congrArg (fun x => putInput i x q) h

theorem keyEdge_isSome (k : Fin 4) (x : KeyRecord) (c : Bool) :
    (keyEdge k x c).isSome = decide (4 ≤ (keyCounted x c).run) := by
  unfold keyEdge
  by_cases h : (keyCounted x c).run < 4
  · rw [if_pos h, decide_eq_false (Nat.not_le.2 h)]
    rfl
  · rw [if_neg h, decide_eq_true (Nat.not_lt.1 h)]
    cases x.state with
    | unknown => rfl
    | up => fin_cases k <;> rfl
    | down => rfl

/-- A key's sample is its edge when it completes a run, else a count (R54). -/
theorem sampleKey_eq (f : Fin 4 → Bool) (q : Part) (k : Fin 4) : sampleKey f q k =
    if 4 ≤ (keyCounted (key q k) (f k)).run then keyTaken (key q k) k (f k) q
    else modKey k (fun x => keyCounted x (f k)) q := by
  have hcount : ∀ {g : KeyRecord → KeyRecord} {x : KeyRecord}, key q k = x → g x = keyCounted x (f k) →
      modKey k g q = modKey k (fun x => keyCounted x (f k)) q := fun hx hg => modKey_congr (by rw [hx]; exact hg)
  unfold sampleKey
  simp only
  rcases hx : key q k with ⟨state, run, sample⟩
  cases state with
  | unknown =>
    rw [settleCount_eq]
    exact if_congr Iff.rfl rfl (hcount hx rfl)
  | up =>
    cases hf : f k <;> rw [hf] at hcount
    · dsimp only
      rw [if_neg Bool.false_ne_true]
      exact (hcount hx rfl).trans (if_neg (show ¬4 ≤ 0 by decide)).symm
    · dsimp only
      rw [if_pos rfl]
      exact if_congr Iff.rfl rfl (hcount hx rfl)
  | down =>
    cases hf : f k <;> rw [hf] at hcount
    · dsimp only
      rw [if_neg Bool.false_ne_true]
      exact if_congr Iff.rfl rfl (hcount hx rfl)
    · dsimp only
      rw [if_pos rfl]
      exact (hcount hx rfl).trans (if_neg (show ¬4 ≤ 0 by decide)).symm

theorem inputEdge_isSome {c : InputConfig} (h : c.use ≠ .unused) (i : Fin 8) (x : InputRecord) (active : Bool) :
    (inputEdge c i x active).isSome = decide (debounceSamples c.debounce ≤ (inputCounted x active).run) := by
  unfold inputEdge
  rw [← debounceSamples_eq]
  by_cases hrun : (inputCounted x active).run < debounceSamples c.debounce
  · rw [if_pos (.inr hrun), decide_eq_false (Nat.not_le.2 hrun)]
    rfl
  · rw [if_neg (not_or.2 ⟨h, hrun⟩), decide_eq_true (Nat.not_lt.1 hrun)]
    split <;> rfl

theorem debounceSamples_pos (c : BitVec 2) : 0 < debounceSamples c := by
  revert c
  decide

/-- An edge of a settled input in use is taken by its use (R57). -/
theorem contactEdge_eq (hu : (inputConfig q i).use ≠ .unused) (hc : (input q i).condition ≠ .unknown) (active : Bool) :
    contactEdge i q = inputTaken (inputConfig q i) (input q i) i active q := by
  unfold contactEdge inputTaken
  cases h : (inputConfig q i).use with
  | unused => exact absurd h hu
  | alarm =>
    cases hx : (input q i).condition with
    | unknown => exact absurd hx hc
    | active => rfl
    | clear => rfl
  | trip =>
    cases hx : (input q i).condition with
    | unknown => exact absurd hx hc
    | active => rfl
    | clear => rfl

/-- A used input's sample is its edge when it completes a run, else a count (R57). -/
theorem sampleInput_eq (f : Fin 8 → Bool) (hl : listening q = true) (hu : (inputConfig q i).use ≠ .unused) :
    sampleInput f q i =
      if debounceSamples (inputConfig q i).debounce ≤
          (inputCounted (input q i) (sampleActive (inputConfig q i) (f i))).run then
        inputTaken (inputConfig q i) (input q i) i (sampleActive (inputConfig q i) (f i)) q
      else modInput i (fun x => inputCounted x (sampleActive (inputConfig q i) (f i))) q := by
  have hedge := contactEdge_eq hu (q := q) (i := i)
  have hpos := Nat.not_le.2 (debounceSamples_pos (inputConfig q i).debounce)
  unfold sampleInput
  simp only
  rw [if_pos ⟨hl, hu⟩]
  generalize sampleActive (inputConfig q i) (f i) = active
  have hcount : ∀ {g : InputRecord → InputRecord} {x : InputRecord}, input q i = x → g x = inputCounted x active →
      modInput i g q = modInput i (fun x => inputCounted x active) q := fun hx hg => modInput_congr (by rw [hx]; exact hg)
  rcases hx : input q i with ⟨condition, run, sample, published, occurrence, publication, unpublished, trip⟩
  rw [hx] at hedge
  cases condition with
  | unknown =>
    rw [settleCount_eq]
    exact if_congr Iff.rfl rfl (hcount hx rfl)
  | active =>
    cases active
    · dsimp only
      rw [if_neg Bool.false_ne_true]
      exact if_congr Iff.rfl (hedge nofun false) (hcount hx rfl)
    · dsimp only
      rw [if_pos rfl]
      exact (hcount hx rfl).trans (if_neg hpos).symm
  | clear =>
    cases active
    · dsimp only
      rw [if_neg Bool.false_ne_true]
      exact (hcount hx rfl).trans (if_neg hpos).symm
    · dsimp only
      rw [if_pos rfl]
      exact if_congr Iff.rfl (hedge nofun true) (hcount hx rfl)

theorem setAt_eta {α : Type} {n : Nat} (v : Vector α n) (i : Fin n) : setAt v i (v.get i) = v := by
  apply Vector.ext
  intro m hm
  change (setAt v i (v.get i)).get ⟨m, hm⟩ = v.get ⟨m, hm⟩
  rw [setAt_get]
  split
  · next h => rw [h]
  · rfl

theorem modInput_same {g : InputRecord → InputRecord} (h : g (input q i) = input q i) : modInput i g q = q :=
  (congrArg (fun x => putInput i x q) h).trans
    (congrArg (fun v => { q with anu := { q.anu with inputs := v } }) (setAt_eta ..))

theorem modKey_same {g : KeyRecord → KeyRecord} (h : g (key q k) = key q k) : modKey k g q = q :=
  (congrArg (fun x => { q with anu := { q.anu with keys := setAt q.anu.keys k x } }) h).trans
    (congrArg (fun v => { q with anu := { q.anu with keys := v } }) (setAt_eta ..))

/-- A sample is the edge that it completes, else a count. -/
theorem takeSample_eq (p : Part) (keys : BitVec 4) (contacts : BitVec 8) (x : Sensor) (q : Part) (h : Fresh p x q) :
    takeSample keys contacts x q = if (edgeOf p keys contacts x).isSome then takeEdge p keys contacts x q
      else countSample p keys contacts x q := by
  match x with
  | .inl k =>
    have hk : key q k = key p k := h
    rw [takeSample, sampleKey_eq, hk, edgeOf, keyEdge_isSome, if_congr decide_eq_true_iff rfl rfl]
    rfl
  | .inr i =>
    obtain ⟨hstation, hsettings, hi⟩ := h
    have hconfig : inputConfig q i = inputConfig p i := by rw [inputConfig, hsettings]; rfl
    have hlistening : listening q = listening p := listening_congr hstation
    have hunsampled : ¬(listening p = true ∧ (inputConfig p i).use ≠ .unused) → edgeOf p keys contacts (.inr i) = none →
        takeSample keys contacts (.inr i) q = if (edgeOf p keys contacts (.inr i)).isSome then
            takeEdge p keys contacts (.inr i) q else countSample p keys contacts (.inr i) q := fun hnot hnone => by
      have hsame : inputAfter p contacts i (input q i) = input q i := if_neg hnot
      rw [hnone, countSample, takeSample, sampleInput]
      simp only [hlistening, hconfig]
      exact (if_neg hnot).trans (modInput_same hsame).symm
    by_cases hl : listening p = true
    · by_cases hu : (inputConfig p i).use = .unused
      · exact hunsampled (fun c => c.2 hu) ((if_pos hl).trans (if_pos (.inl hu)))
      · have hcount : countSample p keys contacts (.inr i) = modInput i fun x => inputCounted x (contactActive p contacts i) :=
          congrArg (modInput i) (funext fun x => if_pos ⟨hl, hu⟩)
        rw [takeSample, edgeOf, hcount, sampleInput_eq _ (hlistening.trans hl) (hconfig ▸ hu), contactActive_eq hsettings,
          hconfig, hi, if_pos hl, inputEdge_isSome hu, if_congr decide_eq_true_iff rfl rfl]
        rfl
    · exact hunsampled (fun c => hl c.1) (if_neg hl)

/-! ## Edges and counts of different sensors -/

theorem commutes_keyTaken {h : Part → Part} (x : KeyRecord) (down : Bool) (hedit : ∃ f g, h = editRecords f g)
    (hkey : ∀ q, key (h q) k = key q k) (hmod : ∀ f, Commutes (modKey k f) h) : Commutes (keyTaken x k down) h := by
  unfold keyTaken
  split
  · exact commutes_settleKey hedit hkey hmod down
  · exact commutes_pressKey hedit hkey hmod
  · exact commutes_releaseKey hedit hkey hmod

theorem commutes_inputTaken (h : j ≠ i) (c : InputConfig) (x : InputRecord) (active : Bool) (g : InputRecord → InputRecord) :
    Commutes (inputTaken c x i active) (modInput j g) := by
  unfold inputTaken
  split
  · exact commutes_settleContact h active
  · exact commutes_changeInput h
  · exact commutes_activateTrip h
  · exact commutes_clearTrip h

theorem commutes_keyTaken_modInput (x : KeyRecord) (down : Bool) (g : InputRecord → InputRecord) :
    Commutes (keyTaken x k down) (modInput i g) :=
  commutes_keyTaken x down ⟨_, _, modInput_edits i g⟩ (fun _ => rfl) fun f => commutes_modKey_modInput f g

theorem commutes_keyTaken_modKey (h : l ≠ k) (x : KeyRecord) (down : Bool) (g : KeyRecord → KeyRecord) :
    Commutes (keyTaken x k down) (modKey l g) :=
  commutes_keyTaken x down ⟨_, _, modKey_edits l g⟩ (fun q => key_modKey_other q l k g h.symm) fun f => commutes_modKey h f g

/-- What commutes with every change of a key's record leaves it as it is. -/
theorem key_of_commutes {f : Part → Part} (h : ∀ g, Commutes f (modKey l g)) (q : Part) : key (f q) l = key q l := by
  have hsame : modKey l (fun _ => key q l) q = q := modKey_same rfl
  have hkept := h (fun _ => key q l) q
  rw [hsame] at hkept
  rw [hkept, key_modKey_self]

theorem input_of_commutes {f : Part → Part} (h : ∀ g, Commutes f (modInput j g)) (q : Part) : input (f q) j = input q j := by
  have hsame : modInput j (fun _ => input q j) q = q := modInput_same rfl
  have hkept := h (fun _ => input q j) q
  rw [hsame] at hkept
  rw [hkept, input_modInput_self]

theorem steady_keyTaken (x : KeyRecord) (k : Fin 4) (down : Bool) (q : Part) : Steady q (keyTaken x k down q) := by
  unfold keyTaken
  cases x.state with
  | unknown => exact steady_settleKey ..
  | up => exact steady_pressKey ..
  | down => exact steady_releaseKey ..

theorem steady_inputTaken (c : InputConfig) (x : InputRecord) (i : Fin 8) (active : Bool) (q : Part) :
    Steady q (inputTaken c x i active q) := by
  generalize hf : inputTaken c x i active = f
  unfold inputTaken at hf
  split at hf <;> subst hf
  · exact steady_settleContact ..
  · exact steady_changeInput ..
  · exact steady_activateTrip ..
  · exact steady_clearTrip ..

section
variable (p : Part) (keys : BitVec 4) (contacts : BitVec 8) {x y : Sensor}

theorem commutes_edge_count (h : Sensor.before x y = true) :
    Commutes (takeEdge p keys contacts x) (countSample p keys contacts y) := by
  match x, y with
  | .inl k, .inl l =>
    have hcomm := commutes_keyTaken_modKey (of_decide_eq_true h) (key p k) (keys.getLsbD k.val)
      fun x => keyCounted x (keys.getLsbD l.val)
    exact hcomm
  | .inl k, .inr i => exact commutes_keyTaken_modInput (key p k) (keys.getLsbD k.val) (inputAfter p contacts i)
  | .inr i, .inr j =>
    exact commutes_inputTaken (of_decide_eq_true h) (inputConfig p i) (input p i) (contactActive p contacts i)
      (inputAfter p contacts j)

theorem fresh_edge (h : Sensor.before x y = true) (q : Part) (hy : Fresh p y q) : Fresh p y (takeEdge p keys contacts x q) := by
  match x, y with
  | .inl k, .inl l => exact (key_of_commutes (commutes_keyTaken_modKey (of_decide_eq_true h) _ _) q).trans hy
  | .inl k, .inr i =>
    obtain ⟨hstation, hsettings, hi⟩ := hy
    have hsteady := steady_keyTaken (key p k) k (keys.getLsbD k.val) q
    exact ⟨hsteady.station.trans hstation, hsteady.settings.trans hsettings,
      (input_of_commutes (commutes_keyTaken_modInput _ _) q).trans hi⟩
  | .inr i, .inr j =>
    obtain ⟨hstation, hsettings, hj⟩ := hy
    have hsteady := steady_inputTaken (inputConfig p i) (input p i) i (contactActive p contacts i) q
    exact ⟨hsteady.station.trans hstation, hsteady.settings.trans hsettings,
      (input_of_commutes (commutes_inputTaken (of_decide_eq_true h) _ _ _) q).trans hj⟩

theorem fresh_count (h : Sensor.before x y = true) (q : Part) (hy : Fresh p y q) :
    Fresh p y (countSample p keys contacts x q) := by
  match x, y with
  | .inl k, .inl l => exact (key_modKey_other q k l _ (of_decide_eq_true h)).trans hy
  | .inl k, .inr i => exact hy
  | .inr i, .inr j =>
    obtain ⟨hstation, hsettings, hj⟩ := hy
    exact ⟨hstation, hsettings, (input_modInput_other q i j _ (of_decide_eq_true h)).trans hj⟩

/-- A tick counts its samples and then takes the edges due. -/
theorem sampleStep_eq (hs : p.stc.station ≠ none) : sampleStep keys contacts p =
    (sensors.filter fun x => (edgeOf p keys contacts x).isSome).foldl (fun q x => takeEdge p keys contacts x q)
      ((sensors.filter fun x => !(edgeOf p keys contacts x).isSome).foldl (fun q x => countSample p keys contacts x q)
        (advanceCounters p)) := by
  have hfold : sampleStep keys contacts p = sensors.foldl (fun q x => takeSample keys contacts x q) (advanceCounters p) := by
    rw [sampleStep, if_pos (sampling_of_station hs), sensors, List.foldl_append, List.foldl_map, List.foldl_map]
    rfl
  rw [hfold]
  refine foldl_deferred (fresh := Fresh p) (before := fun x y => Sensor.before x y = true) (takeSample_eq p keys contacts)
    (fun x y q h => fresh_edge p keys contacts h q) (fun x y q h => fresh_count p keys contacts h q)
    (fun x y => commutes_edge_count p keys contacts) sensors pairwise_sensors _ fun x _ => ?_
  match x with
  | .inl k => rfl
  | .inr i => exact ⟨rfl, rfl, rfl⟩

end

/-! ## The counts as the tick leaves them -/

theorem eq_tabulate {α : Type} {n : Nat} {v : Vector α n} {f : Fin n → α} (h : ∀ i, v.get i = f i) : v = tabulate f := by
  apply Vector.ext
  intro m hm
  exact (h ⟨m, hm⟩).trans (tabulate_get f ⟨m, hm⟩).symm

section
variable (p : Part) (keys : BitVec 4) (contacts : BitVec 8)

/-- The part once the samples of a list of sensors have been counted. -/
def countSamples (l : List Sensor) (q : Part) : Part := l.foldl (fun q x => countSample p keys contacts x q) q

theorem key_countSamples (l : List Sensor) (hl : l.Nodup) (q : Part) (k : Fin 4) :
    (.inl k ∈ l → key (countSamples p keys contacts l q) k = keyCounted (key q k) (keys.getLsbD k.val)) ∧
      (.inl k ∉ l → key (countSamples p keys contacts l q) k = key q k) := by
  induction l generalizing q with
  | nil => exact ⟨fun h => absurd h List.not_mem_nil, fun _ => rfl⟩
  | cons x l ih =>
    obtain ⟨hx, hrest⟩ := List.nodup_cons.1 hl
    obtain ⟨hcounted, hkept⟩ := ih hrest (countSample p keys contacts x q)
    by_cases hk : x = .inl k
    · subst hk
      exact ⟨fun _ => (hkept hx).trans (key_modKey_self ..), fun h => absurd List.mem_cons_self h⟩
    · have hsame : key (countSample p keys contacts x q) k = key q k := by
        match x with
        | .inl l => exact key_modKey_other _ _ _ _ fun c => hk (congrArg _ c.symm)
        | .inr i => rfl
      rw [hsame] at hcounted hkept
      exact ⟨fun h => hcounted ((List.mem_cons.1 h).resolve_left (Ne.symm hk)), fun h => hkept (mt (List.mem_cons_of_mem x) h)⟩

theorem input_countSamples (l : List Sensor) (hl : l.Nodup) (q : Part) (i : Fin 8) :
    (.inr i ∈ l → input (countSamples p keys contacts l q) i = inputAfter p contacts i (input q i)) ∧
      (.inr i ∉ l → input (countSamples p keys contacts l q) i = input q i) := by
  induction l generalizing q with
  | nil => exact ⟨fun h => absurd h List.not_mem_nil, fun _ => rfl⟩
  | cons x l ih =>
    obtain ⟨hx, hrest⟩ := List.nodup_cons.1 hl
    obtain ⟨hcounted, hkept⟩ := ih hrest (countSample p keys contacts x q)
    by_cases hi : x = .inr i
    · subst hi
      exact ⟨fun _ => (hkept hx).trans (input_modInput_self ..), fun h => absurd List.mem_cons_self h⟩
    · have hsame : input (countSample p keys contacts x q) i = input q i := by
        match x with
        | .inl l => rfl
        | .inr j => exact input_modInput_other _ _ _ _ fun c => hi (congrArg _ c.symm)
      rw [hsame] at hcounted hkept
      exact ⟨fun h => hcounted ((List.mem_cons.1 h).resolve_left (Ne.symm hi)), fun h => hkept (mt (List.mem_cons_of_mem x) h)⟩

/-- Counting touches the keys' and inputs' records alone. -/
theorem countSamples_rest (l : List Sensor) (q : Part) : countSamples p keys contacts l q = { q with anu := { q.anu with
    keys := (countSamples p keys contacts l q).anu.keys, inputs := (countSamples p keys contacts l q).anu.inputs } } := by
  refine foldl_keeps (P := fun r => r = { q with anu := { q.anu with keys := r.anu.keys, inputs := r.anu.inputs } })
    (fun r x hr => ?_) rfl l
  match x with
  | .inl k => rw [hr]; rfl
  | .inr i => rw [hr]; rfl

theorem nodup_sensors : sensors.Nodup := by decide

/-- The samples that complete no run, counted, are the tick's counts (R49, R52, R54, R57, R82). -/
theorem countSamples_eq : countSamples p keys contacts (sensors.filter fun x => !(edgeOf p keys contacts x).isSome)
    (advanceCounters p) = sampled p keys contacts := by
  have hnodup : (sensors.filter fun x => !(edgeOf p keys contacts x).isSome).Nodup := nodup_sensors.filter _
  have hmem : ∀ x, x ∈ (sensors.filter fun x => !(edgeOf p keys contacts x).isSome) ↔
      ¬(edgeOf p keys contacts x).isSome = true := fun x => by
    have hall : x ∈ sensors := by cases x <;> simp [sensors]
    rw [List.mem_filter, and_iff_right hall, Bool.not_eq_true']
    exact Bool.eq_false_iff
  rw [countSamples_rest]
  have hkeys : (countSamples p keys contacts (sensors.filter fun x => !(edgeOf p keys contacts x).isSome)
      (advanceCounters p)).anu.keys = tabulate fun k =>
        if (keyEdge k (key p k) (keys.getLsbD k.val)).isSome then key p k else keyCounted (key p k) (keys.getLsbD k.val) := by
    refine eq_tabulate fun k => ?_
    obtain ⟨hcounted, hkept⟩ := key_countSamples p keys contacts _ hnodup (advanceCounters p) k
    by_cases hdue : (keyEdge k (key p k) (keys.getLsbD k.val)).isSome
    · rw [if_pos hdue]
      exact hkept fun h => (hmem _).1 h hdue
    · rw [if_neg hdue]
      exact hcounted ((hmem _).2 hdue)
  have hinputs : (countSamples p keys contacts (sensors.filter fun x => !(edgeOf p keys contacts x).isSome)
      (advanceCounters p)).anu.inputs = tabulate fun i =>
        if listening p = false ∨ (inputConfig p i).use = .unused ∨
          (inputEdge (inputConfig p i) i (input p i) (contactActive p contacts i)).isSome then input p i
        else inputCounted (input p i) (contactActive p contacts i) := by
    refine eq_tabulate fun i => ?_
    obtain ⟨hcounted, hkept⟩ := input_countSamples p keys contacts _ hnodup (advanceCounters p) i
    by_cases hdue : (edgeOf p keys contacts (.inr i)).isSome
    · have hedge : (inputEdge (inputConfig p i) i (input p i) (contactActive p contacts i)).isSome := by
        by_cases hl : listening p = true
        · simpa [edgeOf, hl] using hdue
        · simp [edgeOf, hl] at hdue
      rw [if_pos (.inr (.inr hedge))]
      exact hkept fun h => (hmem _).1 h hdue
    · refine (hcounted ((hmem _).2 hdue)).trans ?_
      by_cases hl : listening p = true
      · by_cases hu : (inputConfig p i).use = .unused
        · rw [if_pos (.inr (.inl hu))]
          exact if_neg fun c => c.2 hu
        · have hedge : ¬(inputEdge (inputConfig p i) i (input p i) (contactActive p contacts i)).isSome := by
            simpa [edgeOf, hl] using hdue
          rw [if_neg (by simp [hl, hu, hedge])]
          exact if_pos ⟨hl, hu⟩
      · rw [if_pos (.inl (by simpa using hl))]
        exact if_neg fun c => hl c.1
  rw [hkeys, hinputs]
  rfl

/-! ## The edges in turn -/

theorem edgesDue_eq : edgesDue p keys contacts = sensors.filterMap (edgeOf p keys contacts) := by
  rw [sensors, List.filterMap_append, List.filterMap_map, List.filterMap_map, edgesDue]
  refine congrArg₂ (· ++ ·) rfl ?_
  by_cases hl : listening p = true
  · simp only [if_pos hl, Function.comp_def, edgeOf]
  · simp only [if_neg hl, Function.comp_def, edgeOf, List.filterMap_none]

theorem exec_edge {x : Sensor} {c : Instr} (h : edgeOf p keys contacts x = some c) (s : State) :
    Machine.exec c s = .next (s.withPart (takeEdge p keys contacts x s.part)) := by
  match x with
  | .inl k =>
    have h : keyEdge k (key p k) (keys.getLsbD k.val) = some c := h
    rw [takeEdge]
    unfold keyEdge at h
    unfold keyTaken
    split at h
    · cases h
    · cases hs : (key p k).state with
      | unknown => rw [hs] at h; cases h; rfl
      | up =>
        rw [hs] at h
        fin_cases k <;> (cases h; rfl)
      | down => rw [hs] at h; cases h; rfl
  | .inr i =>
    have h : (if listening p = true then inputEdge (inputConfig p i) i (input p i) (contactActive p contacts i) else none) =
      some c := h
    rw [takeEdge]
    unfold inputEdge at h
    unfold inputTaken
    split at h
    · split at h
      · cases h
      · next hnot =>
        cases hc : (input p i).condition with
        | unknown => rw [hc] at h; cases h; rfl
        | active =>
          cases hu : (inputConfig p i).use with
          | unused => exact absurd (.inl hu) hnot
          | alarm => rw [hc, hu] at h; cases h; rfl
          | trip => rw [hc, hu] at h; cases h; rfl
        | clear =>
          cases hu : (inputConfig p i).use with
          | unused => exact absurd (.inl hu) hnot
          | alarm => rw [hc, hu] at h; cases h; rfl
          | trip => rw [hc, hu] at h; cases h; rfl
    · cases h

theorem inTurn_filterMap (l : List Sensor) (s : State) : inTurn (l.filterMap (edgeOf p keys contacts)) s =
    .next (s.withPart ((l.filter fun x => (edgeOf p keys contacts x).isSome).foldl
      (fun q x => takeEdge p keys contacts x q) s.part)) := by
  induction l generalizing s with
  | nil => rfl
  | cons x l ih =>
    cases hx : edgeOf p keys contacts x with
    | none => simp only [List.filterMap_cons, List.filter_cons, hx]; exact ih s
    | some c =>
      simp only [List.filterMap_cons, List.filter_cons, hx, inTurn, exec_edge p keys contacts hx]
      exact ih _

end

end Sys2Proof.Machine

open Sys2Proof.Machine in
/-- Settles O25: a tick counts its samples and then takes the edges due (`sampleStep_eq`), the counts by `countSamples_eq`, the
edges by `inTurn_filterMap`. -/
theorem sampleTickCountsAndActs : Obligations.SampleTickCountsAndActs := by
  intro s keys contacts
  have hturn : s.part.stc.station ≠ none → exec (.sampleTick keys contacts) s =
      inTurn (edgesDue s.part keys contacts) (s.withPart (sampled s.part keys contacts)) := fun hs => by
    rw [edgesDue_eq, inTurn_filterMap, ← countSamples_eq]
    exact congrArg (fun q => Host.Outcome.next (s.withPart q)) (sampleStep_eq s.part keys contacts hs)
  refine ⟨hturn, fun hs hnone => ?_, fun hs => ?_⟩
  · rw [hturn hs, hnone]
    rfl
  · have hsampling : ¬sampling s.part = true := by simp [sampling, hs]
    exact congrArg (fun q => Host.Outcome.next (s.withPart q)) (if_neg hsampling)
end


section
/-! PROOFS. Claims, area by area (R103): which areas are held after them and what they report; what the waiting list keeps. -/

namespace Sys2Proof.Machine

variable {p q r : Part} {a b : Area}

/-! ## The waiting list (R154) -/

theorem waiting_placeTelegram (o : Owner) (t : Telegram) (p : Part) : (placeTelegram o t p).lif.waiting = p.lif.waiting := by
  unfold placeTelegram
  split <;> rfl

/-- An owner's push moves no other owner to or from the waiting list. -/
theorem mem_waiting_pushTelegram {o x : Owner} (hx : x ≠ o) (p : Part) :
    x ∈ (pushTelegram o p).lif.waiting ↔ x ∈ p.lif.waiting := by
  have hjoin : x ∈ (joinWaiting o p).lif.waiting ↔ x ∈ p.lif.waiting := by
    change x ∈ (if o ∈ p.lif.waiting then p.lif.waiting else p.lif.waiting ++ [o]) ↔ _
    split
    · rfl
    · simp [hx]
  unfold pushTelegram
  (repeat' split)
  · rfl
  · rw [(markEntered_frame _ o).2.1, waiting_placeTelegram]
    simp [leaveWaiting, hx]
  · rw [(markOwed_frame _ o).2.1]
    exact hjoin
  · rw [(markOwed_frame _ o).2.1]

theorem mem_waiting_callBeacon {x : Owner} (hx : x ≠ .beacon) (p : Part) :
    x ∈ (callBeacon p).lif.waiting ↔ x ∈ p.lif.waiting := by
  unfold callBeacon
  (repeat' split)
  · exact mem_waiting_pushTelegram hx p
  · rfl
  · rfl
  · rfl

/-! ## The view of an area that is gained (R95) -/

/-- The mark of a SYNC-REQUEST once one that is owed is dropped (R105). -/
def SyncMark.unowed (m : SyncMark) : SyncMark := if m = .owed then .none else m

theorem SyncMark.unowed_unowed (m : SyncMark) : m.unowed.unowed = m.unowed := by cases m <;> rfl

/-- The view of a held area as its gain records it. -/
def View.gained (v : View) : View :=
  { noHolder v with
    relinquished := false, startup := false, mismatch := 0, resync := 0, syncMark := v.syncMark.unowed, role := .hold }

theorem view_dropOwedSync (a : Area) (p : Part) (b : Area) : view (dropOwedSync a p) b =
    if b = a then { view p a with mismatch := 0, resync := 0, syncMark := (view p a).syncMark.unowed } else view p b := by
  have hview : view (dropOwedSync a p) b = view (modView a (fun v =>
    { v with mismatch := 0, resync := 0, syncMark := match v.syncMark with | .owed => .none | m => m }) p) b := rfl
  rw [hview, view_modView]
  split
  · cases hm : (view p a).syncMark <;> simp [SyncMark.unowed]
  · rfl

theorem view_gainArea_self (a : Area) (p : Part) : view (gainArea a p) a = (view p a).gained := by
  obtain ⟨hviews, -⟩ := gainArea_rest a p
  rw [hviews, view_changeRole, if_pos rfl, viewCleared, view_dropOwedSync, if_pos rfl, view_modView_self]
  rfl

theorem view_gainArea_other (h : b ≠ a) (p : Part) : view (gainArea a p) b = view p b := (view_gainArea a p).1 b h

theorem mem_waiting_gainArea {x : Owner} (hx : x ≠ .beacon) (h : x ∉ p.lif.waiting) (a : Area) :
    x ∉ (gainArea a p).lif.waiting := by
  have hcleared : x ∉ (viewCleared a p).lif.waiting := fun hmem => h (List.mem_of_mem_filter hmem)
  have hrole : x ∉ (callBeacon (changeRole a .hold (viewCleared a p))).lif.waiting := by
    rw [mem_waiting_callBeacon hx, (changeRole_frame _ a .hold).2.1]
    exact hcleared
  rw [gainArea_eq]
  split
  · exact hrole
  · rwa [(startGrace_frame _).2.1]

/-! ## A claim (R103) -/

/-- CLAIMED, for an area. -/
def claimedEvent (n : Seconds) (a : Area) : Event := { kind := .claimed, time := n, area := some a }

theorem canClaim_congr (hs : q.stc = p.stc) (hu : q.ssu = p.ssu) (hh : q.hou = p.hou) (ho : orphaned q a = orphaned p a)
    (hr : (view q a).relinquished = (view p a).relinquished) (hd : (view q a).claimDelay = (view p a).claimDelay) :
    canClaim q a = canClaim p a := by
  have hmay : mayHold q a = mayHold p a := by
    unfold mayHold sessionOperator operatorMayHold
    rw [hs, hu]
  unfold canClaim running inHome inStandby receptionFor
  rw [hs, hh, ho, hr, hd, hmay]

theorem orphaned_of_canClaim (h : canClaim p a = true) : orphaned p a = true := by
  simp only [canClaim, Bool.and_eq_true] at h
  obtain ⟨⟨⟨⟨⟨horphaned, -⟩, -⟩, -⟩, -⟩, -⟩ := h
  exact horphaned

theorem claimArea_hou (p : Part) (a : Area) : (claimArea p a).hou = p.hou := (claims_claimArea p a).hou

theorem view_claimArea_other (h : b ≠ a) (p : Part) : view (claimArea p a) b = view p b := by
  unfold claimArea
  split
  · exact view_gainArea_other h p
  · rfl

theorem canClaim_claimArea_other (h : b ≠ a) (p : Part) : canClaim (claimArea p a) b = canClaim p b := by
  have hview := view_claimArea_other h p
  obtain ⟨hstc, -, -, hssu⟩ := claimArea_frame p a
  exact canClaim_congr hstc hssu (claimArea_hou p a) (orphaned_of_view hview) (by rw [hview]) (by rw [hview])

theorem holds_claimArea_self (p : Part) (a : Area) : holds (claimArea p a) a = (holds p a || canClaim p a) := by
  unfold claimArea
  split
  · next h =>
    have hheld : holds (gainArea a p) a = true := (view_gainArea a p).2.1
    rw [h, Bool.or_true]
    exact hheld
  · next h =>
    rw [Bool.not_eq_true] at h
    rw [h, Bool.or_false]

theorem claimArea_idle (h : canClaim p a = false) : claimArea p a = p := by rw [claimArea, h]; rfl

/-- What judging the claims of some areas, each once, comes to. -/
theorem foldl_claimArea (l : List Area) (hl : l.Nodup) (p : Part) :
    (∀ a, holds (l.foldl claimArea p) a = (holds p a || (decide (a ∈ l) && canClaim p a))) ∧
    (p.cnp.events.length + (l.filter (canClaim p)).length ≤ 64 →
      (l.foldl claimArea p).cnp.events = p.cnp.events ++ (l.filter (canClaim p)).map (claimedEvent p.stc.seconds)) := by
  induction l generalizing p with
  | nil => simp
  | cons b l ih =>
    obtain ⟨hb, hl⟩ := List.nodup_cons.1 hl
    obtain ⟨hholds, hevents⟩ := ih hl (claimArea p b)
    have hrest : l.filter (canClaim (claimArea p b)) = l.filter (canClaim p) :=
      List.filter_congr fun a ha => canClaim_claimArea_other (ne_of_mem_of_not_mem ha hb) p
    rw [hrest, (claimArea_frame p b).1] at hevents
    rw [List.foldl_cons]
    refine ⟨fun a => ?_, fun hroom => ?_⟩
    · rw [hholds]
      by_cases hab : a = b
      · rw [hab, holds_claimArea_self]
        simp [hb]
      · rw [canClaim_claimArea_other hab, holds_of_view (view_claimArea_other hab p)]
        simp [hab]
    · cases hc : canClaim p b with
      | false =>
        rw [List.filter_cons_of_neg (by simp [hc])] at hroom ⊢
        rw [claimArea_idle hc] at hevents ⊢
        exact hevents hroom
      | true =>
        rw [List.filter_cons_of_pos hc, List.length_cons] at hroom
        rw [List.filter_cons_of_pos hc, List.map_cons]
        have hone : (claimArea p b).cnp.events = p.cnp.events ++ [claimedEvent p.stc.seconds b] := by
          rw [claimArea, hc, if_pos rfl, produce_cnp, (gainArea_rest b p).2.2.2, storing_events (by omega)]
          simp [claimedEvent, now]
        rw [hevents (by rw [hone, List.length_append, List.length_singleton]; omega), hone, List.append_assoc]
        rfl

theorem mem_allAreas (a : Area) : a ∈ allAreas := List.mem_finRange a

theorem nodup_allAreas : allAreas.Nodup := List.nodup_finRange 16

theorem holds_judgeClaims (p : Part) (a : Area) : holds (judgeClaims p) a = (holds p a || canClaim p a) := by
  unfold judgeClaims
  rw [(foldl_claimArea allAreas nodup_allAreas p).1 a, decide_eq_true (mem_allAreas a), Bool.true_and]

theorem events_judgeClaims (h : p.cnp.events.length + (allAreas.filter (canClaim p)).length ≤ 64) :
    (judgeClaims p).cnp.events = p.cnp.events ++ (allAreas.filter (canClaim p)).map (claimedEvent p.stc.seconds) := by
  unfold judgeClaims
  exact (foldl_claimArea allAreas nodup_allAreas p).2 h

theorem judgeClaims_idle (h : running p = false) : judgeClaims p = p := by
  have hnone : ∀ a, claimArea p a = p := fun a => claimArea_idle (by simp [canClaim, h])
  have hlist : ∀ l : List Area, l.foldl claimArea p = p := fun l => by
    induction l with
    | nil => rfl
    | cons a l ih => rw [List.foldl_cons, hnone, ih]
  unfold judgeClaims
  exact hlist allAreas

/-- Claims leave an area's view as it is, or gain the area. -/
theorem view_judgeClaims (p : Part) (a : Area) :
    view (judgeClaims p) a = view p a ∨ view (judgeClaims p) a = (view p a).gained := by
  have hstep : ∀ (q : Part) (b : Area), (view q a = view p a ∨ (view q a = (view p a).gained ∧ holds q a = true)) →
      (view (claimArea q b) a = view p a ∨ (view (claimArea q b) a = (view p a).gained ∧ holds (claimArea q b) a = true)) := by
    intro q b h
    by_cases hb : a = b
    · cases hc : canClaim q b with
      | false => rwa [claimArea_idle hc]
      | true =>
        have hnot := not_holds_of_orphaned (orphaned_of_canClaim hc)
        rw [← hb] at hnot hc ⊢
        refine .inr ⟨?_, by rw [holds_claimArea_self, hc, Bool.or_true]⟩
        rcases h with h | ⟨-, hheld⟩
        · rw [claimArea, hc, if_pos rfl]
          exact (view_gainArea_self a q).trans (by rw [h])
        · rw [hnot] at hheld
          cases hheld
    · rw [view_claimArea_other hb, holds_of_view (view_claimArea_other hb q)]
      exact h
  rcases foldl_keeps (P := fun q => view q a = view p a ∨ (view q a = (view p a).gained ∧ holds q a = true)) hstep (.inl rfl)
    allAreas with h | ⟨h, -⟩
  · exact .inl h
  · exact .inr h

theorem mem_waiting_judgeClaims {x : Owner} (hx : x ≠ .beacon) (h : x ∉ p.lif.waiting) :
    x ∉ (judgeClaims p).lif.waiting := by
  unfold judgeClaims
  refine foldl_keeps (P := fun q => x ∉ q.lif.waiting) (fun q a hq => ?_) h allAreas
  unfold claimArea
  split
  · exact mem_waiting_gainArea hx hq a
  · exact hq

end Sys2Proof.Machine
end


section
/-! PROOFS. The demands of an area that becomes annunciated (R44, R47): what the roles and the claims leave of them. -/

namespace Sys2Proof.Machine

variable {p q r : Part} {a b : Area}

/-- Some entry of the area sounds for the level. -/
def areaSounds (p : Part) (a : Area) (l : Level) : Prop := ∃ e ∈ p.atu.table, e.area = a ∧ sounds p l e

/-- Every demand that the area has something for stands (R47). -/
structure Rung (a : Area) (p : Part) : Prop where
  demand : ∀ l, areaSounds p a l → demandOf p l = true
  trip : annunciated p a = true → emergency p a = true → p.anu.trip = true

/-- An area that is not annunciated sounds for no demand. -/
theorem rung_of_not_annunciated (h : annunciated p a = false) : Rung a p where
  demand := fun l hs => by
    obtain ⟨e, -, he, hann, -⟩ := hs
    rw [he, h] at hann
    cases hann
  trip := fun hann => by rw [h] at hann; cases hann

theorem areaSounds_mono (ha : annunciated q a = annunciated p a) (ht : ∀ e ∈ q.atu.table, e ∈ p.atu.table) {l : Level}
    (h : areaSounds q a l) : areaSounds p a l := by
  obtain ⟨e, hmem, he, hann, hrest⟩ := h
  refine ⟨e, ht e hmem, he, ?_, hrest⟩
  rw [he] at hann ⊢
  rwa [ha] at hann

theorem Rung.of_frame (h : Rung a p) (ha : annunciated q a = annunciated p a) (ht : ∀ e ∈ q.atu.table, e ∈ p.atu.table)
    (hanu : q.anu = p.anu) (he : emergency q a = emergency p a) : Rung a q where
  demand := fun l hs => by
    have hp := h.demand l (areaSounds_mono ha ht hs)
    cases l <;> simpa only [demandOf, hanu] using hp
  trip := by rw [ha, he, hanu]; exact h.trip

/-- A derivation clears no demand that an entry sounds for. -/
theorem Rung.deriveHorn (h : Rung a p) : Rung a (deriveHorn p) where
  demand := fun l hs => by
    have hdemand := h.demand l hs
    obtain ⟨e, hmem, -, hsounds⟩ := hs
    have hheld : demandHeld p l = true := (demandHeld_iff p l).2 ⟨e, hmem, hsounds⟩
    cases l <;> simp_all [demandOf]
  trip := h.trip

theorem demandOf_raiseStanding (p : Part) (a : Area) (l : Level) :
    demandOf (raiseStanding a p) l = (demandOf p l || p.atu.table.any fun e =>
      decide (e.area = a) && alerting e && !e.quiet && decide (levelOf e.priority = l)) := by cases l <;> rfl

/-- The standing demands of an area that becomes annunciated are raised. -/
theorem rung_raiseStanding (a : Area) (p : Part) : Rung a (raiseStanding a p) where
  demand := fun l hs => by
    obtain ⟨e, hmem, he, -, hstate, hquiet, hlevel⟩ := hs
    rw [demandOf_raiseStanding, Bool.or_eq_true, List.any_eq_true]
    exact .inr ⟨e, hmem, by simp [he, alerting, hstate, hquiet, hlevel]⟩
  trip := fun _ he => by
    change (p.anu.trip || emergency p a) = true
    rw [show emergency p a = true from he, Bool.or_true]

theorem Rung.raiseStanding (h : Rung a p) (b : Area) : Rung a (raiseStanding b p) where
  demand := fun l hs => by rw [demandOf_raiseStanding, h.demand l hs, Bool.true_or]
  trip := fun hann he => by
    change (p.anu.trip || emergency p b) = true
    rw [h.trip hann he, Bool.true_or]

/-- A role change raises what the area has, when it makes it annunciated. -/
theorem Rung.changeRole (h : Rung a p) (b : Area) (x : Role) : Rung a (changeRole b x p) := by
  unfold Machine.changeRole
  split
  · exact h
  · refine Rung.deriveHorn ?_
    have hemergency : emergency (modView b (fun v => { v with role := x }) p) a = emergency p a := by
      simp only [emergency, view_modView]
      split
      · next hab => rw [hab]
      · rfl
    by_cases hab : a = b
    · rw [← hab] at hemergency ⊢
      split
      · exact rung_raiseStanding a _
      · next hnot =>
        cases hafter : annunciated (modView a (fun v => { v with role := x }) p) a with
        | false => exact rung_of_not_annunciated hafter
        | true =>
          rw [hafter, Bool.and_true, Bool.not_eq_true, Bool.not_eq_false'] at hnot
          exact h.of_frame (hafter.trans hnot.symm) (fun _ => id) rfl hemergency
    · have hq : Rung a (modView b (fun v => { v with role := x }) p) :=
        h.of_frame (by rw [annunciated, view_modView_other _ _ _ _ hab]; rfl) (fun _ => id) rfl hemergency
      split
      · exact hq.raiseStanding b
      · exact hq

theorem Rung.refreshRoles (h : Rung a p) : Rung a (refreshRoles p) :=
  foldl_keeps (P := Rung a) (fun q b hq => by
    unfold refreshRole
    split
    · exact hq
    · exact hq.changeRole b _) h allAreas

theorem Rung.purgeUnfollowed (h : Rung a p) : Rung a (purgeUnfollowed p) := by
  refine Rung.deriveHorn (h.of_frame rfl (fun e he => ?_) rfl rfl)
  exact List.mem_of_mem_filter he

theorem Rung.settleAreas (h : Rung a p) : Rung a (settleAreas p) := h.refreshRoles.purgeUnfollowed

theorem Rung.gainArea (h : Rung a p) (b : Area) : Rung a (gainArea b p) := by
  have hcleared : Rung a (viewCleared b p) := by
    refine h.of_frame ?_ (fun e he => by simpa [viewCleared] using he) (by simp [viewCleared]) ?_
    · rw [annunciated, annunciated, (view_viewCleared b p a).2.1]
    · rw [emergency, viewCleared, view_dropOwedSync]
      split
      · next hab => rw [hab, view_modView_self]; rfl
      · next hab => rw [view_modView_other _ _ _ _ hab]; rfl
  have hrole := hcleared.changeRole b .hold
  obtain ⟨hviews, hanu, -⟩ := gainArea_rest b p
  refine hrole.of_frame ?_ (fun e he => ?_) hanu ?_
  · rw [annunciated, annunciated, hviews]
  · simpa [viewCleared] using he
  · rw [emergency, emergency, hviews]

theorem Rung.judgeClaims (h : Rung a p) : Rung a (judgeClaims p) := by
  refine foldl_keeps (P := Rung a) (fun q b hq => ?_) h allAreas
  unfold claimArea
  split
  · exact (hq.gainArea b).of_frame rfl (fun e he => by simpa using he) (by simp) rfl
  · exact hq

end Sys2Proof.Machine
end


section
/-! PROOFS. Aged holders, unheard stations and claim delays that run out (R93, R101, R102, R103). -/

namespace Sys2Proof.Machine

variable {p q r : Part} {a b : Area}

/-! ## The roles settled (R94) -/

/-- The view with another role. -/
def View.withRole (x : Role) (v : View) : View := { v with role := x }

/-- Roles derived afresh change nothing of a view but its role. -/
theorem view_settleAreas (p : Part) (a : Area) : ∃ x, view (settleAreas p) a = (view p a).withRole x := by
  rw [settleAreas, view_purgeUnfollowed]
  refine foldl_keeps (P := fun q => ∃ x, view q a = (view p a).withRole x) (fun q b h => ?_) ⟨_, rfl⟩ allAreas
  obtain ⟨x, hx⟩ := h
  rw [view_refreshRole]
  split
  · next h => exact ⟨unheldRole q b, by rw [← h.1, hx]; rfl⟩
  · exact ⟨x, hx⟩

theorem holds_settleAreas (p : Part) (a : Area) : holds (settleAreas p) a = holds p a := by
  rw [settleAreas, holds_of_view (view_purgeUnfollowed _ a), holds_refreshRoles]

theorem canClaim_settleAreas (p : Part) (a : Area) : canClaim (settleAreas p) a = canClaim p a := by
  obtain ⟨x, hx⟩ := view_settleAreas p a
  obtain ⟨hstc, -, hssu, hhou, -⟩ := settleAreas_frame p
  refine canClaim_congr hstc hssu hhou ?_ (by rw [hx]; rfl) (by rw [hx]; rfl)
  rw [orphaned, orphaned, holds_settleAreas, hx]
  rfl

/-! ## A holder forgotten (R101) -/

/-- A view whose holder is forgotten, with a fresh claim delay. -/
def View.forgotten (n : Nat) (v : View) : View :=
  { noHolder v with mismatch := 0, resync := 0, syncMark := v.syncMark.unowed, claimDelay := n }

theorem view_clearHolder (a : Area) (p : Part) (b : Area) : view (clearHolder a p) b =
    if b = a then (view p a).forgotten (view p a).claimDelay else view p b := by
  rw [clearHolder, view_dropOwedSync]
  split
  · rw [view_modView_self]; rfl
  · next h => rw [view_modView_other _ _ _ _ h]

/-- The area without its holder, its claim delay started. -/
def orphanedPart (a : Area) (p : Part) : Part := startClaimDelay a (clearHolder a p)

theorem view_orphanedPart (h : holds p a = false) (b : Area) : view (orphanedPart a p) b =
    if b = a then (view p a).forgotten (3 * ownPeriod p) else view p b := by
  have hholds : holds (clearHolder a p) a = false := by
    rw [← h, holds, view_clearHolder, if_pos rfl]; rfl
  have horphaned : orphaned (clearHolder a p) a = true := by
    rw [orphaned, hholds, view_clearHolder, if_pos rfl]; rfl
  rw [orphanedPart, startClaimDelay, if_pos horphaned, view_modView, view_clearHolder, view_clearHolder, if_pos rfl]
  split
  · rw [ownPeriod, (clearHolder_frame p a).1]; rfl
  · rfl

/-- What is settled and claimed when a holder is forgotten: the area orphaned, HOLDER-LOST stored when it is followed. -/
def forgottenPart (a : Area) (p : Part) : Part :=
  if followed p a then produce { kind := .holderLost, area := some a, station := some (view p a).holder, reason := some .aged }
    (orphanedPart a p)
  else orphanedPart a p

theorem forgetHolder_eq (a : Area) (p : Part) : forgetHolder a p = judgeClaims (settleAreas (forgottenPart a p)) := rfl

theorem forgottenPart_frame (a : Area) (p : Part) :
    (∀ b, view (forgottenPart a p) b = view (orphanedPart a p) b) ∧ (forgottenPart a p).stc = p.stc ∧
      (forgottenPart a p).atu = p.atu ∧ (forgottenPart a p).anu = p.anu ∧ (forgottenPart a p).ssu = p.ssu ∧
      (forgottenPart a p).hou = p.hou ∧ (forgottenPart a p).lif = (clearHolder a p).lif := by
  unfold forgottenPart
  split <;> simp [orphanedPart, view]

theorem view_forgottenPart (h : holds p a = false) (b : Area) : view (forgottenPart a p) b =
    if b = a then (view p a).forgotten (3 * ownPeriod p) else view p b := by
  rw [(forgottenPart_frame a p).1, view_orphanedPart h]

theorem holds_forgottenPart (h : holds p a = false) (b : Area) : holds (forgottenPart a p) b = holds p b := by
  rw [holds, view_forgottenPart h]
  split
  · next hb => rw [hb]; rfl
  · rfl

/-- The view of the area once its holder is forgotten, whether or not a claim has gained it. -/
theorem view_forgetHolder (h : holds p a = false) :
    holderCleared (view (forgetHolder a p) a) ∧ (view (forgetHolder a p) a).mismatch = 0 ∧
      (view (forgetHolder a p) a).resync = 0 ∧ (view (forgetHolder a p) a).syncMark = (view p a).syncMark.unowed ∧
      (view (forgetHolder a p) a).claimDelay = 3 * ownPeriod p := by
  obtain ⟨x, hx⟩ := view_settleAreas (forgottenPart a p) a
  rw [view_forgottenPart h, if_pos rfl] at hx
  rw [forgetHolder_eq]
  rcases view_judgeClaims (settleAreas (forgottenPart a p)) a with hv | hv <;> rw [hv, hx]
  · exact ⟨⟨rfl, rfl, rfl, rfl, rfl, rfl, rfl, rfl, rfl⟩, rfl, rfl, rfl, rfl⟩
  · exact ⟨⟨rfl, rfl, rfl, rfl, rfl, rfl, rfl, rfl, rfl⟩, rfl, rfl, SyncMark.unowed_unowed _, rfl⟩

theorem syncRequest_not_waiting (a : Area) (p : Part) : .syncRequest a ∉ (forgetHolder a p).lif.waiting := by
  rw [forgetHolder_eq]
  refine mem_waiting_judgeClaims nofun ?_
  rw [(settleAreas_frame _).2.1, (forgottenPart_frame a p).2.2.2.2.2.2]
  change _ ∉ p.lif.waiting.filter _
  simp

theorem rung_forgetHolder (h : holds p a = false) (hann : annunciated p a = false) : Rung a (forgetHolder a p) := by
  have hnot : annunciated (forgottenPart a p) a = false := by
    rw [annunciated, view_forgottenPart h, if_pos rfl, ← hann]; rfl
  rw [forgetHolder_eq]
  exact (rung_of_not_annunciated hnot).settleAreas.judgeClaims

/-- HOLDER-LOST comes first when the area is followed. -/
theorem events_forgottenPart (hf : followed p a = true) (hroom : p.cnp.events.length < 64) :
    p.cnp.events ++ [{ kind := .holderLost, time := p.stc.seconds, area := some a, station := some (view p a).holder,
                       reason := some .aged }] <+: (forgottenPart a p).cnp.events := by
  have hcnp : (orphanedPart a p).cnp = p.cnp := by simp [orphanedPart]
  have hnow : now (orphanedPart a p) = p.stc.seconds := by simp [now, orphanedPart]
  rw [forgottenPart, if_pos hf, produce_cnp, hcnp, storing_events hroom, hnow]

theorem emergency_forgetHolder (h : holds p a = false) : emergency (forgetHolder a p) a = emergency p a := by
  rw [forgetHolder_eq, (settles_judgeClaims _).emergency, (settles_settleAreas _).emergency, emergency, view_forgottenPart h,
    if_pos rfl]
  rfl

theorem logGrows_claims (p : Part) : LogGrows p (judgeClaims (settleAreas p)) :=
  ((settles_settleAreas p).trans (settles_judgeClaims _)).log

/-- A home area that the session may hold is claimed as soon as its holder is forgotten. -/
theorem holds_forgetHolder (h : holds p a = false) (hhome : inHome p a = true) (hnot : (view p a).relinquished = false)
    (hrun : running p = true) (hmay : mayHold p a = true) (hrec : receptionFor p a = none) :
    holds (forgetHolder a p) a = true := by
  obtain ⟨-, hstc, -, -, hssu, hhou, -⟩ := forgottenPart_frame a p
  have hview := view_forgottenPart h a
  rw [if_pos rfl] at hview
  have hcan : canClaim (forgottenPart a p) a = true := by
    have horphaned : orphaned (forgottenPart a p) a = true := by
      rw [orphaned, holds_forgottenPart h, h, hview]; rfl
    have hhome' : inHome (forgottenPart a p) a = true := by rw [inHome, hstc]; exact hhome
    have hrun' : running (forgottenPart a p) = true := by rw [running, hstc]; exact hrun
    have hmay' : mayHold (forgottenPart a p) a = true := by
      unfold mayHold sessionOperator operatorMayHold at hmay ⊢
      rwa [hstc, hssu]
    have hrec' : receptionFor (forgottenPart a p) a = none := by
      unfold receptionFor at hrec ⊢
      rwa [hhou]
    have hrel : (view (forgottenPart a p) a).relinquished = false := by rw [hview]; exact hnot
    simp [canClaim, horphaned, hhome', hrun', hmay', hrec', hrel]
  rw [forgetHolder_eq, holds_judgeClaims, canClaim_settleAreas, hcan, Bool.or_true]

/-! ## A claim delay that runs out (R102) -/

/-- The area's claim delay at 0. -/
def delayRun (a : Area) (p : Part) : Part := modView a (fun v => { v with claimDelay := 0 }) p

theorem exec_claimDelayRun {s : State} (hl : listening s.part = true) (ho : orphaned s.part a = true)
    (hd : (view s.part a).claimDelay ≤ 1) :
    exec (.claimDelayRun a) s = .next (s.withPart (judgeClaims (delayRun a s.part))) := by
  change Host.Outcome.next (s.withPart (claimRun a s.part)) = _
  rw [claimRun, if_pos ⟨hl, ho, hd⟩]
  rfl

theorem holds_delayRun (p : Part) (a b : Area) : holds (delayRun a p) b = holds p b := by
  rw [holds, delayRun, view_modView]
  split
  · next h => rw [h]; rfl
  · rfl

theorem view_delayRun (a : Area) (p : Part) : view (delayRun a p) a = { view p a with claimDelay := 0 } :=
  view_modView_self ..

theorem canClaim_delayRun (horphaned : orphaned p a = true) (hrun : running p = true) (hmay : mayHold p a = true)
    (hset : inStandby p a = true ∨ inHome p a = true) (hnot : (view p a).relinquished = false)
    (hrec : receptionFor p a = none) : canClaim (delayRun a p) a = true := by
  have hview := view_delayRun a p
  have horphaned' : orphaned (delayRun a p) a = true := by
    rw [orphaned, holds_delayRun, hview]; exact horphaned
  have hrel : (view (delayRun a p) a).relinquished = false := by rw [hview]; exact hnot
  have hdelay : (view (delayRun a p) a).claimDelay = 0 := by rw [hview]
  have hrun' : running (delayRun a p) = true := hrun
  have hmay' : mayHold (delayRun a p) a = true := hmay
  have hrec' : receptionFor (delayRun a p) a = none := hrec
  have hset' : (inHome (delayRun a p) a || inStandby (delayRun a p) a) = true := by
    rw [Bool.or_eq_true]
    exact hset.symm
  simp [canClaim, horphaned', hrun', hmay', hrec', hrel, hdelay, hset']

theorem holder_claimRun (h : orphaned p a = true) : (view (judgeClaims (delayRun a p)) a).holder = 0 := by
  have hnone : (view p a).holder = 0 := of_decide_eq_true (Bool.and_eq_true_iff.1 h).1
  rcases view_judgeClaims (delayRun a p) a with hv | hv <;> rw [hv, view_delayRun]
  · exact hnone
  · rfl

theorem rung_claimRun (h : annunciated p a = false) : Rung a (judgeClaims (delayRun a p)) := by
  refine (rung_of_not_annunciated (p := delayRun a p) ?_).judgeClaims
  rw [annunciated, view_delayRun, ← h]
  rfl

/-- A claim's event is stored when no event was waiting: sixteen areas make no more than sixteen of them. -/
theorem claimed_of_canClaim (h : canClaim p a = true) (hempty : p.cnp.events = []) :
    claimedEvent p.stc.seconds a ∈ (judgeClaims p).cnp.events := by
  have hfew : (allAreas.filter (canClaim p)).length ≤ allAreas.length := List.length_filter_le ..
  have hsixteen : allAreas.length = 16 := by simp only [allAreas, List.length_finRange]
  rw [events_judgeClaims (by rw [hempty, List.length_nil]; omega), hempty, List.nil_append]
  exact List.mem_map_of_mem (List.mem_filter.2 ⟨mem_allAreas a, h⟩)

end Sys2Proof.Machine

open Sys2Proof.Machine in
/-- Settles O44: every operation between the forgotten holder and the claims keeps the demands of an area that it makes
annunciated, and each area's claim rests on that area's view alone. -/
theorem silentHolderAndRunDelay : Obligations.SilentHolderAndRunDelay := by
  unfold Obligations.SilentHolderAndRunDelay
  refine ⟨⟨fun s a hlisten hnot hholder hage => ?_, fun s x h hlisten hheard hage => ?_⟩,
    fun s a hlisten horphaned hdelay => ⟨fun hrun => ?_, fun hrun hmay hset hrel hrec => ?_⟩⟩
  · have hexec : exec (.holderAged a) s = .next (s.withPart (forgetHolder a s.part)) := by
      change Host.Outcome.next (s.withPart (holderRun a s.part)) = _
      rw [holderRun, if_pos ⟨hlisten, hholder, hage⟩]
    obtain ⟨-, hstc, hatu, -, hssu, hhou, -⟩ := forgottenPart_frame a s.part
    obtain ⟨hsstc, -, hsssu, hshou, -⟩ := settleAreas_frame (forgottenPart a s.part)
    have hclaims := claims_judgeClaims (settleAreas (forgottenPart a s.part))
    obtain ⟨-, -, -, hcssu⟩ := judgeClaims_frame (settleAreas (forgottenPart a s.part))
    obtain ⟨hcleared, hmismatch, hresync, hmark, hclaim⟩ := view_forgetHolder hnot
    refine ⟨_, hexec, withPart_pending .., ?_⟩
    simp only [withPart_part]
    refine ⟨hclaims.stc.trans (hsstc.trans hstc),
      hcssu.trans (hsssu.trans hssu), hclaims.hou.trans (hshou.trans hhou), hcleared, hmismatch, hresync,
      hmark, syncRequest_not_waiting a s.part, fun hfollowed hroom => ?_, fun hann hheld => ?_, fun _ => ?_,
      fun hhome hrel hrun hmay hrec => holds_forgetHolder hnot hhome hrel hrun hmay hrec⟩
    · rw [forgetHolder_eq]
      exact (events_forgottenPart hfollowed hroom).trans (logGrows_claims (forgottenPart a s.part))
    · have hrung := rung_forgetHolder hnot hann
      exact ⟨hrung.demand .urgent, hrung.demand .routine, fun he => hrung.trip (annunciated_of_holds hheld) (by
        rw [emergency_forgetHolder hnot, he])⟩
    · exact hclaim
  · change Host.Outcome.next (s.withPart (stationRun x s.part)) = _
    rw [stationRun, hheard]
    simp only
    rw [if_pos ⟨hlisten, hage⟩]
    rfl
  · have hidle : running (delayRun a s.part) = false := hrun
    rw [exec_claimDelayRun hlisten horphaned hdelay, judgeClaims_idle hidle]
    rfl
  · have hcan := canClaim_delayRun horphaned hrun hmay hset hrel hrec
    have hexec := exec_claimDelayRun hlisten horphaned hdelay
    have hclaims := claims_judgeClaims (delayRun a s.part)
    obtain ⟨-, -, -, hssu⟩ := judgeClaims_frame (delayRun a s.part)
    have hheld : holds (judgeClaims (delayRun a s.part)) a = true := by
      rw [holds_judgeClaims, hcan, Bool.or_true]
    refine ⟨_, hexec, withPart_pending .., ?_⟩
    simp only [withPart_part]
    refine ⟨hclaims.stc, hclaims.atu, hssu, hclaims.hou, hheld,
      holder_claimRun horphaned, fun hann => ?_, fun hempty => ?_⟩
    · have hrung := rung_claimRun hann
      have hatu : (judgeClaims (delayRun a s.part)).atu.table = s.part.atu.table := by rw [hclaims.atu]; rfl
      refine ⟨fun h => hrung.demand .urgent ?_, fun h => hrung.demand .routine ?_, fun he => ?_⟩
      · unfold areaSounds; rwa [hatu]
      · unfold areaSounds; rwa [hatu]
      · refine hrung.trip (annunciated_of_holds hheld) ?_
        rw [(settles_judgeClaims _).emergency, emergency, view_delayRun]
        exact he
    · have hnone : (delayRun a s.part).cnp.events = [] := hempty
      exact claimed_of_canClaim hcan hnone

end


section
/-! PROOFS. The slots of the queue (R153): what telegrams that enter it leave of those already there. -/

namespace Sys2Proof.Machine

variable {p q r : Part} {m n : Nat}

/-- At most `n` telegrams have entered the queue, and none has left it. -/
structure Places (n : Nat) (p q : Part) : Prop where
  kept : ∀ k y, p.lif.slots.get k = some y → q.lif.slots.get k = some y
  few : occupied q ≤ occupied p + n

theorem occupied_congr (h : q.lif.slots = p.lif.slots) : occupied q = occupied p := by unfold occupied; rw [h]

theorem places_of_slots (h : q.lif.slots = p.lif.slots) : Places n p q :=
  ⟨fun k y hy => by rw [h, hy], by rw [occupied_congr h]; exact Nat.le_add_right ..⟩

theorem Places.refl (p : Part) : Places n p p := places_of_slots rfl

theorem Places.trans (h : Places m p q) (k : Places n q r) : Places (m + n) p r where
  kept := fun i y hy => k.kept i y (h.kept i y hy)
  few := by
    have hfirst := h.few
    have hsecond := k.few
    omega

theorem Places.mono (h : Places m p q) (hle : m ≤ n) : Places n p q :=
  ⟨h.kept, h.few.trans (Nat.add_le_add_left hle _)⟩

theorem occupied_le (p : Part) : occupied p ≤ 12 := by
  have h : occupied p ≤ (List.finRange 12).length := List.countP_le_length
  rwa [List.length_finRange] at h

theorem Places.le (h : Places n p q) : occupied p ≤ occupied q := by
  refine List.countP_mono_left fun k _ hk => ?_
  obtain ⟨y, hy⟩ := Option.isSome_iff_exists.1 hk
  rw [h.kept k y hy]
  rfl

/-- A full queue stays full. -/
theorem Places.full (h : Places n p q) (hp : occupied p = 12) : occupied q = 12 :=
  Nat.le_antisymm (occupied_le q) (hp ▸ h.le)

/-- A slot that holds nothing now held nothing before. -/
theorem Places.free (h : Places n p q) {k : Fin 12} (hk : q.lif.slots.get k = none) : p.lif.slots.get k = none := by
  cases hp : p.lif.slots.get k with
  | none => rfl
  | some y => rw [h.kept k y hp] at hk; cases hk

/-- A count goes up by one at most where the predicate changes at one point. -/
theorem countP_le_succ {α : Type} [DecidableEq α] {f g : α → Bool} {k : α} (h : ∀ x, x ≠ k → g x = f x) {l : List α}
    (hl : l.Nodup) : l.countP g ≤ l.countP f + 1 := by
  induction l with
  | nil => exact Nat.zero_le _
  | cons x l ih =>
    obtain ⟨hx, hl⟩ := List.nodup_cons.1 hl
    rw [List.countP_cons, List.countP_cons]
    by_cases hxk : x = k
    · have hrest : l.countP g = l.countP f := List.countP_congr fun y hy => by
        rw [h y fun he => hx (hxk ▸ he ▸ hy)]
      rw [hrest]
      split <;> split <;> omega
    · rw [h x hxk]
      have := ih hl
      omega

theorem places_placedIn {k : Fin 12} (hk : p.lif.slots.get k = none) (o : Owner) (t : Telegram)
    (hq : q.lif.slots = (placedIn k o t p.lif).slots) : Places 1 p q where
  kept := fun j y hy => by
    rw [hq, placedIn, setAt_get, if_neg (fun h => by rw [h, hk] at hy; cases hy)]
    exact hy
  few := by
    refine countP_le_succ (k := k) (fun j hj => ?_) (List.nodup_finRange 12)
    rw [hq, placedIn, setAt_get, if_neg hj]

theorem not_lt_slotCount (h : occupied p = 12) : ¬occupied p < Config.slotCount := by
  rw [h]; decide

/-- A full queue takes nothing. -/
theorem slots_pushTelegram_full (h : occupied p = 12) (o : Owner) : (pushTelegram o p).lif.slots = p.lif.slots := by
  unfold pushTelegram
  (repeat' split)
  · rfl
  · exact absurd ‹_› (not_lt_slotCount h)
  · rw [(markOwed_frame _ o).2.1]; rfl
  · rw [(markOwed_frame _ o).2.1]

theorem places_pushTelegram (o : Owner) (p : Part) : Places 1 p (pushTelegram o p) := by
  rcases (occupied_le p).lt_or_eq with hroom | hfull
  · cases ht : ownerTelegram p o with
    | none => rw [pushTelegram, ht]; exact .refl p
    | some t =>
      by_cases hmay : ownerMayQueue p o = true
      · obtain ⟨k, hk, hpush⟩ := pushTelegram_entered ht hmay hroom
        exact places_placedIn hk o t (by rw [hpush, (markEntered_frame _ o).2.1]; rfl)
      · rw [pushTelegram, ht]
        simp only [hmay]
        exact places_of_slots (by rw [if_neg Bool.false_ne_true, (markOwed_frame _ o).2.1])
  · exact places_of_slots (slots_pushTelegram_full hfull o)

/-! ## Calls for a beacon (R97) -/

/-- The beacon called for is in the queue or sending, or the queue is full. -/
def BeaconStands (p : Part) : Prop := p.aru.beaconMark ≠ .idle ∨ occupied p = 12

theorem beaconStands_congr (hb : q.aru.beaconMark = p.aru.beaconMark) (hs : q.lif.slots = p.lif.slots) :
    BeaconStands q ↔ BeaconStands p := by
  unfold BeaconStands
  rw [hb, occupied_congr hs]

theorem callBeacon_stands (h : running p = true) : BeaconStands (callBeacon p) := by
  rw [callBeacon, if_pos h]
  cases hb : p.aru.beaconMark with
  | idle =>
    rcases (occupied_le p).lt_or_eq with hroom | hfull
    · have hqueued := callBeacon_idle h hb hroom
      rw [callBeacon, if_pos h, hb] at hqueued
      exact .inl (by simp only [hqueued]; exact nofun)
    · exact .inr ((places_pushTelegram .beacon p).full hfull)
  | queued => exact .inl (by rw [hb]; exact nofun)
  | sending => exact .inl (fun hidle => by cases hb.symm.trans hidle)

/-- While it stands another call puts nothing in the queue. -/
theorem callBeacon_again (h : BeaconStands p) : (callBeacon p).lif.slots = p.lif.slots ∧ BeaconStands (callBeacon p) := by
  unfold callBeacon
  (repeat' split)
  · next hb =>
    have hfull : occupied p = 12 := h.resolve_left fun hne => hne hb
    exact ⟨slots_pushTelegram_full hfull _, .inr ((places_pushTelegram .beacon p).full hfull)⟩
  · exact ⟨rfl, h⟩
  · exact ⟨rfl, h⟩
  · exact ⟨rfl, h⟩

theorem places_callBeacon (p : Part) : Places 1 p (callBeacon p) := by
  unfold callBeacon
  (repeat' split)
  · exact places_pushTelegram ..
  · exact .refl p
  · exact places_of_slots rfl
  · exact .refl p

theorem changeRole_beaconMark (a : Area) (x : Role) (p : Part) : (changeRole a x p).aru.beaconMark = p.aru.beaconMark := by
  unfold changeRole
  split
  · rfl
  · rw [(deriveHorn_frame _).2.2.2.2.2.1]
    split <;> rfl

theorem startGrace_beaconMark (p : Part) : (startGrace p).aru.beaconMark = p.aru.beaconMark := by
  change (if _ then p.aru else _).beaconMark = p.aru.beaconMark
  split <;> rfl

theorem gainArea_again (h : BeaconStands p) (a : Area) :
    (gainArea a p).lif.slots = p.lif.slots ∧ BeaconStands (gainArea a p) := by
  have hrole : BeaconStands (changeRole a .hold (viewCleared a p)) := by
    refine (beaconStands_congr ?_ ?_).2 h
    · rw [changeRole_beaconMark]; rfl
    · rw [(changeRole_frame _ a .hold).2.1]; rfl
  obtain ⟨hslots, hstands⟩ := callBeacon_again hrole
  rw [(changeRole_frame _ a .hold).2.1] at hslots
  rw [gainArea_eq]
  split
  · exact ⟨hslots, hstands⟩
  · exact ⟨hslots, (beaconStands_congr (startGrace_beaconMark _) rfl).2 hstands⟩

/-- Claims put nothing in the queue once the beacon stands. -/
theorem judgeClaims_again (h : BeaconStands p) : (judgeClaims p).lif.slots = p.lif.slots := by
  unfold judgeClaims
  refine (foldl_keeps (P := fun q => q.lif.slots = p.lif.slots ∧ BeaconStands q) (fun q a hq => ?_) ⟨rfl, h⟩ allAreas).1
  obtain ⟨hslots, hstands⟩ := hq
  unfold claimArea
  split
  · obtain ⟨hsame, hagain⟩ := gainArea_again hstands a
    exact ⟨hsame.trans hslots, (beaconStands_congr rfl rfl).2 hagain⟩
  · exact ⟨hslots, hstands⟩

end Sys2Proof.Machine
end


section
/-! PROOFS. The contact inputs as the station enters RUNNING (R58, R60, R174): each is seeded and queues, and leaves the others
alone. -/

namespace Sys2Proof.Machine

variable {p q r : Part} {i j : Fin 8} {x : InputRecord} {m n : Nat}

/-! ## What telegrams leave alone -/

/-- At most `n` telegrams have entered the queue, and their owners' marks have followed. -/
structure Sends (n : Nat) (p q : Part) : Prop where
  places : Places n p q
  queues : Queues p q
  schedule : q.aru.schedule = p.aru.schedule

theorem Sends.refl (p : Part) : Sends 0 p p := ⟨.refl p, .refl p, rfl⟩

theorem Sends.trans (h : Sends m p q) (k : Sends n q r) : Sends (m + n) p r :=
  ⟨h.places.trans k.places, h.queues.trans k.queues, k.schedule.trans h.schedule⟩

theorem sends_foldl {α : Type} {f : Part → α → Part} (hf : ∀ q x, Sends 1 q (f q x)) (l : List α) (p : Part) :
    Sends l.length p (l.foldl f p) := by
  induction l generalizing p with
  | nil => exact .refl p
  | cons x l ih =>
    have h := (hf p x).trans (ih (f p x))
    rwa [Nat.add_comm] at h

theorem schedule_markEntered (o : Owner) (p : Part) : (markEntered o p).aru.schedule = p.aru.schedule := by
  unfold markEntered
  (repeat' split) <;> simp

theorem schedule_markOwed (o : Owner) (p : Part) : (markOwed o p).aru.schedule = p.aru.schedule := by
  unfold markOwed
  split <;> simp

theorem schedule_pushTelegram (o : Owner) (p : Part) : (pushTelegram o p).aru.schedule = p.aru.schedule := by
  have hplaced : ∀ t q, (placeTelegram o t q).aru = q.aru := fun t q => by
    unfold placeTelegram
    split <;> rfl
  unfold pushTelegram
  (repeat' split)
  · rfl
  · rw [schedule_markEntered, hplaced]; rfl
  · exact schedule_markOwed ..
  · exact schedule_markOwed ..

theorem sends_pushTelegram (o : Owner) (p : Part) : Sends 1 p (pushTelegram o p) :=
  ⟨places_pushTelegram o p, queues_pushTelegram o p, schedule_pushTelegram o p⟩

/-! ## One input -/

theorem putInput_self (i : Fin 8) (p : Part) : putInput i (input p i) p = p := modInput_same (g := id) rfl

/-- An ALARM input that is not WAITING has nothing to send. -/
theorem pushInput_silent (hu : (inputConfig p i).use = .alarm) (hx : (input p i).publication ≠ .waiting) :
    pushTelegram (.input i) p = p := by
  have hnone : ownerTelegram p (.input i) = none := by
    simp only [ownerTelegram, inputPayload, hu, hx, false_and, if_false, Option.map_none]
  rw [pushTelegram, hnone]

/-- An input that finds no slot stays as it is. -/
theorem anu_pushInput_full (hfull : occupied p = 12) (i : Fin 8) : (pushTelegram (.input i) p).anu = p.anu := by
  unfold pushTelegram
  (repeat' split)
  · rfl
  · exact absurd ‹_› (not_lt_slotCount hfull)
  · rfl
  · rfl

section
variable (hrun : running p = true) (hu : (inputConfig p i).use = .alarm) (hp : (input p i).publication = .unseeded)
  (hc : (input p i).condition ≠ .unknown)
include hrun hu hp hc

/-- An unseeded input whose pair, once seeded, agrees. -/
theorem inputRunning_settled (hm : inputMatches (seededInput p i (input p i)) = true) :
    inputRunning p i = putInput i { seededInput p i (input p i) with publication := .settled } p := by
  have hseed := seedInput_settled hrun hu hp hc hm
  rw [putInput_self] at hseed
  rw [inputRunning, hseed]
  exact pushInput_silent hu (by rw [input_putInput]; exact nofun)

/-- One whose pair disagrees waits for a slot. -/
theorem seedInput_waits (hm : inputMatches (seededInput p i (input p i)) = false) :
    seedInput p i = awaitInput i (putInput i (seededInput p i (input p i)) p) := by
  have hpair := seedPair_put (i := i) (input p i) p
  rw [putInput_self] at hpair
  rw [seedInput, if_pos ⟨hrun, hu, hp, hc⟩]
  simp only [hpair, input_putInput, hm]
  rfl

theorem inputRunning_queued (hm : inputMatches (seededInput p i (input p i)) = false) (ho : occupied p < 12) :
    ∃ k, p.lif.slots.get k = none ∧
      inputRunning p i = countMerged ((seededInput p i (input p i)).unpublished.toNat - 1)
        (putInput i { seededInput p i (input p i) with publication := .inFlight, unpublished := 0 } { p with
          lif := placedIn k (.input i) (ownTelegram p 0 (publishedNext (inputConfig p i) (seededInput p i (input p i))))
            (leaveWaiting (.input i) p).lif }) := by
  obtain ⟨k, hk, hawait⟩ := awaitInput_queued hu hm hrun ho
  refine ⟨k, hk, ?_⟩
  rw [inputRunning, seedInput_waits hrun hu hp hc hm, hawait]
  refine pushInput_silent hu fun hw => ?_
  have hinput := input_putInput i { seededInput p i (input p i) with publication := .inFlight, unpublished := 0 } { p with
    lif := placedIn k (.input i) (ownTelegram p 0 (publishedNext (inputConfig p i) (seededInput p i (input p i))))
      (leaveWaiting (.input i) p).lif }
  cases (congrArg InputRecord.publication hinput).symm.trans hw

/-- With no slot free it is WAITING, and nothing enters the queue. -/
theorem inputRunning_waiting (hm : inputMatches (seededInput p i (input p i)) = false) (ho : occupied p = 12) :
    input (inputRunning p i) i = { seededInput p i (input p i) with publication := .waiting } ∧
      (inputRunning p i).lif.slots = p.lif.slots := by
  have hwaits : ∀ q, seedInput p i = pushTelegram (.input i) (putInput i q p) → inputRunning p i =
      pushTelegram (.input i) (pushTelegram (.input i) (putInput i q p)) := fun q h => by rw [inputRunning, h]
  have hput : ∀ x, occupied (putInput i x p) = 12 := fun x => ho
  have hfull : ∀ x, occupied (pushTelegram (.input i) (putInput i x p)) = 12 := fun x =>
    (places_pushTelegram (.input i) (putInput i x p)).full (hput x)
  have hseed := seedInput_waits hrun hu hp hc hm
  rw [awaitInput, modInput_putInput] at hseed
  rw [hwaits _ hseed, slots_pushTelegram_full (hfull _), slots_pushTelegram_full (hput _), input,
    anu_pushInput_full (hfull _), anu_pushInput_full (hput _)]
  exact ⟨input_putInput .., rfl⟩

end

/-- A TRIP input that is PENDING is put in the queue (R60). -/
theorem inputRunning_trip (hrun : running p = true) (hu : (inputConfig p i).use = .trip) (ht : (input p i).trip = .pending)
    (ho : occupied p < 12) : ∃ k, p.lif.slots.get k = none ∧
      inputRunning p i = putInput i { input p i with trip := .inFlight } { p with
        lif := placedIn k (.input i) (ownTelegram p 0 (.trip false (areaOfNibble ((inputConfig p i).tripArea.extractLsb' 0 4)) 0))
          (leaveWaiting (.input i) p).lif } := by
  have hseed : seedInput p i = p := seedInput_barred (.inr (.inl (by rw [hu]; exact nofun)))
  obtain ⟨k, hk, hpush⟩ := pushTelegram_input (ownerTelegram_trip hu ht) hrun ho
  rw [putInput_self] at hpush
  exact ⟨k, hk, by rw [inputRunning, hseed, hpush, markEntered_trip (by exact hu)]⟩

theorem inputRunning_tripFull (hu : (inputConfig p i).use = .trip) (ho : occupied p = 12) :
    input (inputRunning p i) i = input p i := by
  have hseed : seedInput p i = p := seedInput_barred (.inr (.inl (by rw [hu]; exact nofun)))
  rw [inputRunning, hseed, input, anu_pushInput_full ho]
  rfl

/-- An input takes one slot at most. -/
theorem places_inputRunning (p : Part) (i : Fin 8) : Places 1 p (inputRunning p i) := by
  by_cases hseeds : running p = true ∧ (inputConfig p i).use = .alarm ∧ (input p i).publication = .unseeded ∧
      (input p i).condition ≠ .unknown
  · obtain ⟨hrun, hu, hp, hc⟩ := hseeds
    cases hm : inputMatches (seededInput p i (input p i)) with
    | true =>
      rw [inputRunning_settled hrun hu hp hc hm]
      exact places_of_slots rfl
    | false =>
      rcases (occupied_le p).lt_or_eq with hroom | hfull
      · obtain ⟨k, hk, heq⟩ := inputRunning_queued hrun hu hp hc hm hroom
        exact places_placedIn hk (.input i)
          (ownTelegram p 0 (publishedNext (inputConfig p i) (seededInput p i (input p i)))) (by rw [heq]; rfl)
      · exact places_of_slots (inputRunning_waiting hrun hu hp hc hm hfull).2
  · rw [inputRunning, seedInput, if_neg hseeds]
    exact places_pushTelegram ..

theorem queues_seedInput (p : Part) (i : Fin 8) : Queues p (seedInput p i) ∧ (seedInput p i).aru.schedule = p.aru.schedule := by
  have hpair : Queues p (seedPair i p) ∧ (seedPair i p).aru = p.aru := by
    unfold seedPair
    split
    · exact ⟨queues_modInput .., rfl⟩
    · exact ⟨.refl p, rfl⟩
  obtain ⟨hqueues, haru⟩ := hpair
  unfold seedInput awaitInput
  simp only
  (repeat' split)
  · exact ⟨hqueues.trans (queues_modInput ..), congrArg Aru.schedule haru⟩
  · refine ⟨(hqueues.trans (queues_modInput ..)).trans (queues_pushTelegram ..), ?_⟩
    rw [schedule_pushTelegram, ← haru]
    rfl
  · exact ⟨.refl p, rfl⟩

theorem sends_inputRunning (p : Part) (i : Fin 8) : Sends 1 p (inputRunning p i) := by
  obtain ⟨hqueues, hschedule⟩ := queues_seedInput p i
  exact ⟨places_inputRunning p i, hqueues.trans (queues_pushTelegram ..), (schedule_pushTelegram ..).trans hschedule⟩

/-- It leaves the other inputs alone. -/
theorem input_inputRunning_other (h : i ≠ j) (p : Part) : input (inputRunning p j) i = input p i :=
  input_of_commutes (fun _ => (commutes_pushInput h).comp (commutes_seedInput h)) p

/-- Each input enters RUNNING behind those of lower number, at most seven, and stays as it then is. -/
theorem inputsRunning_at (p : Part) (i : Fin 8) : ∃ q, Sends 7 p q ∧ input q i = input p i ∧
    Sends 8 (inputRunning q i) ((List.finRange 8).foldl inputRunning p) ∧
    input ((List.finRange 8).foldl inputRunning p) i = input (inputRunning q i) i := by
  obtain ⟨l, m, hlist⟩ := List.append_of_mem (List.mem_finRange i)
  have hnodup := List.nodup_finRange 8
  have hlength : (List.finRange 8).length = 8 := List.length_finRange
  rw [hlist] at hnodup hlength ⊢
  rw [List.length_append, List.length_cons] at hlength
  obtain ⟨-, hrest, hapart⟩ := List.nodup_append.1 hnodup
  have hother : ∀ (l : List (Fin 8)) (q : Part), i ∉ l → input (l.foldl inputRunning q) i = input q i := fun l => by
    induction l with
    | nil => exact fun _ _ => rfl
    | cons j l ih =>
      intro q hi
      rw [List.mem_cons, not_or] at hi
      obtain ⟨hne, hi⟩ := hi
      rw [List.foldl_cons, ih _ hi, input_inputRunning_other hne]
  have hmono : ∀ {a b : Nat} {q r : Part}, Sends a q r → a ≤ b → Sends b q r := fun h hle =>
    { h with places := h.places.mono hle }
  rw [List.foldl_append, List.foldl_cons]
  refine ⟨l.foldl inputRunning p, hmono (sends_foldl sends_inputRunning l p) (by omega), hother l p fun hi => ?_,
    hmono (sends_foldl sends_inputRunning m _) (by omega), hother m _ (List.nodup_cons.1 hrest).1⟩
  exact hapart i hi i List.mem_cons_self rfl

/-! ## The answers that are ready (R117) -/

theorem sends_sendReadyAnswers (p : Part) : Sends p.hou.answers.length p (sendReadyAnswers p) := by
  refine sends_foldl (fun q x => ?_) _ p
  split
  · exact sends_pushTelegram ..
  · exact { places := .refl q, queues := .refl q, schedule := rfl }

theorem anu_pushAnswer (n : Nat) (p : Part) : (pushTelegram (.answer n) p).anu = p.anu := by
  have hplaced : ∀ t q, (placeTelegram (.answer n) t q).anu = q.anu := fun t q => by
    unfold placeTelegram
    split <;> rfl
  unfold pushTelegram
  (repeat' split)
  · rfl
  · exact hplaced ..
  · rfl
  · rfl

theorem anu_sendReadyAnswers (p : Part) : (sendReadyAnswers p).anu = p.anu := by
  refine foldl_anu _ _ (fun q x => ?_) p
  split
  · exact anu_pushAnswer _ q
  · rfl

end Sys2Proof.Machine
end


section
/-! PROOFS. The entry to RUNNING (R111, R174): areas, inputs and answers in turn. -/

namespace Sys2Proof.Machine

variable {p q : Part} {a : Area} {i : Fin 8}

/-! ## Inputs through roles and claims -/

theorem inputs_changeRole (a : Area) (x : Role) (p : Part) : (changeRole a x p).anu.inputs = p.anu.inputs := by
  unfold changeRole
  split
  · rfl
  · rw [inputs_deriveHorn]
    split <;> rfl

theorem inputs_purgeUnfollowed (p : Part) : (purgeUnfollowed p).anu.inputs = p.anu.inputs := rfl

theorem inputs_settleAreas (p : Part) : (settleAreas p).anu.inputs = p.anu.inputs := by
  rw [settleAreas, inputs_purgeUnfollowed, refreshRoles]
  refine foldl_keeps (P := fun q => q.anu.inputs = p.anu.inputs) (fun q a h => ?_) rfl allAreas
  unfold refreshRole
  split
  · exact h
  · exact (inputs_changeRole ..).trans h

theorem inputs_judgeClaims (p : Part) : (judgeClaims p).anu.inputs = p.anu.inputs := by
  rw [judgeClaims]
  refine foldl_keeps (P := fun q => q.anu.inputs = p.anu.inputs) (fun q a h => ?_) rfl allAreas
  unfold claimArea
  split
  · have hgain : (gainArea a q).anu.inputs = q.anu.inputs := by
      rw [(gainArea_rest a q).2.1, inputs_changeRole]
      simp [viewCleared]
    exact hgain.trans h
  · exact h

/-! ## The areas (R102, R103, R111) -/

/-- The station set RUNNING, its start-up requests cleared. -/
def runningSet (p : Part) : Part :=
  modViews (fun v => { v with startup := false }) (modStc (fun c => { c with station := some .running, settle := 0 }) p)

/-- A beacon called for, and the schedule at P (R97). -/
def beaconScheduled (p : Part) : Part := modAru (fun x => { x with schedule := ownPeriod (callBeacon p) }) (callBeacon p)

/-- The roles derived and the beacon called for, before claims are judged (R111). -/
def runningBeacon (p : Part) : Part := beaconScheduled (settleAreas (runningSet p))

/-- Claims judged. -/
def runningAreas (p : Part) : Part := judgeClaims (runningBeacon p)

theorem beaconScheduled_frame (p : Part) :
    (beaconScheduled p).stc = p.stc ∧ (beaconScheduled p).ssu = p.ssu ∧ (beaconScheduled p).hou = p.hou ∧
      (beaconScheduled p).cnp = p.cnp ∧ (beaconScheduled p).anu = p.anu ∧ (∀ a, view (beaconScheduled p) a = view p a) := by
  obtain ⟨hcall, hviews, -⟩ := callBeacon_eq p
  have heq : beaconScheduled p = { p with lif := (beaconScheduled p).lif, aru := (beaconScheduled p).aru } := by
    rw [beaconScheduled, hcall]; rfl
  refine ⟨by rw [heq], by rw [heq], by rw [heq], by rw [heq], by rw [heq], fun a => ?_⟩
  change (callBeacon p).aru.views.get a = _
  rw [hviews]
  rfl

theorem view_runningSet (p : Part) (a : Area) : view (runningSet p) a = { view p a with startup := false } := view_modViews ..

theorem holds_runningSet (p : Part) (a : Area) : holds (runningSet p) a = holds p a := by rw [holds, view_runningSet]; rfl

theorem runningBeacon_frame (p : Part) :
    (runningBeacon p).stc = { p.stc with station := some .running, settle := 0 } ∧ (runningBeacon p).ssu = p.ssu ∧
      (runningBeacon p).hou = p.hou ∧ (runningBeacon p).cnp = p.cnp ∧ (runningBeacon p).anu.inputs = p.anu.inputs := by
  obtain ⟨hstc, -, hssu, hhou, hcnp⟩ := settleAreas_frame (runningSet p)
  obtain ⟨hbstc, hbssu, hbhou, hbcnp, hbanu, -⟩ := beaconScheduled_frame (settleAreas (runningSet p))
  refine ⟨hbstc.trans hstc, hbssu.trans hssu, hbhou.trans hhou, hbcnp.trans hcnp, ?_⟩
  rw [runningBeacon, hbanu, inputs_settleAreas]
  rfl

theorem view_runningBeacon (p : Part) (a : Area) :
    view (runningBeacon p) a = view (settleAreas (runningSet p)) a := (beaconScheduled_frame _).2.2.2.2.2 a

theorem standing_runningBeacon (p : Part) (a : Area) :
    ∃ x, view (runningBeacon p) a = ({ view p a with startup := false } : View).withRole x := by
  obtain ⟨x, hx⟩ := view_settleAreas (runningSet p) a
  exact ⟨x, by rw [view_runningBeacon, hx, view_runningSet]⟩

theorem holds_runningBeacon (p : Part) (a : Area) : holds (runningBeacon p) a = holds p a := by
  rw [holds_of_view (view_runningBeacon p a), holds_settleAreas, holds_runningSet]

theorem canClaim_runningBeacon (p : Part) (a : Area) : canClaim (runningBeacon p) a = claimable p a := by
  obtain ⟨hstc, hssu, hhou, -⟩ := runningBeacon_frame p
  obtain ⟨x, hx⟩ := standing_runningBeacon p a
  have hmay : mayHold (runningBeacon p) a = mayHold p a := by
    unfold mayHold sessionOperator operatorMayHold
    rw [hstc, hssu]
  have hrun : running (runningBeacon p) = true := by rw [running, hstc]; rfl
  unfold canClaim claimable orphaned
  rw [hrun, hmay, holds_runningBeacon, inHome, inStandby, receptionFor, hstc, hhou, hx, Bool.and_true]
  rfl

theorem holds_runningAreas (p : Part) (a : Area) : holds (runningAreas p) a = (holds p a || claimable p a) := by
  rw [runningAreas, holds_judgeClaims, holds_runningBeacon, canClaim_runningBeacon]

theorem runningAreas_stc (p : Part) : (runningAreas p).stc = { p.stc with station := some .running, settle := 0 } := by
  rw [runningAreas, (judgeClaims_frame _).1, (runningBeacon_frame p).1]

theorem startup_runningAreas (p : Part) (a : Area) : (view (runningAreas p) a).startup = false := by
  obtain ⟨x, hx⟩ := standing_runningBeacon p a
  rcases view_judgeClaims (runningBeacon p) a with h | h
  · rw [runningAreas, h, hx]; rfl
  · rw [runningAreas, h]; rfl

theorem schedule_runningAreas (p : Part) : (runningAreas p).aru.schedule = 2 ^ p.stc.settings.periodCode.toNat := by
  obtain ⟨_, _, _, hcounts⟩ := (countsKept_judgeClaims (runningBeacon p)).counts
  have hschedule : (runningAreas p).aru.schedule = (runningBeacon p).aru.schedule := by rw [runningAreas, hcounts]
  have hperiod : ∀ q, (beaconScheduled q).aru.schedule = ownPeriod (callBeacon q) := fun _ => rfl
  rw [hschedule, runningBeacon, hperiod, ownPeriod, (callBeacon_frame _).1, (settleAreas_frame _).1]
  rfl

theorem events_runningAreas (h : p.cnp.events.length + ((List.finRange 16).filter (claimable p)).length ≤ 64) :
    (runningAreas p).cnp.events =
      p.cnp.events ++ ((List.finRange 16).filter (claimable p)).map (claimedEvent p.stc.seconds) := by
  obtain ⟨hstc, -, -, hcnp, -⟩ := runningBeacon_frame p
  have hcan : allAreas.filter (canClaim (runningBeacon p)) = (List.finRange 16).filter (claimable p) :=
    List.filter_congr fun a _ => canClaim_runningBeacon p a
  have hevents := events_judgeClaims (p := runningBeacon p) (by rw [hcan, hcnp]; exact h)
  rw [hcan, hcnp, hstc] at hevents
  rw [runningAreas, hevents]

theorem input_runningAreas (p : Part) (i : Fin 8) : input (runningAreas p) i = input p i := by
  obtain ⟨-, -, -, -, hinputs⟩ := runningBeacon_frame p
  rw [input, runningAreas, inputs_judgeClaims, hinputs, input]

theorem places_beaconScheduled (p : Part) : Places 1 p (beaconScheduled p) :=
  (places_callBeacon p).trans (places_of_slots rfl : Places 0 (callBeacon p) (beaconScheduled p))

theorem beaconScheduled_stands (h : running p = true) : BeaconStands (beaconScheduled p) :=
  (beaconStands_congr rfl rfl).2 (callBeacon_stands h)

theorem places_runningAreas (p : Part) : Places 1 p (runningAreas p) := by
  have hslots : (settleAreas (runningSet p)).lif.slots = p.lif.slots := by rw [(settleAreas_frame _).2.1]; rfl
  have hrun : running (settleAreas (runningSet p)) = true := by rw [running, (settleAreas_frame _).1]; rfl
  have hclaims : (runningAreas p).lif.slots = (runningBeacon p).lif.slots := by
    unfold runningAreas
    exact judgeClaims_again (beaconScheduled_stands hrun)
  have hroles : Places 0 p (settleAreas (runningSet p)) := places_of_slots hslots
  have hjudged : Places 0 (runningBeacon p) (runningAreas p) := places_of_slots hclaims
  exact (hroles.trans (places_beaconScheduled _)).trans hjudged

/-! ## The inputs and the answers (R58, R60, R117) -/

/-- The inputs and the answers that are ready queue behind the beacon. -/
def runningQueued (p : Part) : Part := sendReadyAnswers ((List.finRange 8).foldl inputRunning (runningAreas p))

theorem enterRunning_eq (p : Part) :
    enterRunning p = deriveHorn (produce { kind := .stationState, state := some .running } (runningQueued p)) := rfl

theorem sends_runningQueued (p : Part) : ∃ n, Sends n (runningAreas p) (runningQueued p) :=
  ⟨_, (sends_foldl sends_inputRunning (List.finRange 8) _).trans (sends_sendReadyAnswers _)⟩

end Sys2Proof.Machine
end


section
/-! PROOFS. The contact inputs of a station that has entered RUNNING, and the end of isolation (R58, R60, R174, R175). -/

namespace Sys2Proof.Machine

variable {p q : Part} {a : Area} {i : Fin 8}

/-- The event of a station state changes the log and the horn alone. -/
theorem reported_frame (e : Event) (p : Part) :
    (deriveHorn (produce e p)).stc = p.stc ∧ (deriveHorn (produce e p)).lif = p.lif ∧
      (deriveHorn (produce e p)).atu = p.atu ∧ (deriveHorn (produce e p)).anu.inputs = p.anu.inputs ∧
      (deriveHorn (produce e p)).aru = p.aru ∧ (deriveHorn (produce e p)).cnp = (produce e p).cnp :=
  ⟨rfl, rfl, rfl, rfl, rfl, rfl⟩

/-- The part as input `i` enters RUNNING, and what stands of it when the entry is complete. -/
structure Enters (p : Part) (i : Fin 8) (q : Part) : Prop where
  stc : q.stc = { p.stc with station := some .running, settle := 0 }
  table : q.atu = (enterRunning p).atu
  before : input q i = input p i
  after : input (enterRunning p) i = input (inputRunning q i) i
  free : ∀ k, q.lif.slots.get k = none → p.lif.slots.get k = none
  kept : ∀ k w, (inputRunning q i).lif.slots.get k = some w → (enterRunning p).lif.slots.get k = some w
  room : occupied p ≤ 3 → occupied q < 12
  full : occupied p = 12 → occupied q = 12

/-- Each input enters with room for it when three slots at most were occupied: the beacon and seven inputs come first. -/
theorem exists_enters (p : Part) (i : Fin 8) : ∃ q, Enters p i q := by
  obtain ⟨q, hbefore, hinput, hafter, hsame⟩ := inputsRunning_at (runningAreas p) i
  have hplaces := (places_runningAreas p).trans hbefore.places
  have hanswers := sends_sendReadyAnswers ((List.finRange 8).foldl inputRunning (runningAreas p))
  have hafter' : Sends _ (inputRunning q i) (runningQueued p) := hafter.trans hanswers
  obtain ⟨-, hlif, hatu, hinputs, -⟩ := reported_frame { kind := .stationState, state := some .running } (runningQueued p)
  rw [← enterRunning_eq] at hlif hatu hinputs
  refine ⟨q, hbefore.queues.stc.trans (runningAreas_stc p), ?_, hinput.trans (input_runningAreas p i), ?_,
    fun k hk => hplaces.free hk, fun k w hw => by rw [hlif]; exact hafter'.places.kept k w hw, fun h => ?_, fun h => hplaces.full h⟩
  · have hstep := (sends_inputRunning q i).trans hafter'
    exact (hatu.trans hstep.queues.atu).symm
  · rw [← hsame, input, input, hinputs, runningQueued, anu_sendReadyAnswers]
  · have := hplaces.few
    omega

/-- The telegram of an input entered a slot that was free before. -/
def SentFrom (p q : Part) (i : Fin 8) (z : Payload) : Prop :=
  ∃ k w, p.lif.slots.get k = none ∧ q.lif.slots.get k = some w ∧ w.owner = .input i ∧ w.state = .waiting ∧
    w.telegram = { source := p.stc.number, destination := 0, payload := z }

theorem Enters.sent (h : Enters p i q) {k : Fin 12} (hk : q.lif.slots.get k = none) {z : Payload}
    (hs : (inputRunning q i).lif.slots = (placedIn k (.input i) (ownTelegram q 0 z) (leaveWaiting (.input i) q).lif).slots) :
    SentFrom p (enterRunning p) i z := by
  refine ⟨k, _, h.free k hk, h.kept k _ (by rw [hs]; exact setAt_get_self ..), rfl, rfl, ?_⟩
  rw [ownTelegram, h.stc]

theorem Enters.running (h : Enters p i q) : running q = true := by rw [Machine.running, h.stc]; rfl

theorem Enters.config (h : Enters p i q) : inputConfig q i = inputConfig p i := by rw [inputConfig, h.stc]; rfl

/-- A PENDING trip is sent as soon as there is a slot (R60). -/
theorem trip_enterRunning (hu : (inputConfig p i).use = .trip) (ht : (input p i).trip = .pending) :
    (input (enterRunning p) i).condition = (input p i).condition ∧
      (occupied p ≤ 3 → (input (enterRunning p) i).trip = .inFlight ∧
        SentFrom p (enterRunning p) i (.trip false (areaOfNibble ((inputConfig p i).tripArea.extractLsb' 0 4)) 0)) ∧
      (occupied p = 12 → (input (enterRunning p) i).trip = .pending) := by
  obtain ⟨q, h⟩ := exists_enters p i
  have hu' : (inputConfig q i).use = .trip := by rw [h.config, hu]
  have ht' : (input q i).trip = .pending := by rw [h.before, ht]
  rw [h.after, ← h.before]
  rcases (occupied_le q).lt_or_eq with ho | ho
  · obtain ⟨k, hk, heq⟩ := inputRunning_trip h.running hu' ht' ho
    have hsent := h.sent hk (congrArg (fun u : Part => u.lif.slots) heq)
    rw [h.config] at hsent
    rw [heq, input_putInput]
    exact ⟨rfl, fun _ => ⟨rfl, hsent⟩, fun hfull => absurd (h.full hfull) ho.ne⟩
  · have hsame := inputRunning_tripFull hu' ho
    rw [hsame]
    exact ⟨rfl, fun hroom => absurd ho (h.room hroom).ne, fun _ => ht'⟩

/-- The published pair that an input of configuration `c` is seeded with: the table's, else its own (R58). -/
def pairSeeded (p : Part) (c : InputConfig) (x : InputRecord) : Bool × Occurrence :=
  match findEntry p c.tag with
  | some e => (e.active, e.occurrence)
  | none => (x.published, x.publishedOccurrence)

theorem seededInput_eq (p : Part) (i : Fin 8) (x : InputRecord) : seededInput p i x =
    { x with
      published := (pairSeeded p (inputConfig p i) x).1, publishedOccurrence := (pairSeeded p (inputConfig p i) x).2 } := by
  unfold seededInput pairSeeded
  cases findEntry p (inputConfig p i).tag with
  | none => rfl
  | some e => rfl

/-- An ALARM input that has settled is seeded, and publishes what its pair does not say (R58). -/
theorem enterRunning_alarmInput (hu : (inputConfig p i).use = .alarm) (hc : (input p i).condition ≠ .unknown)
    (hp : (input p i).publication = .unseeded) {pair : Bool × Occurrence}
    (hpair : pair = pairSeeded (enterRunning p) (inputConfig p i) (input p i)) :
    (input (enterRunning p) i).condition = (input p i).condition ∧ (input (enterRunning p) i).published = pair.1 ∧
      (input (enterRunning p) i).publishedOccurrence = pair.2 ∧
      (pair.1 = decide ((input p i).condition = .active) → (input (enterRunning p) i).publication = .settled) ∧
      (pair.1 ≠ decide ((input p i).condition = .active) →
        (occupied p ≤ 3 → (input (enterRunning p) i).publication = .inFlight ∧
          SentFrom p (enterRunning p) i (.condition (inputConfig p i).tag (inputConfig p i).priority (!pair.1)
            (if pair.1 = true then pair.2 else pair.2 + 1))) ∧
        (occupied p = 12 → (input (enterRunning p) i).publication = .waiting)) := by
  obtain ⟨q, h⟩ := exists_enters p i
  have hu' : (inputConfig q i).use = .alarm := by rw [h.config, hu]
  have hc' : (input q i).condition ≠ .unknown := by rw [h.before]; exact hc
  have hp' : (input q i).publication = .unseeded := by rw [h.before, hp]
  have hseed : seededInput q i (input q i) = { input q i with published := pair.1, publishedOccurrence := pair.2 } := by
    have hfind : pairSeeded q (inputConfig q i) (input q i) = pair := by
      rw [hpair, h.config, h.before, pairSeeded, pairSeeded, findEntry, findEntry, h.table]
    rw [seededInput_eq, hfind]
  have hmatch : inputMatches (seededInput q i (input q i)) = (pair.1 == decide ((input p i).condition = .active)) := by
    rw [hseed, ← h.before, inputMatches_eq (by exact hc')]
  rw [h.after, ← h.before]
  rw [← h.before] at hmatch
  by_cases hagree : pair.1 = decide ((input q i).condition = .active)
  · rw [inputRunning_settled h.running hu' hp' hc' (hmatch.trans (beq_iff_eq.2 hagree)), input_putInput, hseed]
    exact ⟨rfl, rfl, rfl, fun _ => rfl, fun hne => absurd hagree hne⟩
  · have hdiffer := hmatch.trans (beq_eq_false_iff_ne.2 hagree)
    rcases (occupied_le q).lt_or_eq with ho | ho
    · obtain ⟨k, hk, heq⟩ := inputRunning_queued h.running hu' hp' hc' hdiffer ho
      have hsent := h.sent hk (congrArg (fun u : Part => u.lif.slots) heq)
      have hnext : publishedNext (inputConfig q i) (seededInput q i (input q i)) = .condition (inputConfig p i).tag
          (inputConfig p i).priority (!pair.1) (if pair.1 = true then pair.2 else pair.2 + 1) := by
        rw [hseed, h.config]; rfl
      rw [hnext] at hsent
      have hinput : input (inputRunning q i) i =
          { seededInput q i (input q i) with publication := .inFlight, unpublished := 0 } := by
        rw [heq]; exact input_putInput ..
      rw [hinput, hseed]
      exact ⟨rfl, rfl, rfl, fun he => absurd he hagree, fun _ =>
        ⟨fun _ => ⟨rfl, hsent⟩, fun hfull => absurd (h.full hfull) ho.ne⟩⟩
    · obtain ⟨hinput, -⟩ := inputRunning_waiting h.running hu' hp' hc' hdiffer ho
      rw [hinput, hseed]
      exact ⟨rfl, rfl, rfl, fun he => absurd he hagree, fun _ =>
        ⟨fun hroom => absurd ho (h.room hroom).ne, fun _ => rfl⟩⟩

/-! ## The event of a station state -/

theorem events_produce {e : Event} (h : p.cnp.events.length < 64) :
    (produce e p).cnp.events = p.cnp.events ++ [{ e with time := now p }] := by
  rw [produce_cnp, storing_events h]

theorem room_of_produce {e : Event} (h : (produce e p).cnp.events.length < 64) : p.cnp.events.length < 64 := by
  by_cases hroom : p.cnp.events.length < 64
  · exact hroom
  · rw [produce_cnp, Cnp.storing, if_neg hroom] at h
    exact absurd h hroom

theorem getLast_produce {e : Event} (h : p.cnp.events.length < 64) :
    (produce e p).cnp.events.getLast? = some { e with time := now p } := by
  rw [events_produce h, List.getLast?_append]
  rfl

theorem claimedEvent_eq (n : Seconds) :
    claimedEvent n = fun a => { kind := .claimed, time := n, area := some a } := rfl

/-! ## The end of isolation (R175) -/

theorem settles_startView (p : Part) (a : Area) : Settles p (startView p a) := by
  unfold startView
  refine settles_modView a (fun v h => ?_) (fun v => ?_) p
  · split
    · exact h
    · exact h
  · split <;> rfl

theorem settles_judgeStartupArea (p : Part) (a : Area) : Settles p (judgeStartupArea p a) := by
  unfold judgeStartupArea issueSync
  simp only
  split
  · have hpush := (queues_pushTelegram (.syncRequest a) p).settles
    have hresync := settles_modView a (f := fun v => { v with resync := Config.resyncSeconds }) (fun _ h => by exact h)
      (fun _ => by rfl) (pushTelegram (.syncRequest a) p)
    exact (hpush.trans hresync).trans
      (settles_modView a (f := fun v => { v with startup := false }) (fun _ h => by exact h) (fun _ => by rfl) _)
  · exact .refl p

theorem settles_aruStarting (p : Part) : Settles p (aruStarting p) := by
  unfold aruStarting judgeStartup
  exact ((settles_foldl settles_startView allAreas p).trans (settles_settleAreas _)).trans
    (settles_ite _ (settles_foldl settles_judgeStartupArea allAreas _) (.refl _))

theorem events_aruStarting (p : Part) : (aruStarting p).cnp.events = p.cnp.events := by
  have hstart : (allAreas.foldl startView p).cnp = p.cnp := foldl_cnp _ _ (fun q a => (startView_frame q a).2.2.2.2.2.2.2) p
  have hjudge : ∀ q, (judgeStartup q).cnp.events = q.cnp.events := fun q => by
    unfold judgeStartup
    split
    · refine foldl_keeps (P := fun r => r.cnp.events = q.cnp.events) (fun r a h => ?_) rfl allAreas
      unfold judgeStartupArea issueSync
      simp only
      split
      · exact (queues_pushTelegram (.syncRequest a) r).events.trans h
      · exact h
    · rfl
  rw [aruStarting, hjudge, (settleAreas_frame _).2.2.2.2, hstart]

end Sys2Proof.Machine

open Sys2Proof.Machine in
/-- Settles O8: the areas by `holds_runningAreas` and `events_runningAreas`, each input by `enterRunning_alarmInput` or
`trip_enterRunning`. -/
theorem settleAndIsolationEnd : Obligations.SettleAndIsolationEnd := by
  refine ⟨fun s hstart hsettle => ?_, fun s hisolated htimer => ?_⟩
  · have hexec : exec .settleEnd s = .next (s.withPart (enterRunning s.part)) := by
      change Host.Outcome.next (s.withPart (settleRun s.part)) = _
      rw [settleRun, if_pos ⟨hstart, hsettle⟩]
    obtain ⟨hstc, -, -, -, haru, hcnp⟩ := reported_frame { kind := .stationState, state := some .running } (runningQueued s.part)
    rw [← enterRunning_eq] at hstc haru hcnp
    obtain ⟨n, hsends⟩ := sends_runningQueued s.part
    have hsame : (runningQueued s.part).stc = { s.part.stc with station := some .running, settle := 0 } :=
      hsends.queues.stc.trans (runningAreas_stc s.part)
    have hnow : now (runningQueued s.part) = s.part.stc.seconds := by rw [now, hsame]
    have hview : ∀ a, ∃ m, view (enterRunning s.part) a = { view (runningAreas s.part) a with syncMark := m } := fun a => by
      obtain ⟨m, hm⟩ := hsends.queues.views a
      exact ⟨m, by rw [← hm, view, view, haru]⟩
    refine ⟨_, hexec, withPart_pending .., ?_⟩
    simp only [withPart_part]
    refine ⟨hstc.trans hsame, ?_, fun a => ?_, fun hroom => ?_, fun a => ?_, fun hroom => ?_, fun i => ⟨fun hu hc hp => ?_,
      trip_enterRunning⟩⟩
    · rw [haru, hsends.schedule, schedule_runningAreas]
    · obtain ⟨m, hm⟩ := hview a
      rw [hm, ← startup_runningAreas s.part a]
    · rw [hcnp] at hroom ⊢
      rw [getLast_produce (room_of_produce hroom), hnow]
    · obtain ⟨m, hm⟩ := hview a
      rw [← holds_runningAreas]
      exact holds_of_role (by rw [hm])
    · have hevents := events_runningAreas (p := s.part) (by omega)
      have hqueued := hsends.queues.events.trans hevents
      rw [hcnp, events_produce (by rw [hqueued, List.length_append, List.length_map]; exact hroom), hqueued, hnow,
        claimedEvent_eq]
    · have halarm := fun pair => enterRunning_alarmInput (pair := pair) hu hc hp
      generalize enterRunning s.part = u at halarm ⊢
      exact halarm _ rfl
  · have hexec : exec .isolationEnd s = .next (s.withPart
        (startingFollows .isolationEnd (placeOwedLogin (modStc setStarting s.part)))) := by
      change Host.Outcome.next (s.withPart (isolationRun s.part)) = _
      rw [isolationRun, if_pos ⟨hisolated, htimer⟩]
    have hset : Settles (modStc setStarting s.part) (aruStarting (placeOwedLogin (modStc setStarting s.part))) :=
      (queues_placeOwedLogin _).settles.trans (settles_aruStarting _)
    obtain ⟨hstc, -, -, -, haru, hcnp⟩ := reported_frame
      { kind := .stationState, state := some .starting, reason := some .isolationEnd }
      (aruStarting (placeOwedLogin (modStc setStarting s.part)))
    refine ⟨_, hexec, withPart_pending .., ?_⟩
    simp only [withPart_part]
    unfold startingFollows
    refine ⟨hstc.trans hset.stc, fun a => ?_, fun hroom => ?_⟩
    · rw [emergency_congr haru, hset.emergency]
      rfl
    · have hevents : (aruStarting (placeOwedLogin (modStc setStarting s.part))).cnp.events = s.part.cnp.events := by
        rw [events_aruStarting, (placeOwedLogin_frame _).2.2.2.2.2.2]
        rfl
      rw [hcnp, getLast_produce (by rw [hevents]; exact hroom), now, hset.stc]
      rfl

end


section
/-! PROOFS. What the queue's own operations leave of ARU, the records and the statistics (R153, R154), and what they leave of one
area while its SYNC-REQUEST waits (R105). -/

namespace Sys2Proof.Machine

variable {p q r : Part} {a b : Area}

/-! ## The queue's operations -/

/-- The queue is worked on: owners' marks follow, and neither the station list, nor what the answers are for, nor the counts
of failures and conflicts change. -/
structure Handles (p q : Part) : Prop where
  queues : Queues p q
  stations : q.aru.stations = p.aru.stations
  yielded : q.cnp.stats.conflictsYielded = p.cnp.stats.conflictsYielded
  failed : q.cnp.stats.handoversFailed = p.cnp.stats.handoversFailed
  subjects : q.hou.answers.map AnswerItem.subject = p.hou.answers.map AnswerItem.subject

theorem Handles.refl (p : Part) : Handles p p := ⟨.refl p, rfl, rfl, rfl, rfl⟩

theorem Handles.trans (h : Handles p q) (k : Handles q r) : Handles p r :=
  ⟨h.queues.trans k.queues, k.stations.trans h.stations, k.yielded.trans h.yielded, k.failed.trans h.failed,
    k.subjects.trans h.subjects⟩

/-- The statistics and the answers stand. -/
theorem handles_of_queues (h : Queues p q) (hs : q.aru.stations = p.aru.stations) (hc : q.cnp = p.cnp)
    (ha : q.hou.answers = p.hou.answers) : Handles p q := ⟨h, hs, by rw [hc], by rw [hc], by rw [ha]⟩

theorem handles_modLif (f : Lif → Lif) (p : Part) : Handles p (modLif f p) :=
  handles_of_queues (queues_modLif f p) rfl rfl rfl

theorem handles_modOffer (i : Fin 4) (n : Nat) {f : Offer → Offer} (hf : ∀ x, (f x).area = x.area) (p : Part) :
    Handles p (modOffer i n f p) := by
  have hqueues := queues_modOffer i n hf p
  unfold modOffer at hqueues ⊢
  cases hx : p.hou.offers.get i with
  | none => exact .refl p
  | some x =>
    rw [hx] at hqueues
    simp only at hqueues ⊢
    split
    · next hn =>
      rw [if_pos hn] at hqueues
      exact handles_of_queues hqueues rfl rfl rfl
    · exact .refl p

theorem handles_modReception (i : Fin 4) (n : Nat) {f : Reception → Reception} (hf : ∀ x, (f x).area = x.area) (p : Part) :
    Handles p (modReception i n f p) := by
  have hqueues := queues_modReception i n hf p
  unfold modReception at hqueues ⊢
  cases hx : p.hou.receptions.get i with
  | none => exact .refl p
  | some x =>
    rw [hx] at hqueues
    simp only at hqueues ⊢
    split
    · next hn =>
      rw [if_pos hn] at hqueues
      exact handles_of_queues hqueues rfl rfl rfl
    · exact .refl p

theorem handles_modAnswer (n : Nat) {f : AnswerItem → AnswerItem} (hf : ∀ x, (f x).subject = x.subject) (p : Part) :
    Handles p (modAnswer n f p) := by
  refine ⟨queues_modAnswer n f p, rfl, rfl, rfl, ?_⟩
  change (p.hou.answers.map _).map _ = _
  rw [List.map_map]
  refine List.map_congr_left fun x _ => ?_
  simp only [Function.comp]
  split
  · exact hf x
  · rfl

theorem handles_markEntered (o : Owner) (p : Part) : Handles p (markEntered o p) := by
  cases o with
  | syncRequest | beacon | session | request => exact handles_of_queues (queues_markEntered _ p) rfl rfl rfl
  | offer i n => exact handles_modOffer i n (fun _ => by rfl) p
  | reply i n => exact handles_modReception i n (fun _ => by rfl) p
  | answer n => exact handles_modAnswer n (fun _ => by rfl) p
  | input i =>
    unfold markEntered
    simp only
    split
    · exact handles_of_queues (queues_modInput ..) rfl rfl rfl
    · exact ⟨(queues_modInput ..).trans (queues_countMerged ..), rfl, rfl, rfl, rfl⟩

theorem handles_markOwed (o : Owner) (p : Part) : Handles p (markOwed o p) := by
  cases o with
  | offer i n => exact handles_modOffer i n (fun _ => by rfl) p
  | reply i n => exact handles_modReception i n (fun _ => by rfl) p
  | _ => exact handles_of_queues (queues_markOwed _ p) rfl rfl rfl

theorem handles_placeTelegram (o : Owner) (t : Telegram) (p : Part) : Handles p (placeTelegram o t p) := by
  unfold placeTelegram
  split
  · exact handles_modLif _ p
  · exact .refl p

theorem handles_enter (o : Owner) (t : Telegram) (p : Part) :
    Handles p (markEntered o (placeTelegram o t (leaveWaiting o p))) :=
  ((handles_modLif _ p).trans (handles_placeTelegram o t _)).trans (handles_markEntered o _)

theorem handles_pushTelegram (o : Owner) (p : Part) : Handles p (pushTelegram o p) := by
  unfold pushTelegram
  (repeat' split)
  · exact .refl p
  · exact handles_enter ..
  · exact (handles_modLif _ p).trans (handles_markOwed ..)
  · exact handles_markOwed ..

theorem handles_serveWaiting (p : Part) : Handles p (serveWaiting p) := by
  unfold serveWaiting
  (repeat' split)
  · exact .refl p
  · exact .refl p
  · exact handles_enter ..

theorem handles_placeOwedLogin (p : Part) : Handles p (placeOwedLogin p) :=
  handles_of_queues (queues_placeOwedLogin p) (by simp) (by simp) (by simp)

theorem handles_freeSlot (k : Fin 12) (p : Part) : Handles p (freeSlot k p) :=
  ((handles_modLif _ p).trans (handles_serveWaiting _)).trans (handles_placeOwedLogin _)

theorem handles_withdrawTelegram (o : Owner) (p : Part) : Handles p (withdrawTelegram o p) := by
  have hleave : Handles p (leaveWaiting o p) := handles_modLif _ p
  unfold withdrawTelegram
  simp only
  (repeat' split)
  · exact hleave
  · exact hleave
  · exact hleave.trans (handles_freeSlot ..)
  · exact hleave.trans (handles_modLif ..)

theorem handles_callBeacon (p : Part) : Handles p (callBeacon p) := by
  unfold callBeacon
  (repeat' split)
  · exact handles_pushTelegram .beacon p
  · exact .refl p
  · exact handles_of_queues (queues_of_frame rfl rfl rfl rfl rfl rfl rfl rfl rfl) rfl rfl rfl
  · exact .refl p

/-! ## One area while others are served -/

/-- A view without its role and its emergency state. -/
def View.bare (v : View) : View := { v with role := .none, emergency := false }

/-- The link and the view of area `a`, its role and emergency state apart, stand: but that its SYNC-REQUEST, while it waits,
may be served. -/
structure Served (a : Area) (p q : Part) : Prop where
  stc : q.stc = p.stc
  waiting : .syncRequest a ∈ q.lif.waiting → .syncRequest a ∈ p.lif.waiting
  slot : ∀ k y, p.lif.slots.get k = some y → y.owner = .syncRequest a → y.state = .waiting → q.lif.slots.get k = some y
  bare : (view q a).bare = (view p a).bare ∨ (.syncRequest a ∈ p.lif.waiting ∧ sendingOpen p = true ∧
    (view q a).bare = { (view p a).bare with syncMark := .queued })
  held : holds q a = holds p a

theorem Served.refl (a : Area) (p : Part) : Served a p p := ⟨rfl, id, fun _ _ h _ _ => h, .inl rfl, rfl⟩

theorem Served.trans (h : Served a p q) (k : Served a q r) : Served a p r where
  stc := k.stc.trans h.stc
  waiting := h.waiting ∘ k.waiting
  slot := fun i y hy ho hs => k.slot i y (h.slot i y hy ho hs) ho hs
  bare := by
    have hopen : sendingOpen q = sendingOpen p := by unfold sendingOpen starting running; rw [h.stc]
    rcases k.bare with hk | ⟨hwait, hsend, hk⟩
    · rw [hk]; exact h.bare
    · refine .inr ⟨h.waiting hwait, hopen ▸ hsend, ?_⟩
      rcases h.bare with hh | ⟨-, -, hh⟩ <;> rw [hk, hh]
  held := k.held.trans h.held

/-- Role and emergency state of the area stand too. -/
structure Apart (a : Area) (p q : Part) : Prop where
  served : Served a p q
  role : (view q a).role = (view p a).role
  emergency : emergency q a = emergency p a

theorem Apart.refl (a : Area) (p : Part) : Apart a p p := ⟨.refl a p, rfl, rfl⟩

theorem Apart.trans (h : Apart a p q) (k : Apart a q r) : Apart a p r :=
  ⟨h.served.trans k.served, k.role.trans h.role, k.emergency.trans h.emergency⟩

/-- The view stands, and the link as far as the area's SYNC-REQUEST goes. -/
theorem apart_of_view (hs : q.stc = p.stc) (hv : view q a = view p a)
    (hw : .syncRequest a ∈ q.lif.waiting → .syncRequest a ∈ p.lif.waiting)
    (hk : ∀ k y, p.lif.slots.get k = some y → y.owner = .syncRequest a → y.state = .waiting → q.lif.slots.get k = some y) :
    Apart a p q :=
  ⟨⟨hs, hw, hk, .inl (by rw [hv]), holds_of_view hv⟩, by rw [hv], by rw [emergency, hv]; rfl⟩

/-- The view and the link stand. -/
theorem apart_of_lif (hs : q.stc = p.stc) (hv : view q a = view p a) (hl : q.lif = p.lif) : Apart a p q :=
  apart_of_view hs hv (by rw [hl]; exact id) (fun k y hy _ _ => by rw [hl]; exact hy)

theorem view_markEntered_other {o : Owner} (ho : o ≠ .syncRequest a) (p : Part) : view (markEntered o p) a = view p a := by
  cases o with
  | syncRequest b => exact view_modView_other _ _ _ _ fun h => ho (h ▸ rfl)
  | offer | reply => unfold markEntered view; simp
  | input i =>
    unfold markEntered
    simp only
    split <;> rfl
  | request | session | beacon | answer => rfl

theorem view_markOwed_other {o : Owner} (ho : o ≠ .syncRequest a) (p : Part) : view (markOwed o p) a = view p a := by
  cases o with
  | syncRequest b => exact view_modView_other _ _ _ _ fun h => ho (h ▸ rfl)
  | offer | reply => unfold markOwed view; simp
  | request | session | beacon | answer | input => rfl

theorem view_placeTelegram (o : Owner) (t : Telegram) (p : Part) : view (placeTelegram o t p) a = view p a := by
  unfold placeTelegram
  split <;> rfl

/-- A telegram is placed in a free slot. -/
theorem slots_placeTelegram (o : Owner) (t : Telegram) (p : Part) {k : Fin 12} {y : Slot} (h : p.lif.slots.get k = some y) :
    (placeTelegram o t p).lif.slots.get k = some y := by
  unfold placeTelegram
  split
  · next j hj =>
    have hfree := List.find?_some (p := fun k => (p.lif.slots.get k).isNone) hj
    change (setAt p.lif.slots j _).get k = _
    rw [setAt_get, if_neg fun he => by rw [← he, h] at hfree; cases hfree]
    exact h
  · exact h

theorem apart_leaveWaiting (o : Owner) (p : Part) : Apart a p (leaveWaiting o p) :=
  apart_of_view rfl rfl (fun h => List.mem_of_mem_filter h) fun _ _ h _ _ => h

theorem apart_enter {o : Owner} (ho : o ≠ .syncRequest a) (t : Telegram) (p : Part) :
    Apart a p (markEntered o (placeTelegram o t (leaveWaiting o p))) := by
  refine (apart_leaveWaiting o p).trans (apart_of_view ?_ ?_ ?_ fun k y hy _ _ => ?_)
  · exact (handles_placeTelegram o t (leaveWaiting o p)).trans (handles_markEntered o _) |>.queues.stc
  · rw [view_markEntered_other ho, view_placeTelegram]
  · rw [(markEntered_frame _ o).2.1, waiting_placeTelegram]
    exact id
  · rw [(markEntered_frame _ o).2.1]
    exact slots_placeTelegram o t _ hy

theorem apart_pushTelegram {o : Owner} (ho : o ≠ .syncRequest a) (p : Part) : Apart a p (pushTelegram o p) := by
  have howed : ∀ q : Part, view q a = view p a → q.stc = p.stc → q.lif.slots = p.lif.slots →
      (.syncRequest a ∈ q.lif.waiting → .syncRequest a ∈ p.lif.waiting) → Apart a p (markOwed o q) := by
    intro q hv hs hk hw
    refine apart_of_view ((handles_markOwed o q).queues.stc.trans hs) ((view_markOwed_other ho q).trans hv) ?_ fun k y hy _ _ => ?_
    · rw [(markOwed_frame _ o).2.1]; exact hw
    · rw [(markOwed_frame _ o).2.1, hk]; exact hy
  unfold pushTelegram
  (repeat' split)
  · exact .refl a p
  · exact apart_enter ho ..
  · refine howed (joinWaiting o p) rfl rfl rfl fun h => ?_
    change _ ∈ (if o ∈ p.lif.waiting then p.lif.waiting else p.lif.waiting ++ [o]) at h
    split at h
    · exact h
    · simpa [Ne.symm ho] using h
  · exact howed p rfl rfl rfl id

theorem pickOwner_mem {l : List Owner} {o : Owner} {n : Nat} (h : pickOwner p l = some (o, n)) :
    o ∈ l ∧ ownerMayQueue p o = true := by
  induction l generalizing o n with
  | nil => cases h
  | cons x l ih =>
    have hself : ∀ m, pendingClass p x = some m → ownerMayQueue p x = true := fun m hm => by
      unfold pendingClass at hm
      split at hm
      · assumption
      · cases hm
    have hrest : ∀ {y m}, pickOwner p l = some (y, m) → y ∈ x :: l ∧ ownerMayQueue p y = true := fun hy =>
      (ih hy).imp_left (List.mem_cons_of_mem x)
    unfold pickOwner at h
    cases hc : pendingClass p x with
    | none =>
      rw [hc] at h
      exact hrest h
    | some c =>
      have hx : x ∈ x :: l ∧ ownerMayQueue p x = true := ⟨List.mem_cons_self, hself c hc⟩
      rw [hc] at h
      cases hr : pickOwner p l with
      | none =>
        rw [hr] at h
        cases h
        exact hx
      | some y =>
        rw [hr] at h
        simp only at h
        split at h
        · cases h
          exact hrest hr
        · cases h
          exact hx

/-- Serving the list leaves an area's view as it is, unless it serves that area's SYNC-REQUEST. -/
theorem apart_serveWaiting (a : Area) (p : Part) : Apart a p (serveWaiting p) := by
  unfold serveWaiting
  split
  · exact .refl a p
  · next o _ hpick =>
    obtain ⟨hmem, hmay⟩ := pickOwner_mem hpick
    split
    · exact .refl a p
    · next t _ =>
      by_cases ho : o = .syncRequest a
      · subst ho
        have hview : view (markEntered (.syncRequest a) (placeTelegram (.syncRequest a) t (leaveWaiting (.syncRequest a) p))) a =
            { view p a with syncMark := .queued } := by
          rw [markEntered, view_modView_self, view_placeTelegram]; rfl
        refine ⟨⟨(handles_enter ..).queues.stc, ?_, fun k y hy _ _ => ?_, .inr ⟨hmem, hmay, by rw [hview]; rfl⟩, ?_⟩, ?_, ?_⟩
        · rw [(markEntered_frame _ _).2.1, waiting_placeTelegram]
          exact List.mem_of_mem_filter
        · rw [(markEntered_frame _ _).2.1]
          exact slots_placeTelegram _ t _ hy
        · rw [holds, hview]; rfl
        · rw [hview]
        · rw [emergency, hview]; rfl
      · exact apart_enter ho t p

theorem apart_placeOwedLogin (a : Area) (p : Part) : Apart a p (placeOwedLogin p) := by
  unfold placeOwedLogin
  split
  · exact .refl a p
  · split
    · refine apart_of_view ?_ (view_placeTelegram ..) ?_ fun k y hy _ _ => slots_placeTelegram _ _ _ hy
      · exact (handles_placeTelegram ..).queues.stc
      · rw [modSession_lif, placeLogin, waiting_placeTelegram]
        exact id
    · exact .refl a p

/-- A slot that another owner's telegram leaves. -/
theorem apart_setSlot {k : Fin 12} {x : Slot} (hx : p.lif.slots.get k = some x) (ho : x.owner ≠ .syncRequest a) (y : Option Slot) :
    Apart a p (setSlot k y p) := by
  refine apart_of_view rfl rfl id fun j z hz hzo _ => ?_
  change (setAt p.lif.slots k y).get j = _
  rw [setAt_get, if_neg fun he => ho (by rw [he, hx] at hz; cases hz; exact hzo)]
  exact hz

theorem slotOfOwner_some {o : Owner} {k : Fin 12} {x : Slot} (h : slotOfOwner o p = some k) (hx : p.lif.slots.get k = some x) :
    x.owner = o := by
  have hfound := List.find?_some h
  simp only [hx, Bool.and_eq_true, decide_eq_true_eq] at hfound
  exact hfound.1

theorem apart_withdrawTelegram {o : Owner} (ho : o ≠ .syncRequest a) (p : Part) : Apart a p (withdrawTelegram o p) := by
  have hleave : Apart a p (leaveWaiting o p) := apart_leaveWaiting o p
  unfold withdrawTelegram
  simp only
  split
  · exact hleave
  · next k hk =>
    split
    · exact hleave
    · next x hx =>
      have hother : x.owner ≠ .syncRequest a := slotOfOwner_some hk hx ▸ ho
      split
      · exact ((hleave.trans (apart_setSlot hx hother none)).trans (apart_serveWaiting a _)).trans (apart_placeOwedLogin a _)
      · exact hleave.trans (apart_setSlot hx hother _)

theorem apart_callBeacon (a : Area) (p : Part) : Apart a p (callBeacon p) := by
  unfold callBeacon
  (repeat' split)
  · exact apart_pushTelegram (a := a) (o := .beacon) nofun p
  · exact .refl a p
  · exact apart_of_lif rfl rfl rfl
  · exact .refl a p

end Sys2Proof.Machine
end


section
/-! PROOFS. What each step of a beacon's taking leaves: the station list, the log so far, T, the records that are gone, the answers,
and every area that it is not about (R99, R100, R104, R109). -/

namespace Sys2Proof.Machine

variable {p q r : Part} {a b : Area} {T : Area → Prop}

/-- From `p` to `q` nothing is lost but what areas in `T` had: other areas stand apart, the log goes on, T is not cleared, no offer
record is made, and every answer keeps its subject. -/
structure Moves (T : Area → Prop) (p q : Part) : Prop where
  stc : q.stc = p.stc
  stations : q.aru.stations = p.aru.stations
  log : LogGrows p q
  trip : p.anu.trip = true → q.anu.trip = true
  gone : ∀ i, p.hou.offers.get i = none → q.hou.offers.get i = none
  subjects : ∀ z ∈ p.hou.answers.map AnswerItem.subject, z ∈ q.hou.answers.map AnswerItem.subject
  apart : ∀ a, ¬T a → Apart a p q

/-- No area is yielded on the way. -/
structure Passes (T : Area → Prop) (p q : Part) : Prop extends Moves T p q where
  yielded : q.cnp.stats.conflictsYielded = p.cnp.stats.conflictsYielded

/-- No area is touched. -/
def noArea : Area → Prop := fun _ => False

theorem Moves.refl (T : Area → Prop) (p : Part) : Moves T p p := ⟨rfl, rfl, .refl p, id, fun _ h => h, fun _ h => h, fun a _ => .refl a p⟩

theorem Moves.trans (h : Moves T p q) (k : Moves T q r) : Moves T p r :=
  ⟨k.stc.trans h.stc, k.stations.trans h.stations, h.log.trans k.log, k.trip ∘ h.trip, fun i hi => k.gone i (h.gone i hi),
    fun z hz => k.subjects z (h.subjects z hz), fun a ha => (h.apart a ha).trans (k.apart a ha)⟩

theorem Moves.mono {U : Area → Prop} (h : Moves T p q) (hle : ∀ a, T a → U a) : Moves U p q :=
  { h with apart := fun a ha => h.apart a fun hT => ha (hle a hT) }

theorem Passes.refl (T : Area → Prop) (p : Part) : Passes T p p := ⟨.refl T p, rfl⟩

theorem Passes.trans (h : Passes T p q) (k : Passes T q r) : Passes T p r :=
  ⟨h.toMoves.trans k.toMoves, k.yielded.trans h.yielded⟩

theorem Passes.mono {U : Area → Prop} (h : Passes T p q) (hle : ∀ a, T a → U a) : Passes U p q :=
  ⟨h.toMoves.mono hle, h.yielded⟩

theorem Passes.wide (h : Passes noArea p q) : Passes T p q := h.mono fun _ => False.elim

theorem passes_ite (c : Prop) [Decidable c] (hq : Passes T p q) (hr : Passes T p r) : Passes T p (if c then q else r) := by
  split
  · exact hq
  · exact hr

theorem passes_foldl {α : Type} {f : Part → α → Part} {l : List α} (hf : ∀ x ∈ l, ∀ q, Passes T q (f q x)) (p : Part) :
    Passes T p (l.foldl f p) := by
  induction l generalizing p with
  | nil => exact .refl T p
  | cons x l ih =>
    exact (hf x List.mem_cons_self p).trans (ih (fun y hy => hf y (List.mem_cons_of_mem x hy)) (f p x))

theorem moves_foldl {α : Type} {f : Part → α → Part} {l : List α} (hf : ∀ x ∈ l, ∀ q, Moves T q (f q x)) (p : Part) :
    Moves T p (l.foldl f p) := by
  induction l generalizing p with
  | nil => exact .refl T p
  | cons x l ih =>
    exact (hf x List.mem_cons_self p).trans (ih (fun y hy => hf y (List.mem_cons_of_mem x hy)) (f p x))

/-! ## The queue and the records -/

/-- The queue worked on for other areas. -/
theorem Handles.passes (h : Handles p q) (ha : ∀ a, ¬T a → Apart a p q) : Passes T p q where
  stc := h.queues.stc
  stations := h.stations
  log := by rw [LogGrows, h.queues.events]
  trip := by rw [h.queues.trip]; exact id
  gone := fun i hi => by
    have hmap := h.queues.offers i
    rw [hi, Option.map_none, Option.map_eq_none_iff] at hmap
    exact hmap
  subjects := fun z hz => by rw [h.subjects]; exact hz
  apart := ha
  yielded := h.yielded

theorem passes_withdrawOffer (i : Fin 4) (n : Nat) (p : Part) : Passes noArea p (withdrawTelegram (.offer i n) p) :=
  (handles_withdrawTelegram _ p).passes fun _ _ => apart_withdrawTelegram (by exact nofun) p

theorem passes_withdrawReply (i : Fin 4) (n : Nat) (p : Part) : Passes noArea p (withdrawTelegram (.reply i n) p) :=
  (handles_withdrawTelegram _ p).passes fun _ _ => apart_withdrawTelegram (by exact nofun) p

theorem passes_callBeacon (p : Part) : Passes noArea p (callBeacon p) :=
  (handles_callBeacon p).passes fun a _ => apart_callBeacon a p

/-- ARU, the link, the log and the answers stand, and no offer record is made. -/
theorem passes_of_frame (hs : q.stc = p.stc) (ha : q.aru = p.aru) (hl : q.lif = p.lif) (hc : q.cnp = p.cnp)
    (ht : p.anu.trip = true → q.anu.trip = true) (hg : ∀ i, p.hou.offers.get i = none → q.hou.offers.get i = none)
    (hn : q.hou.answers = p.hou.answers) : Passes T p q where
  stc := hs
  stations := by rw [ha]
  log := logGrows_of_cnp hc
  trip := ht
  gone := hg
  subjects := fun z hz => by rw [hn]; exact hz
  apart := fun _ _ => apart_of_lif hs (by unfold view; rw [ha]) hl
  yielded := by rw [hc]

theorem passes_deriveHorn (p : Part) : Passes T p (deriveHorn p) := passes_of_frame rfl rfl rfl rfl id (fun _ h => h) rfl

theorem passes_setOffer_none (i : Fin 4) (p : Part) : Passes T p (setOffer i none p) :=
  passes_of_frame rfl rfl rfl rfl id (fun j hj => by
    rw [setOffer_hou, setAt_get]
    split
    · rfl
    · exact hj) rfl

theorem passes_setReception (i : Fin 4) (x : Option Reception) (p : Part) : Passes T p (setReception i x p) :=
  passes_of_frame rfl rfl rfl rfl id (fun _ h => h) rfl

theorem passes_produce (e : Event) (p : Part) : Passes T p (produce e p) where
  stc := rfl
  stations := rfl
  log := logGrows_produce e p
  trip := id
  gone := fun _ h => h
  subjects := fun _ h => h
  apart := fun _ _ => apart_of_lif rfl rfl rfl
  yielded := by rw [produce_cnp, storing_stats]

theorem passes_countFailed (p : Part) : Passes T p (countFailed p) where
  stc := rfl
  stations := rfl
  log := List.prefix_refl _
  trip := id
  gone := fun _ h => h
  subjects := fun _ h => h
  apart := fun _ _ => apart_of_lif rfl rfl rfl
  yielded := rfl

theorem passes_dropOffer (i : Fin 4) (p : Part) : Passes T p (dropOffer i p) := by
  unfold dropOffer
  split
  · exact .refl T p
  · exact ((passes_withdrawOffer ..).wide.trans (passes_setOffer_none i _)).trans (passes_deriveHorn _)

theorem passes_dropReception (i : Fin 4) (p : Part) : Passes T p (dropReception i p) := by
  unfold dropReception
  split
  · exact .refl T p
  · exact ((passes_withdrawReply ..).wide.trans (passes_setReception i none _)).trans (passes_deriveHorn _)

theorem passes_addAnswer (w : Option ReplyReason) (b : Area) (x : StationNo) (n : Byte) (t : Bool) (p : Part) :
    Passes T p (addAnswer w b x n t p) := by
  have hadd : ∀ l, Passes T p (modHou (fun h => { h with answers := h.answers ++ l, nextSerial := h.nextSerial + 1 }) p) := fun l =>
    { passes_of_frame (T := T) (p := p) (q := p) rfl rfl rfl rfl id (fun _ h => h) rfl with
      subjects := fun z hz => by
        change z ∈ (p.hou.answers ++ l).map _
        rw [List.map_append]
        exact List.mem_append_left _ hz
      apart := fun _ _ => apart_of_lif rfl rfl rfl }
  unfold addAnswer
  simp only
  split
  · split
    · exact hadd _
    · refine (hadd _).trans (Passes.wide ((handles_pushTelegram ..).passes fun _ _ => apart_pushTelegram (by exact nofun) _))
  · exact .refl T p

theorem passes_closeOffer (i : Fin 4) (w : Reason) (b : Bool) (p : Part) : Passes T p (closeOffer i w b p) := by
  have hdrop : Passes T p (dropOffer i p) := passes_dropOffer i p
  unfold closeOffer
  split
  · exact .refl T p
  · split
    · exact hdrop
    · refine ((hdrop.trans ?_).trans (passes_produce ..)).trans (passes_countFailed _)
      exact passes_ite _ (passes_addAnswer ..) (.refl T _)

theorem passes_closeReception (i : Fin 4) (w : Reason) (p : Part) : Passes T p (closeReception i w p) := by
  have hdrop : Passes T p (dropReception i p) := passes_dropReception i p
  unfold closeReception
  (repeat' split)
  · exact .refl T p
  · exact hdrop
  · exact (hdrop.trans (passes_produce ..)).trans (passes_countFailed _)

theorem passes_closeOfferFor (a : Area) (w : Reason) (b : Bool) (p : Part) : Passes T p (closeOfferFor a w b p) := by
  unfold closeOfferFor
  split
  · exact passes_closeOffer ..
  · exact .refl T p

theorem passes_tripRecords (a : Area) (p : Part) : Passes T p (tripRecords a p) := by
  refine (passes_foldl (fun i _ q => ?_) p).trans (passes_foldl (fun i _ q => ?_) _)
  · unfold tripOffer
    split
    · exact passes_ite _ (passes_closeOffer ..) (.refl T q)
    · exact .refl T q
  · unfold tripReception
    split
    · exact passes_ite _ (passes_closeReception ..) (.refl T q)
    · exact .refl T q

theorem passes_dropForeignSync (a : Area) (x : StationNo) (p : Part) : Passes T p (dropForeignSync a x p) := by
  unfold dropForeignSync
  split
  · exact .refl T p
  · split
    · exact .refl T p
    · exact passes_ite _ (passes_dropReception ..) (.refl T p)

theorem passes_cancelRelief (w : Reason) (a : Option Area) (p : Part) : Passes T p (cancelRelief w a p) := by
  refine passes_ite _ (Passes.trans (q := disarmRelief p) ?_ (passes_produce ..)) (.refl T p)
  exact passes_of_frame rfl rfl rfl rfl id (fun _ h => h) rfl

theorem passes_stopGrace (p : Part) : Passes T p (stopGrace p) :=
  { passes_of_frame (T := T) (p := p) (q := p) rfl rfl rfl rfl id (fun _ h => h) rfl with
    apart := fun _ _ => apart_of_lif rfl rfl rfl }

theorem passes_afterLoss (p : Part) : Passes T p (afterLoss p) :=
  passes_ite _ (.refl T p) ((passes_stopGrace p).trans (passes_cancelRelief ..))

/-! ## One area's view -/

theorem passes_modView (a : Area) (f : View → View) (p : Part) : Passes (· = a) p (modView a f p) :=
  { passes_of_frame (T := (· = a)) (p := p) (q := p) rfl rfl rfl rfl id (fun _ h => h) rfl with
    apart := fun _ hb => apart_of_lif rfl (view_modView_other _ _ _ _ hb) rfl }

theorem passes_changeRole (a : Area) (x : Role) (p : Part) : Passes (· = a) p (changeRole a x p) := by
  have hraise : ∀ q, Passes (· = a) q (raiseStanding a q) := fun q =>
    passes_of_frame rfl rfl rfl rfl (fun h => by simp [raiseStanding, h]) (fun _ h => h) rfl
  unfold changeRole
  split
  · exact .refl _ p
  · exact ((passes_modView ..).trans (passes_ite _ (hraise _) (.refl _ _))).trans (passes_deriveHorn _)

theorem passes_startClaimDelay (a : Area) (p : Part) : Passes (· = a) p (startClaimDelay a p) :=
  passes_ite _ (passes_modView ..) (.refl _ p)

theorem passes_dropOwedSync (a : Area) (p : Part) : Passes (· = a) p (dropOwedSync a p) :=
  (passes_modView a _ p).trans ((handles_modLif _ _).passes fun _ _ => apart_leaveWaiting (.syncRequest a) _)

theorem passes_clearHolder (a : Area) (p : Part) : Passes (· = a) p (clearHolder a p) :=
  (passes_modView ..).trans (passes_dropOwedSync ..)

theorem passes_issueSync (a : Area) (p : Part) : Passes (· = a) p (issueSync a p) := by
  refine ((handles_pushTelegram (.syncRequest a) p).passes fun _ hb => ?_).trans (passes_modView ..)
  exact apart_pushTelegram (fun h => hb (by cases h; rfl)) p

theorem passes_loseArea (a : Area) (f : View → View) (e : Event) (w : Reason) (b : Bool) (p : Part) :
    Passes (· = a) p (loseArea a f e w b p) :=
  ((((passes_modView a f p).trans (passes_produce ..)).trans (passes_changeRole a _ _)).trans (passes_closeOfferFor ..)).trans
    (passes_startClaimDelay a _)

/-! ## The steps of a beacon's taking (R99, R104, R109) -/

theorem passes_omitArea (x : StationNo) (c : BeaconContent) (a : Area) (p : Part) : Passes (· = a) p (omitArea x c p a) := by
  have hclear : Passes (· = a) p (startClaimDelay a (clearHolder a p)) :=
    (passes_clearHolder a p).trans (passes_startClaimDelay a _)
  exact passes_ite _ (passes_ite _ (hclear.trans (passes_produce ..)) hclear) (.refl _ p)

theorem passes_compareItem (x : StationNo) (i : BeaconItem) (p : Part) : Passes (· = i.area) p (compareItem x p i) := by
  unfold compareItem
  refine passes_ite _ (passes_ite _ (passes_modView ..) ?_) (.refl _ p)
  exact passes_ite _ ((passes_modView ..).trans (passes_issueSync ..)) (passes_modView ..)

theorem trip_flushArea (a : Area) (p : Part) : (flushArea a p).anu.trip = p.anu.trip := by
  have hshelf : ∀ q t, (removeShelfOf q t).anu.trip = q.anu.trip := fun q t => by
    unfold removeShelfOf
    (repeat' split)
    · exact (demandsDerived_removeShelf _ q).2.2
    · rfl
    · rfl
  unfold flushArea
  simp only
  split
  · rfl
  · exact foldl_keeps (P := fun q => q.anu.trip = p.anu.trip) (p := clearQuiet a p) (fun q t h => (hshelf q t).trans h) rfl _

/-- All that follows the AREA-TRIPPED event: no area's view changes. -/
theorem passes_fromTripped (x : StationNo) (w : Reason) (h : emergency p a = false) :
    Passes T (tripped a x w p) (enterEmergency a x w p) := by
  have hnotice : ∀ q, Passes T q (noticeEmergency a q) := fun q => by
    refine Passes.trans (passes_ite _ ?_ (.refl _ q)) (passes_deriveHorn _)
    exact passes_of_frame rfl rfl rfl rfl (fun _ => rfl) (fun _ h => h) rfl
  have hflush : Passes T (tripped a x w p) (flushArea a (tripped a x w p)) := by
    obtain ⟨hstc, hlif, -, -, haru, hhou, hcnp⟩ := flushArea_frame (tripped a x w p) a
    exact passes_of_frame hstc haru hlif hcnp (by rw [trip_flushArea]; exact id) (fun i h => by rw [hhou]; exact h) (by rw [hhou])
  have hswept : Passes T (tripped a x w p) (swept a x w p) := hflush.trans (passes_tripRecords a _)
  have hrelieved : ∀ q, Passes T q (relieved a q) := fun q => passes_ite _ (passes_cancelRelief ..) (.refl _ q)
  rw [enterEmergency_eq x w h]
  exact ((hswept.trans (hrelieved _)).trans (hnotice _)).trans (passes_ite _ (passes_callBeacon _).wide (.refl _ _))

theorem passes_enterEmergency (a : Area) (x : StationNo) (w : Reason) (p : Part) :
    Passes (· = a) p (enterEmergency a x w p) := by
  cases h : emergency p a with
  | true =>
    rw [enterEmergency, h]
    exact .refl _ p
  | false =>
    have hset : Passes (· = a) p (tripped a x w p) := (passes_modView ..).trans (passes_produce ..)
    exact hset.trans (passes_fromTripped x w h)

theorem passes_tripFromItem (x : StationNo) (i : BeaconItem) (p : Part) : Passes (· = i.area) p (tripFromItem x p i) :=
  passes_ite _ (passes_enterEmergency ..) (.refl _ p)

/-- The count of conflicts goes up by one as an area is yielded. -/
theorem moves_conflict (x : StationNo) (c : PeriodCode) (i : BeaconItem) (p : Part) :
    Moves (· = i.area) p (conflict x c i p) ∧ (conflict x c i p).cnp.stats.conflictsYielded = p.cnp.stats.conflictsYielded +
      (if x.toNat < p.stc.number.toNat then 1 else 0) := by
  unfold conflict
  simp only
  split
  · have hlose := passes_loseArea i.area (holderFrom x c i) { kind := .conflict, area := some i.area, station := some x } .conflict
      true p
    have hcount : ∀ q, Moves (· = i.area) q (modStats (fun s => { s with conflictsYielded := s.conflictsYielded + 1 }) q) :=
      fun q => ⟨rfl, rfl, List.prefix_refl _, id, fun _ h => h, fun _ h => h, fun _ _ => apart_of_lif rfl rfl rfl⟩
    have hrest : ∀ q, Passes (· = i.area) q (callBeacon (afterLoss q)) := fun q =>
      (passes_afterLoss q).trans (passes_callBeacon _).wide
    refine ⟨(hlose.toMoves.trans (hcount _)).trans (hrest _).toMoves, ?_⟩
    rw [(hrest _).yielded, ← hlose.yielded]
    rfl
  · exact ⟨(passes_callBeacon p).wide.toMoves, (passes_callBeacon p).yielded.trans (BitVec.add_zero _).symm⟩

theorem moves_takeItem (x : StationNo) (c : PeriodCode) (i : BeaconItem) (p : Part) :
    Moves (· = i.area) p (takeItem x c p i) ∧ (takeItem x c p i).cnp.stats.conflictsYielded = p.cnp.stats.conflictsYielded +
      (if holds p i.area = true ∧ x.toNat < p.stc.number.toNat then 1 else 0) := by
  unfold takeItem
  simp only
  split
  · next hheld =>
    have hconflict := moves_conflict x c i p
    simp only [hheld, true_and]
    exact hconflict
  · next hnot =>
    have hpass : Passes (· = i.area) p (if (view p i.area).holder = 0 ∨ (view p i.area).holder = x ∨
        x.toNat < (view p i.area).holder.toNat then dropForeignSync i.area x (modView i.area (holderFrom x c i)
          (if (view p i.area).holder = x then p else dropOwedSync i.area p)) else p) :=
      passes_ite _ (((passes_ite _ (.refl _ p) (passes_dropOwedSync ..)).trans (passes_modView ..)).trans
        (passes_dropForeignSync ..)) (.refl _ p)
    refine ⟨hpass.toMoves, ?_⟩
    rw [hpass.yielded]
    simp [hnot]

end Sys2Proof.Machine
end


section
/-! PROOFS. A beacon's taking as a whole (R99): its steps in turn, the turn of each listed area in them, and the end of the step for
every area (R94, R103, R105). -/

namespace Sys2Proof.Machine

variable {p q r : Part} {a b : Area} {T : Area → Prop} {x : StationNo} {c : BeaconContent} {i : BeaconItem}

/-! ## The end of the step: roles, claims, start-up requests -/

/-- Every area may be touched. -/
def anyArea : Area → Prop := fun _ => True

theorem Passes.any (h : Passes T p q) : Passes anyArea p q := h.mono fun _ _ => trivial

theorem passes_refreshRole (p : Part) (a : Area) : Passes (· = a) p (refreshRole p a) :=
  passes_ite _ (.refl _ p) (passes_changeRole ..)

theorem passes_settleAreas (p : Part) : Passes anyArea p (settleAreas p) := by
  have hpurge : ∀ q, Passes anyArea q (purgeUnfollowed q) := fun q => by
    obtain ⟨hstc, hlif, -, haru, hhou, hcnp⟩ := purgeUnfollowed_frame q
    exact passes_of_frame hstc haru hlif hcnp id (fun j h => by rw [hhou]; exact h) (by rw [hhou])
  unfold settleAreas refreshRoles
  exact (passes_foldl (fun b _ q => (passes_refreshRole q b).any) p).trans (hpurge _)

theorem passes_startGrace (p : Part) : Passes T p (startGrace p) := by
  have haru : (startGrace p).aru.stations = p.aru.stations ∧ (startGrace p).aru.views = p.aru.views := by
    change (if _ then p.aru else _).stations = p.aru.stations ∧ (if _ then p.aru else _).views = p.aru.views
    split <;> exact ⟨rfl, rfl⟩
  exact { passes_of_frame (T := T) (p := p) (q := p) rfl rfl rfl rfl id (fun _ h => h) rfl with
    stations := haru.1
    apart := fun a _ => apart_of_lif rfl (by unfold view; rw [haru.2]) rfl }

theorem passes_gainArea (a : Area) (p : Part) : Passes (· = a) p (gainArea a p) := by
  have hcleared : Passes (· = a) p (viewCleared a p) := (passes_modView ..).trans (passes_dropOwedSync ..)
  have hgain := (hcleared.trans (passes_changeRole a .hold _)).trans (passes_callBeacon _).wide
  rw [gainArea_eq]
  exact passes_ite _ hgain (hgain.trans (passes_startGrace _))

theorem passes_claimArea (p : Part) (a : Area) : Passes (· = a) p (claimArea p a) :=
  passes_ite _ ((passes_gainArea a p).trans (passes_produce ..)) (.refl _ p)

theorem passes_judgeClaims (p : Part) : Passes anyArea p (judgeClaims p) := by
  unfold judgeClaims
  exact passes_foldl (fun b _ q => (passes_claimArea q b).any) p

theorem passes_judgeStartupArea (p : Part) (a : Area) : Passes (· = a) p (judgeStartupArea p a) := by
  unfold judgeStartupArea
  exact passes_ite _ ((passes_issueSync a p).trans (passes_modView ..)) (.refl _ p)

theorem passes_judgeStartup (p : Part) : Passes anyArea p (judgeStartup p) := by
  unfold judgeStartup
  exact passes_ite _ (passes_foldl (fun b _ q => (passes_judgeStartupArea q b).any) p) (.refl _ p)

/-- Roles derived, claims judged, and the start-up requests (R94, R103, R105). -/
def beaconEnd (p : Part) : Part := judgeStartup (judgeClaims (settleAreas p))

theorem passes_beaconEnd (p : Part) : Passes anyArea p (beaconEnd p) :=
  ((passes_settleAreas p).trans (passes_judgeClaims _)).trans (passes_judgeStartup _)

/-! ## One area's turn -/

/-- In a list that names each area once, an item has its turn once. -/
theorem foldl_turn {α : Type} {R : Part → Part → Prop} (hrefl : ∀ p, R p p) (htrans : ∀ {p q r}, R p q → R q r → R p r)
    {f : Part → α → Part} {key : α → Area} {l : List α} {y : α} (hy : y ∈ l) (hl : l.Pairwise fun u v => key u ≠ key v)
    (hf : ∀ z, key z ≠ key y → ∀ q, R q (f q z)) (p : Part) :
    ∃ l₁ l₂, l = l₁ ++ y :: l₂ ∧ R p (l₁.foldl f p) ∧ R (f (l₁.foldl f p) y) (l.foldl f p) := by
  obtain ⟨l₁, l₂, rfl⟩ := List.append_of_mem hy
  rw [List.pairwise_append, List.pairwise_cons] at hl
  obtain ⟨-, ⟨hafter, -⟩, hbefore⟩ := hl
  have hrest : ∀ (l : List α) (q : Part), (∀ z ∈ l, key z ≠ key y) → R q (l.foldl f q) := fun l => by
    induction l with
    | nil => exact fun q _ => hrefl q
    | cons z l ih =>
      exact fun q h => htrans (hf z (h z List.mem_cons_self) q) (ih _ fun w hw => h w (List.mem_cons_of_mem z hw))
  refine ⟨l₁, l₂, rfl, hrest l₁ p fun z hz => hbefore z hz y List.mem_cons_self, ?_⟩
  rw [List.foldl_append, List.foldl_cons]
  exact hrest l₂ _ fun z hz => (hafter z hz).symm

/-- Area `a` and the table stand. -/
def ApartTable (a : Area) (p q : Part) : Prop := Apart a p q ∧ q.atu = p.atu

theorem ApartTable.trans (h : ApartTable a p q) (k : ApartTable a q r) : ApartTable a p r :=
  ⟨h.1.trans k.1, k.2.trans h.2⟩

/-- Area `a` stands, and T is not cleared. -/
def ApartTrip (a : Area) (p q : Part) : Prop := Apart a p q ∧ (p.anu.trip = true → q.anu.trip = true)

theorem ApartTrip.trans (h : ApartTrip a p q) (k : ApartTrip a q r) : ApartTrip a p r := ⟨h.1.trans k.1, k.2 ∘ h.2⟩

/-! ## The steps -/

/-- The station is heard (R93). -/
def beaconHeard (x : StationNo) (c : BeaconContent) (p : Part) : Part :=
  modAru (fun r =>
    { r with stations := insertHeard { station := x, period := c.period, age := 0, credential := c.credential } r.stations }) p

/-- Step 1: the listed areas are taken. -/
def beaconTaken (x : StationNo) (c : BeaconContent) (p : Part) : Part := c.items.foldl (takeItem x c.period) (beaconHeard x c p)

/-- Step 2: the areas it omits lose their holder. -/
def beaconOmitted (x : StationNo) (c : BeaconContent) (p : Part) : Part := allAreas.foldl (omitArea x c) (beaconTaken x c p)

/-- Step 3: counts and signatures are compared. -/
def beaconCompared (x : StationNo) (c : BeaconContent) (p : Part) : Part := c.items.foldl (compareItem x) (beaconOmitted x c p)

/-- Step 4: areas enter EMERGENCY. -/
def beaconTripped (x : StationNo) (c : BeaconContent) (p : Part) : Part := c.items.foldl (tripFromItem x) (beaconCompared x c p)

theorem applyBeacon_eq (hs : c.state = .running) (hlow : 1 ≤ x.toNat) (hhigh : x.toNat ≤ 62) (p : Part) :
    applyBeacon x c p = beaconEnd (beaconTripped x c p) := if_pos ⟨hs, hlow, hhigh⟩

theorem apart_beaconHeard (a : Area) (x : StationNo) (c : BeaconContent) (p : Part) : Apart a p (beaconHeard x c p) :=
  apart_of_lif rfl rfl rfl

theorem moves_beaconTaken (x : StationNo) (c : BeaconContent) (p : Part) :
    Moves (fun a => ∃ i ∈ c.items, a = i.area) (beaconHeard x c p) (beaconTaken x c p) :=
  moves_foldl (fun i hi q => (moves_takeItem x c.period i q).1.mono fun _ ha => ⟨i, hi, ha⟩) _

theorem passes_beaconOmitted (x : StationNo) (c : BeaconContent) (p : Part) :
    Passes anyArea (beaconTaken x c p) (beaconOmitted x c p) := by
  unfold beaconOmitted
  exact passes_foldl (fun b _ q => (passes_omitArea x c b q).any) _

theorem passes_beaconCompared (x : StationNo) (c : BeaconContent) (p : Part) :
    Passes (fun a => ∃ i ∈ c.items, a = i.area) (beaconOmitted x c p) (beaconCompared x c p) :=
  passes_foldl (fun i hi q => (passes_compareItem x i q).mono fun _ ha => ⟨i, hi, ha⟩) _

theorem passes_beaconTripped (x : StationNo) (c : BeaconContent) (p : Part) :
    Passes (fun a => ∃ i ∈ c.items, a = i.area) (beaconCompared x c p) (beaconTripped x c p) :=
  passes_foldl (fun i hi q => (passes_tripFromItem x i q).mono fun _ ha => ⟨i, hi, ha⟩) _

/-- All that follows step 1. -/
theorem passes_afterTaken (x : StationNo) (c : BeaconContent) (p : Part) :
    Passes anyArea (beaconTaken x c p) (beaconEnd (beaconTripped x c p)) :=
  (((passes_beaconOmitted x c p).trans (passes_beaconCompared x c p).any).trans (passes_beaconTripped x c p).any).trans
    (passes_beaconEnd _)

theorem atu_beaconOmitted (x : StationNo) (c : BeaconContent) (p : Part) : (beaconOmitted x c p).atu = p.atu := by
  have htaken : (beaconTaken x c p).atu = p.atu :=
    foldl_atu _ _ (fun q i => (takeItem_frame q x c.period i).2.1) _
  exact (foldl_atu _ _ (fun q b => (omitArea_frame q x c b).2.1) _).trans htaken

/-- A listed area is not omitted. -/
theorem apart_omitArea_listed (hi : i ∈ c.items) (x : StationNo) (b : Area) (q : Part) : Apart i.area q (omitArea x c q b) := by
  by_cases hb : i.area = b
  · have hlisted : (c.items.any fun j => decide (j.area = b)) = true :=
      List.any_eq_true.2 ⟨i, hi, decide_eq_true hb⟩
    rw [omitArea, if_neg fun h => by rw [hlisted] at h; cases h.2.2]
    exact .refl _ q
  · exact (passes_omitArea x c b q).apart _ hb

theorem apart_beaconOmitted (hi : i ∈ c.items) (x : StationNo) (p : Part) :
    Apart i.area (beaconTaken x c p) (beaconOmitted x c p) := by
  unfold beaconOmitted
  exact foldl_keeps (P := Apart i.area (beaconTaken x c p)) (fun q b h => h.trans (apart_omitArea_listed hi x b q))
    (.refl _ _) allAreas

/-- The parts at which a listed area has its turns: `p₁` as it is taken, `p₃` as it is compared, `p₅` as it may enter
EMERGENCY. -/
structure Course (x : StationNo) (c : BeaconContent) (i : BeaconItem) (p p₁ p₃ p₅ : Part) : Prop where
  start : Apart i.area p p₁
  taken : Apart i.area (takeItem x c.period p₁ i) p₃
  table : p₃.atu = p.atu
  compared : Apart i.area (compareItem x p₃ i) p₅
  tripped : Apart i.area (tripFromItem x p₅ i) (beaconTripped x c p)
  rings : (tripFromItem x p₅ i).anu.trip = true → (beaconTripped x c p).anu.trip = true
  single : c.items = [i] → p₁ = beaconHeard x c p ∧ p₃ = beaconOmitted x c p

theorem exists_course (hl : c.items.Pairwise fun i j => i.area ≠ j.area) (hi : i ∈ c.items) (x : StationNo) (p : Part) :
    ∃ p₁ p₃ p₅, Course x c i p p₁ p₃ p₅ := by
  obtain ⟨l₁, l₂, hlist, hstart, htaken⟩ := foldl_turn (R := Apart i.area) (Apart.refl _) Apart.trans hi hl
    (fun j hj q => (moves_takeItem x c.period j q).1.apart _ hj.symm) (beaconHeard x c p)
  obtain ⟨m₁, m₂, hmist, hcompare, hcompared⟩ := foldl_turn (R := ApartTable i.area) (fun p => ⟨.refl _ p, rfl⟩)
    ApartTable.trans hi hl (fun j hj q => ⟨(passes_compareItem x j q).apart _ hj.symm, (compareItem_frame q x j).2.1⟩)
    (beaconOmitted x c p)
  obtain ⟨n₁, n₂, -, htrip, htripped⟩ := foldl_turn (R := ApartTrip i.area) (fun p => ⟨.refl _ p, id⟩) ApartTrip.trans hi hl
    (fun j hj q => ⟨(passes_tripFromItem x j q).apart _ hj.symm, (passes_tripFromItem x j q).trip⟩) (beaconCompared x c p)
  have hempty : ∀ {u v : List BeaconItem}, c.items = [i] → c.items = u ++ i :: v → u = [] := fun hone h => by
    rw [hone] at h
    have hlength := congrArg List.length h
    simp only [List.length_append, List.length_cons, List.length_nil] at hlength
    exact List.length_eq_zero_iff.1 (by omega)
  refine ⟨_, _, _, (apart_beaconHeard _ x c p).trans hstart, (htaken.trans (apart_beaconOmitted hi x p)).trans hcompare.1,
    hcompare.2.trans (atu_beaconOmitted x c p), hcompared.1.trans htrip.1, htripped.1, htripped.2, fun hone => ?_⟩
  rw [hempty hone hlist, hempty hone hmist]
  exact ⟨rfl, rfl⟩

/-! ## The end of the step for one area -/

theorem served_settleAreas (a : Area) (p : Part) : Served a p (settleAreas p) := by
  obtain ⟨y, hy⟩ := view_settleAreas p a
  obtain ⟨hstc, hlif, -⟩ := settleAreas_frame p
  exact ⟨hstc, by rw [hlif]; exact id, fun k z hz _ _ => by rw [hlif]; exact hz, .inl (by rw [hy]; rfl), holds_settleAreas p a⟩

/-- What a view says of the holder: all but the role, the emergency state and the marks of SYNC-REQUESTs. -/
def View.record (v : View) : View :=
  { v with role := .none, emergency := false, mismatch := 0, syncMark := .none, resync := 0, startup := false }

theorem Served.record (h : Served a p q) : (view q a).record = (view p a).record := by
  rcases h.bare with hb | ⟨-, -, hb⟩
  · have := congrArg View.record hb
    exact this
  · have := congrArg View.record hb
    exact this

/-- The holder stands while the area is served. -/
theorem Served.holder (h : Served a p q) : (view q a).holder = (view p a).holder := by
  have := congrArg View.holder h.record
  exact this

theorem Served.orphaned (h : Served a p q) : orphaned q a = orphaned p a := by
  rw [Machine.orphaned, Machine.orphaned, h.holder, h.held]

/-- An area that is not orphaned is not claimed. -/
theorem served_judgeClaims (h : orphaned p a = false) : Served a p (judgeClaims p) := by
  unfold judgeClaims
  refine foldl_keeps (P := Served a p) (fun q b hq => hq.trans ?_) (.refl a p) allAreas
  by_cases hb : a = b
  · have hnot : canClaim q b = false := by
      rw [← hb, canClaim, hq.orphaned, h]
      rfl
    rw [claimArea_idle hnot]
    exact .refl a q
  · exact ((passes_claimArea q b).apart a hb).served

theorem pairwise_allAreas : allAreas.Pairwise fun u v => id u ≠ id v := nodup_allAreas

/-- An area's start-up request is judged once (R105). -/
theorem judgeStartup_turn (h : starting p = true) (a : Area) :
    ∃ q, Apart a p q ∧ Apart a (judgeStartupArea q a) (judgeStartup p) := by
  obtain ⟨l₁, -, -, hbefore, hafter⟩ := foldl_turn (R := Apart a) (Apart.refl a) Apart.trans (f := judgeStartupArea) (key := id)
    (mem_allAreas a) pairwise_allAreas (fun b hb q => (passes_judgeStartupArea q b).apart a hb.symm) p
  refine ⟨_, hbefore, ?_⟩
  rw [judgeStartup, if_pos h]
  exact hafter

theorem judgeStartup_idle (h : starting p = false) : judgeStartup p = p := by rw [judgeStartup, h]; rfl

end Sys2Proof.Machine
end


section
/-! PROOFS. What a beacon's taking makes of a listed area (R99, R100, R109): its holder and its emergency state. -/

namespace Sys2Proof.Machine

variable {p q r : Part} {a b : Area} {x : StationNo} {c : BeaconContent} {i : BeaconItem} {per : PeriodCode}

/-! ## What is recorded of the holder -/

/-- What the view says of the holder stands, and the area is held as it was. -/
def Recorded (a : Area) (p q : Part) : Prop := (view q a).record = (view p a).record ∧ holds q a = holds p a

theorem Recorded.trans (h : Recorded a p q) (k : Recorded a q r) : Recorded a p r := ⟨k.1.trans h.1, k.2.trans h.2⟩

theorem Served.recorded (h : Served a p q) : Recorded a p q := ⟨h.record, h.held⟩

theorem Recorded.holder (h : Recorded a p q) : (view q a).holder = (view p a).holder := by
  have := congrArg View.holder h.1
  exact this

theorem Recorded.orphaned (h : Recorded a p q) : orphaned q a = orphaned p a := by
  rw [Machine.orphaned, Machine.orphaned, h.holder, h.2]

theorem recorded_modView (a : Area) {f : View → View} (hf : ∀ v, (f v).record = v.record) (hr : ∀ v, (f v).role = v.role)
    (p : Part) : Recorded a p (modView a f p) :=
  ⟨by rw [view_modView_self, hf], holds_of_role (by rw [view_modView_self, hr])⟩

theorem recorded_of_queues (h : Queues p q) (a : Area) : Recorded a p q := by
  obtain ⟨m, hm⟩ := h.views a
  exact ⟨by rw [hm]; rfl, holds_of_role (by rw [hm])⟩

theorem recorded_issueSync (a : Area) (p : Part) : Recorded a p (issueSync a p) :=
  (recorded_of_queues (queues_pushTelegram (.syncRequest a) p) a).trans
    (recorded_modView a (fun _ => by rfl) (fun _ => by rfl) _)

theorem recorded_compareItem (x : StationNo) (i : BeaconItem) (p : Part) : Recorded i.area p (compareItem x p i) := by
  have hcount := recorded_modView i.area (f := fun v => { v with mismatch := min 2 (v.mismatch + 1) }) (fun _ => by rfl)
    (fun _ => by rfl) p
  unfold compareItem
  simp only
  (repeat' split)
  · exact recorded_modView i.area (fun _ => by rfl) (fun _ => by rfl) p
  · exact hcount.trans (recorded_issueSync ..)
  · exact hcount
  · exact ⟨rfl, rfl⟩

theorem served_tripped (a : Area) (x : StationNo) (w : Reason) (p : Part) : Served a p (tripped a x w p) := by
  have hview : view (tripped a x w p) a = { view p a with emergency := true } := by rw [view_tripped, view_modView_self]
  exact ⟨rfl, id, fun _ _ h _ _ => h, .inl (by rw [hview]; rfl), holds_of_role (by rw [hview])⟩

/-- An area that enters EMERGENCY keeps the rest of its view. -/
theorem served_enterEmergency (a : Area) (x : StationNo) (w : Reason) (p : Part) : Served a p (enterEmergency a x w p) := by
  cases h : emergency p a with
  | true =>
    rw [enterEmergency, h]
    exact .refl a p
  | false => exact (served_tripped a x w p).trans ((passes_fromTripped (T := noArea) x w h).apart a id).served

theorem served_tripFromItem (x : StationNo) (i : BeaconItem) (p : Part) : Served i.area p (tripFromItem x p i) := by
  unfold tripFromItem
  split
  · exact served_enterEmergency ..
  · exact .refl _ p

theorem emergency_enterEmergency (a : Area) (x : StationNo) (w : Reason) (p : Part) :
    emergency (enterEmergency a x w p) a = true := by
  cases h : emergency p a with
  | true =>
    rw [enterEmergency, h]
    exact h
  | false => rw [((passes_fromTripped (T := noArea) x w h).apart a id).emergency, emergency_tripped]; simp

theorem recorded_judgeStartupArea (p : Part) (a : Area) : Recorded a p (judgeStartupArea p a) := by
  unfold judgeStartupArea
  simp only
  split
  · exact (recorded_issueSync a p).trans (recorded_modView a (fun _ => by rfl) (fun _ => by rfl) _)
  · exact ⟨rfl, rfl⟩

theorem recorded_judgeStartup (p : Part) (a : Area) : Recorded a p (judgeStartup p) := by
  cases h : starting p with
  | false => rw [judgeStartup_idle h]; exact ⟨rfl, rfl⟩
  | true =>
    obtain ⟨q, hbefore, hafter⟩ := judgeStartup_turn h a
    exact (hbefore.served.recorded.trans (recorded_judgeStartupArea q a)).trans hafter.served.recorded

/-- An area that is not orphaned keeps its holder to the end of the step. -/
theorem recorded_beaconEnd (h : orphaned p a = false) : Recorded a p (beaconEnd p) := by
  have hsettled := served_settleAreas a p
  exact (hsettled.recorded.trans (served_judgeClaims (hsettled.orphaned.trans h)).recorded).trans (recorded_judgeStartup _ a)

theorem emergency_beaconEnd (p : Part) (a : Area) : emergency (beaconEnd p) a = emergency p a := by
  have hstartup : Settles (judgeClaims (settleAreas p)) (beaconEnd p) := by
    unfold beaconEnd judgeStartup
    exact settles_ite _ (settles_foldl settles_judgeStartupArea allAreas _) (.refl _)
  exact (((settles_settleAreas p).trans (settles_judgeClaims _)).trans hstartup).emergency a

/-- From its turn in step 1 on, a listed area keeps its holder, when it has one or is held. -/
theorem Course.recorded {p₁ p₃ p₅ : Part} (h : Course x c i p p₁ p₃ p₅) (ho : orphaned (takeItem x c.period p₁ i) i.area = false) :
    Recorded i.area (takeItem x c.period p₁ i) (beaconEnd (beaconTripped x c p)) := by
  have hcompared := (h.taken.served.recorded.trans (recorded_compareItem x i p₃)).trans h.compared.served.recorded
  have htripped := (hcompared.trans (served_tripFromItem x i p₅).recorded).trans h.tripped.served.recorded
  exact htripped.trans (recorded_beaconEnd (htripped.orphaned.trans ho))

/-- An item that carries emergency leaves its area in EMERGENCY (R109). -/
theorem Course.emergency {p₁ p₃ p₅ : Part} (h : Course x c i p p₁ p₃ p₅) (hi : i.emergency = true) :
    emergency (beaconEnd (beaconTripped x c p)) i.area = true := by
  rw [emergency_beaconEnd, h.tripped.emergency, tripFromItem, if_pos hi, emergency_enterEmergency]

/-! ## Step 1 for one item (R99, R100) -/

/-- The view of an area not held here as station `x`'s item records it: a changed holder ends what was kept of SYNC-REQUESTs. -/
def takenView (x : StationNo) (per : PeriodCode) (i : BeaconItem) (v : View) : View :=
  holderFrom x per i (if v.holder = x then v else { v with mismatch := 0, resync := 0, syncMark := v.syncMark.unowed })

theorem events_dropForeignSync (a : Area) (x : StationNo) (p : Part) : (dropForeignSync a x p).cnp.events = p.cnp.events := by
  have hdrop : ∀ j, (dropReception j p).cnp.events = p.cnp.events := fun j => by
    unfold dropReception
    split
    · rfl
    · exact (queues_withdrawTelegram _ p).events
  unfold dropForeignSync
  (repeat' split)
  · rfl
  · rfl
  · exact hdrop _
  · rfl

theorem takeItem_free (hh : holds p i.area = false) (hr : (view p i.area).holder = 0 ∨ (view p i.area).holder = x ∨
    x.toNat < (view p i.area).holder.toNat) : ∃ q, view q i.area = takenView x per i (view p i.area) ∧ q.stc = p.stc ∧
      q.lif.slots = p.lif.slots ∧ q.cnp = p.cnp ∧
      (.syncRequest i.area ∈ q.lif.waiting → .syncRequest i.area ∈ p.lif.waiting ∧ (view p i.area).holder = x) ∧
      takeItem x per p i = dropForeignSync i.area x q ∧ Passes (noArea) q (takeItem x per p i) := by
  refine ⟨modView i.area (holderFrom x per i) (if (view p i.area).holder = x then p else dropOwedSync i.area p),
    ?_, ?_, ?_, ?_, ?_, ?_, ?_⟩
  · rw [view_modView_self, takenView]
    split
    · rfl
    · rw [view_dropOwedSync, if_pos rfl]
  · split
    · rfl
    · exact (dropOwedSync_frame p i.area).1
  · split <;> rfl
  · split
    · rfl
    · exact (dropOwedSync_frame p i.area).2.2.2.2.2.2
  · split
    · next hx => exact fun h => ⟨h, hx⟩
    · intro h
      have hgone : Owner.syncRequest i.area ∉ p.lif.waiting.filter fun o => decide (o ≠ .syncRequest i.area) := by simp
      exact absurd h hgone
  · rw [takeItem, hh]
    simp only [Bool.false_eq_true, if_false]
    rw [if_pos hr]
  · rw [takeItem, hh]
    simp only [Bool.false_eq_true, if_false]
    rw [if_pos hr]
    exact passes_dropForeignSync ..

theorem takeItem_lower (hh : holds p i.area = false) (h0 : (view p i.area).holder ≠ 0)
    (hlow : (view p i.area).holder.toNat < x.toNat) : takeItem x per p i = p := by
  rw [takeItem, hh]
  simp only [Bool.false_eq_true, if_false]
  refine if_neg fun h => ?_
  rcases h with h | h | h
  · exact h0 h
  · rw [h] at hlow; exact absurd hlow (Nat.lt_irrefl _)
  · omega

theorem takeItem_held (hh : holds p i.area = true) : takeItem x per p i = conflict x per i p := if_pos hh

theorem takeItem_kept (hh : holds p i.area = true) (hx : p.stc.number.toNat < x.toNat) : takeItem x per p i = callBeacon p := by
  rw [takeItem_held hh, conflict, if_neg (by omega)]

/-- The role and the emergency state of an area that is not yielded stand in step 1. -/
theorem takeItem_standing (h : holds p i.area = false ∨ p.stc.number.toNat < x.toNat) :
    (view (takeItem x per p i) i.area).role = (view p i.area).role ∧
      emergency (takeItem x per p i) i.area = emergency p i.area ∧ (takeItem x per p i).cnp.events = p.cnp.events := by
  cases hh : holds p i.area with
  | true =>
    have hx := h.resolve_left (by simp [hh])
    rw [takeItem_kept hh hx]
    exact ⟨(apart_callBeacon _ p).role, (apart_callBeacon _ p).emergency, (queues_callBeacon p).events⟩
  | false =>
    by_cases hr : (view p i.area).holder = 0 ∨ (view p i.area).holder = x ∨ x.toNat < (view p i.area).holder.toNat
    · obtain ⟨q, hview, -, -, hcnp, -, heq, hpass⟩ := takeItem_free (per := per) hh hr
      have hapart := hpass.apart i.area id
      have hsame : (takenView x per i (view p i.area)).role = (view p i.area).role ∧
          (takenView x per i (view p i.area)).emergency = (view p i.area).emergency := by
        unfold takenView
        split <;> exact ⟨rfl, rfl⟩
      refine ⟨by rw [hapart.role, hview, hsame.1], ?_, ?_⟩
      · rw [hapart.emergency, emergency, hview, hsame.2]; rfl
      · rw [heq, events_dropForeignSync, hcnp]
    · have hsame : takeItem x per p i = p := by
        rw [takeItem, hh]
        simp only [Bool.false_eq_true, if_false]
        exact if_neg hr
      rw [hsame]
      exact ⟨rfl, rfl, rfl⟩

end Sys2Proof.Machine
end


section
/-! PROOFS. A held area yielded to a lower-numbered station (R96, R100, R133): its view, the events, its offer record. -/

namespace Sys2Proof.Machine

variable {p q r : Part} {a b : Area} {x : StationNo} {c : BeaconContent} {i : BeaconItem} {per : PeriodCode}

/-! ## The offer record freed (R133) -/

theorem closeOffer_none (j : Fin 4) (w : Reason) (b : Bool) (p : Part) : (closeOffer j w b p).hou.offers.get j = none := by
  have hdrop := dropOffer_get j p
  have hanswer : ∀ (o : Offer) (t : Bool), (if t then addAnswer none o.area o.target o.number false (dropOffer j p)
      else dropOffer j p).hou.offers.get j = none := fun o t => by
    split
    · exact (passes_addAnswer (T := noArea) ..).gone j hdrop
    · exact hdrop
  unfold closeOffer
  split
  · assumption
  · split
    · exact hdrop
    · exact hanswer _ b

theorem dropOffer_rest (j : Fin 4) (p : Part) : (dropOffer j p).cnp.events = p.cnp.events ∧
    (dropOffer j p).cnp.stats.handoversFailed = p.cnp.stats.handoversFailed ∧
    (dropOffer j p).hou.answers.length = p.hou.answers.length := by
  unfold dropOffer
  split
  · exact ⟨rfl, rfl, rfl⟩
  · next o _ =>
    have h := handles_withdrawTelegram (.offer j o.serial) p
    exact ⟨h.queues.events, h.failed, h.queues.answers⟩

theorem addAnswer_rest (w : Option ReplyReason) (b : Area) (y : StationNo) (n : Byte) (p : Part) :
    (addAnswer w b y n false p).cnp.events = p.cnp.events ∧
      (addAnswer w b y n false p).cnp.stats.handoversFailed = p.cnp.stats.handoversFailed ∧
      (p.hou.answers.length < 4 → (w, b, y, n) ∈ (addAnswer w b y n false p).hou.answers.map AnswerItem.subject) := by
  unfold addAnswer
  simp only
  split
  · refine ⟨(queues_pushTelegram ..).events, (handles_pushTelegram ..).failed, fun _ => ?_⟩
    simp only [Bool.false_eq_true, if_false]
    rw [(handles_pushTelegram _ _).subjects]
    change _ ∈ (p.hou.answers ++ [_]).map _
    rw [List.map_append]
    exact List.mem_append_right _ (List.mem_singleton.2 rfl)
  · next hfull => exact ⟨rfl, rfl, fun h => absurd h hfull⟩

/-- A HANDOVER offer record that is freed with a WITHDRAW. -/
theorem closeOffer_handover {j : Fin 4} {o : Offer} (ho : p.hou.offers.get j = some o) (hk : o.kind = .handover) (w : Reason) :
    (p.cnp.events.length < 64 → (closeOffer j w true p).cnp.events = p.cnp.events ++ [offerClosedEvent p.stc.seconds w o]) ∧
      (p.hou.answers.length < 4 → withdrawOf o ∈ (closeOffer j w true p).hou.answers.map AnswerItem.subject) ∧
      (closeOffer j w true p).cnp.stats.handoversFailed = p.cnp.stats.handoversFailed + 1 := by
  obtain ⟨hevents, hfailed, hlength⟩ := dropOffer_rest j p
  obtain ⟨haevents, hafailed, hsubject⟩ := addAnswer_rest none o.area o.target o.number (dropOffer j p)
  have hclose : closeOffer j w true p = countFailed (produce (offerClosedEvent 0 w o)
      (addAnswer none o.area o.target o.number false (dropOffer j p))) := by
    simp only [closeOffer, ho, hk, if_true]
    rfl
  have hnow : now (addAnswer none o.area o.target o.number false (dropOffer j p)) = p.stc.seconds := by
    rw [now, (addAnswer_frame _ none o.area o.target o.number false).1, (dropOffer_frame p j).1]
  rw [hclose]
  refine ⟨fun hroom => ?_, fun hfew => hsubject (hlength ▸ hfew), ?_⟩
  · have hstored := events_produce (p := addAnswer none o.area o.target o.number false (dropOffer j p))
      (e := offerClosedEvent 0 w o) (by rw [haevents, hevents]; exact hroom)
    rw [haevents, hevents, hnow] at hstored
    exact hstored
  · change ((Cnp.storing _ _ _).stats.handoversFailed + 1) = _
    rw [storing_stats, hafailed, hfailed]

/-! ## The area yielded (R96, R100) -/

/-- CONFLICT, for an area yielded to station `x`. -/
def conflictEvent (a : Area) (x : StationNo) : Event := { kind := .conflict, area := some a, station := some x }

/-- The holder recorded and CONFLICT stored. -/
def conflictSeen (x : StationNo) (per : PeriodCode) (i : BeaconItem) (p : Part) : Part :=
  produce (conflictEvent i.area x) (modView i.area (holderFrom x per i) p)

/-- The role taken from the area. -/
def conflictLost (x : StationNo) (per : PeriodCode) (i : BeaconItem) (p : Part) : Part :=
  changeRole i.area (unheldRole (conflictSeen x per i p) i.area) (conflictSeen x per i p)

/-- Its offer record freed. -/
def conflictClosed (x : StationNo) (per : PeriodCode) (i : BeaconItem) (p : Part) : Part :=
  closeOfferFor i.area .conflict true (conflictLost x per i p)

theorem view_conflictLost (x : StationNo) (per : PeriodCode) (i : BeaconItem) (p : Part) :
    (view (conflictLost x per i p) i.area).record = (holderFrom x per i (view p i.area)).record ∧
      holds (conflictLost x per i p) i.area = false := by
  have hseen : view (conflictSeen x per i p) i.area = holderFrom x per i (view p i.area) := view_modView_self ..
  have hview : view (conflictLost x per i p) i.area =
      (holderFrom x per i (view p i.area)).withRole (unheldRole (conflictSeen x per i p) i.area) := by
    rw [conflictLost, view_changeRole, if_pos rfl, hseen]; rfl
  refine ⟨by rw [hview]; rfl, ?_⟩
  rw [holds, hview]
  exact decide_eq_false (unheldRole_annunciated (conflictSeen x per i p) i.area).1

theorem conflictLost_frame (x : StationNo) (per : PeriodCode) (i : BeaconItem) (p : Part) :
    (conflictLost x per i p).stc = p.stc ∧ (conflictLost x per i p).hou = p.hou ∧
      (conflictLost x per i p).cnp = p.cnp.storing p.stc.seconds (conflictEvent i.area x) := by
  obtain ⟨hstc, -, -, -, -, hhou, hcnp⟩ :=
    changeRole_frame (conflictSeen x per i p) i.area (unheldRole (conflictSeen x per i p) i.area)
  exact ⟨hstc, hhou, hcnp⟩

/-- What follows once the offer record is freed: no area's view changes. -/
theorem passes_conflictClosed (x : StationNo) (per : PeriodCode) (i : BeaconItem) (p : Part) :
    Passes noArea (conflictLost x per i p) (conflictClosed x per i p) := passes_closeOfferFor ..

/-- An area that is yielded has a holder: no claim delay starts. -/
theorem conflict_eq (hx : x ≠ 0) (hlow : x.toNat < p.stc.number.toNat) : conflict x per i p =
    callBeacon (afterLoss (modStats (fun s => { s with conflictsYielded := s.conflictsYielded + 1 })
      (conflictClosed x per i p))) := by
  have hholder : (view (conflictClosed x per i p) i.area).holder = x := by
    rw [((passes_conflictClosed x per i p).apart i.area id).served.holder]
    have := congrArg View.holder (view_conflictLost x per i p).1
    exact this
  have hnot : orphaned (conflictClosed x per i p) i.area = false := by
    rw [orphaned, hholder, decide_eq_false hx]; rfl
  have hlose : loseArea i.area (holderFrom x per i) { kind := .conflict, area := some i.area, station := some x } .conflict true p =
      startClaimDelay i.area (conflictClosed x per i p) := rfl
  rw [conflict, if_pos hlow]
  simp only
  rw [hlose, startClaimDelay, hnot]
  rfl

theorem moves_afterClosed (x : StationNo) (per : PeriodCode) (i : BeaconItem) (p : Part) :
    Moves noArea (conflictClosed x per i p) (callBeacon (afterLoss (modStats
      (fun s => { s with conflictsYielded := s.conflictsYielded + 1 }) (conflictClosed x per i p)))) := by
  have hcount : ∀ q, Moves noArea q (modStats (fun s => { s with conflictsYielded := s.conflictsYielded + 1 }) q) :=
    fun q => ⟨rfl, rfl, List.prefix_refl _, id, fun _ h => h, fun _ h => h, fun _ _ => apart_of_lif rfl rfl rfl⟩
  exact (hcount _).trans ((passes_afterLoss _).trans (passes_callBeacon _)).toMoves

/-- An area yielded is recorded with its new holder, and held no more. -/
theorem conflict_record (hx : x ≠ 0) (hlow : x.toNat < p.stc.number.toNat) :
    (view (conflict x per i p) i.area).record = (holderFrom x per i (view p i.area)).record ∧
      holds (conflict x per i p) i.area = false := by
  obtain ⟨hrecord, hnot⟩ := view_conflictLost x per i p
  have hrest := (((passes_conflictClosed x per i p).toMoves.trans (moves_afterClosed x per i p)).apart i.area id).served
  rw [conflict_eq hx hlow]
  exact ⟨hrest.record.trans hrecord, hrest.held.trans hnot⟩

theorem failed_afterLoss (p : Part) :
    (callBeacon (afterLoss p)).cnp.stats.handoversFailed = p.cnp.stats.handoversFailed := by
  rw [(handles_callBeacon _).failed]
  unfold afterLoss cancelRelief
  (repeat' split)
  · rfl
  · rw [produce_cnp, storing_stats]; rfl
  · rfl

/-- The offer record of an area yielded: it goes, a HANDOVER one with OFFER-CLOSED after CONFLICT and a WITHDRAW. -/
theorem conflict_offer (hx : x ≠ 0) (hlow : x.toNat < p.stc.number.toNat) {j : Fin 4} {o : Offer}
    (hf : offerFor p i.area = some j) (ho : p.hou.offers.get j = some o) :
    (conflict x per i p).hou.offers.get j = none ∧ (o.kind = .handover →
      (p.cnp.events.length + 2 ≤ 64 → p.cnp.events ++ [{ conflictEvent i.area x with time := p.stc.seconds },
        offerClosedEvent p.stc.seconds .conflict o] <+: (conflict x per i p).cnp.events) ∧
      (p.hou.answers.length < 4 → withdrawOf o ∈ (conflict x per i p).hou.answers.map AnswerItem.subject) ∧
      (conflict x per i p).cnp.stats.handoversFailed = p.cnp.stats.handoversFailed + 1) := by
  obtain ⟨hstc, hhou, hcnp⟩ := conflictLost_frame x per i p
  have hrest := moves_afterClosed x per i p
  have hfor : offerFor (conflictLost x per i p) i.area = some j := by
    rw [← hf, offerFor, offerFor, hhou]
  have hclosed : conflictClosed x per i p = closeOffer j .conflict true (conflictLost x per i p) := by
    rw [conflictClosed, closeOfferFor, hfor]
  have hget : (conflictLost x per i p).hou.offers.get j = some o := by rw [hhou, ho]
  rw [conflict_eq hx hlow]
  refine ⟨hrest.gone j (by rw [hclosed, closeOffer_none]), fun hk => ?_⟩
  obtain ⟨hevents, hsubject, hfailed⟩ := closeOffer_handover hget hk .conflict
  rw [← hclosed] at hevents hsubject hfailed
  refine ⟨fun hroom => ?_, fun hfew => hrest.subjects _ (hsubject (by rw [hhou]; exact hfew)), ?_⟩
  · have hone : (conflictLost x per i p).cnp.events = p.cnp.events ++ [{ conflictEvent i.area x with time := p.stc.seconds }] := by
      rw [hcnp, storing_events (by omega)]
    have htwo := hevents (by rw [hone, List.length_append, List.length_singleton]; omega)
    rw [hone, hstc, List.append_assoc] at htwo
    exact htwo ▸ hrest.log
  · rw [failed_afterLoss]
    change (conflictClosed x per i p).cnp.stats.handoversFailed = _
    rw [hfailed, hcnp, storing_stats]

/-- CONFLICT stands first. -/
theorem conflict_events (hx : x ≠ 0) (hlow : x.toNat < p.stc.number.toNat) (hroom : p.cnp.events.length < 64) :
    p.cnp.events ++ [{ conflictEvent i.area x with time := p.stc.seconds }] <+: (conflict x per i p).cnp.events := by
  have hlog := ((passes_conflictClosed x per i p).toMoves.trans (moves_afterClosed x per i p)).log
  rw [conflict_eq hx hlow]
  rwa [LogGrows, (conflictLost_frame x per i p).2.2, storing_events hroom] at hlog

end Sys2Proof.Machine
end


section
/-! PROOFS. The station list, the areas a beacon omits, the count of conflicts, and the events of a beacon of one item (R93, R99, R109). -/

namespace Sys2Proof.Machine

variable {p q r : Part} {a b : Area} {x : StationNo} {c : BeaconContent} {i : BeaconItem}

/-! ## The station list (R93) -/

theorem find_insertHeard (h : Heard) (l : List Heard) : (insertHeard h l).find? (fun y => decide (y.station = h.station)) = some h := by
  induction l with
  | nil => simp [insertHeard]
  | cons y l ih =>
    unfold insertHeard
    split
    · simp
    · split
      · simp
      · next _ hne =>
        rw [List.find?_cons_of_neg (by simpa using Ne.symm hne)]
        exact ih

theorem find_insertHeard_other {h : Heard} {z : StationNo} (hz : z ≠ h.station) (l : List Heard) :
    (insertHeard h l).find? (fun y => decide (y.station = z)) = l.find? (fun y => decide (y.station = z)) := by
  have hself : decide (h.station = z) = false := decide_eq_false (Ne.symm hz)
  induction l with
  | nil => simp [insertHeard, hself]
  | cons y l ih =>
    unfold insertHeard
    split
    · rw [List.find?_cons_of_neg (by simp [hself])]
    · split
      · next _ heq =>
        rw [List.find?_cons_of_neg (by simp [hself]), List.find?_cons_of_neg (by rw [← heq]; simp [hself])]
      · rw [List.find?_cons, List.find?_cons, ih]

/-- The whole of a beacon's taking leaves the station list as the station's own record makes it. -/
theorem stations_beaconEnd (x : StationNo) (c : BeaconContent) (p : Part) :
    (beaconEnd (beaconTripped x c p)).aru.stations =
      insertHeard { station := x, period := c.period, age := 0, credential := c.credential } p.aru.stations :=
  (passes_afterTaken x c p).stations.trans (moves_beaconTaken x c p).stations

theorem heardRecord_beaconEnd (x : StationNo) (c : BeaconContent) (p : Part) :
    heardRecord (beaconEnd (beaconTripped x c p)) x =
      some { station := x, period := c.period, age := 0, credential := c.credential } ∧
    ∀ y, y ≠ x → heardRecord (beaconEnd (beaconTripped x c p)) y = heardRecord p y := by
  unfold heardRecord
  rw [stations_beaconEnd]
  exact ⟨find_insertHeard { station := x, period := c.period, age := 0, credential := c.credential } _,
    fun y hy => find_insertHeard_other hy _⟩

/-! ## Areas the beacon omits (R99) -/

theorem holderCleared_of_record {v w : View} (h : w.record = v.record) (hv : holderCleared v) : holderCleared w := by
  have hrecord : holderCleared w.record := by rw [h]; exact hv
  exact hrecord

/-- An area with no holder has none at the end of the step, claimed or not. -/
theorem holderCleared_beaconEnd (h : holderCleared (view p a)) : holderCleared (view (beaconEnd p) a) := by
  have hsettled := holderCleared_of_record (served_settleAreas a p).record h
  have hclaims : holderCleared (view (judgeClaims (settleAreas p)) a) := by
    rcases view_judgeClaims (settleAreas p) a with hv | hv
    · rw [hv]; exact hsettled
    · rw [hv]; exact ⟨rfl, rfl, rfl, rfl, rfl, rfl, rfl, rfl, rfl⟩
  exact holderCleared_of_record (recorded_judgeStartup _ a).1 hclaims

theorem holderCleared_forgotten (v : View) (n : Nat) : holderCleared (v.forgotten n) :=
  ⟨rfl, rfl, rfl, rfl, rfl, rfl, rfl, rfl, rfl⟩

/-- The area's holder is cleared as it is omitted. -/
theorem omitArea_cleared (hc : covered c a = true) (hx : (view p a).holder = x) (hl : ∀ i ∈ c.items, i.area ≠ a) :
    holderCleared (view (omitArea x c p a) a) := by
  have hnone : (c.items.any fun j => decide (j.area = a)) = false := by
    rw [List.any_eq_false]
    exact fun j hj => by simpa using hl j hj
  have hclear : holderCleared (view (startClaimDelay a (clearHolder a p)) a) := by
    have hview : holderCleared (view (clearHolder a p) a) := by
      rw [view_clearHolder, if_pos rfl]
      exact holderCleared_forgotten ..
    unfold startClaimDelay
    split
    · rw [view_modView_self]; exact hview
    · exact hview
  rw [omitArea, if_pos ⟨hc, hx, hnone⟩]
  simp only
  split
  · exact hclear
  · exact hclear

theorem omitted_cleared (hc : covered c a = true) (hl : ∀ i ∈ c.items, i.area ≠ a) (hx : (view p a).holder = x) :
    holderCleared (view (beaconEnd (beaconTripped x c p)) a) := by
  have hother : ¬∃ i ∈ c.items, a = i.area := fun ⟨i, hi, ha⟩ => hl i hi ha.symm
  have htaken : Apart a p (beaconTaken x c p) := (apart_beaconHeard a x c p).trans ((moves_beaconTaken x c p).apart a hother)
  obtain ⟨l₁, -, -, hbefore, hafter⟩ := foldl_turn (R := Apart a) (Apart.refl a) Apart.trans (f := omitArea x c) (key := id)
    (mem_allAreas a) pairwise_allAreas (fun b hb q => (passes_omitArea x c b q).apart a hb.symm) (beaconTaken x c p)
  have hholder := (htaken.trans hbefore).served.holder.trans hx
  have homitted : Apart a (omitArea x c (l₁.foldl (omitArea x c) (beaconTaken x c p)) a) (beaconOmitted x c p) := by
    unfold beaconOmitted; exact hafter
  have hrest := (homitted.trans ((passes_beaconCompared x c p).apart a hother)).trans ((passes_beaconTripped x c p).apart a hother)
  exact holderCleared_beaconEnd (holderCleared_of_record hrest.served.record (omitArea_cleared hc hholder hl))

/-- HOLDER-LOST, for an area that station `x` omits. -/
def omittedEvent (n : Seconds) (x : StationNo) (a : Area) : Event :=
  { kind := .holderLost, time := n, area := some a, station := some x, reason := some .omitted }

/-- The followed area that a beacon of station `x` without items covers, when that station held it. -/
def omittedBy (x : StationNo) (c : BeaconContent) (p : Part) (a : Area) : Bool :=
  covered c a && decide ((view p a).holder = x) && followed p a

theorem omittedBy_other (h : b ≠ a) (x : StationNo) (c : BeaconContent) (p : Part) :
    omittedBy x c (omitArea x c p a) b = omittedBy x c p b := by
  have hserved := ((passes_omitArea x c a p).apart b h).served
  obtain ⟨hstc, -, -, -, -, hhou⟩ := omitArea_frame p x c a
  unfold omittedBy followed inHome inStandby inWatch receptionFor
  rw [hserved.holder, hserved.held, hstc, hhou]

theorem startClaimDelay_cleared (a : Area) (p : Part) : (startClaimDelay a (clearHolder a p)).cnp = p.cnp ∧
    now (startClaimDelay a (clearHolder a p)) = p.stc.seconds := by simp [now]

theorem events_omitArea (hempty : c.items = []) (hroom : p.cnp.events.length < 64) (hby : omittedBy x c p a = true) :
    (omitArea x c p a).cnp.events = p.cnp.events ++ [omittedEvent p.stc.seconds x a] := by
  obtain ⟨hcnp, hnow⟩ := startClaimDelay_cleared a p
  simp only [omittedBy, Bool.and_eq_true, decide_eq_true_eq] at hby
  obtain ⟨⟨hcov, hx⟩, hf⟩ := hby
  rw [omitArea, if_pos ⟨hcov, hx, by rw [hempty]; rfl⟩]
  simp only
  rw [if_pos hf, events_produce (by rw [hcnp]; exact hroom), hcnp, hnow]
  rfl

theorem events_omitArea_silent (hby : omittedBy x c p a = false) : (omitArea x c p a).cnp.events = p.cnp.events := by
  obtain ⟨hcnp, -⟩ := startClaimDelay_cleared a p
  unfold omitArea
  simp only
  split
  · next hc =>
    obtain ⟨hcov, hx, -⟩ := hc
    have hf : ¬followed p a = true := fun hf => by simp [omittedBy, hcov, hx, hf] at hby
    rw [if_neg hf, hcnp]
  · rfl

theorem foldl_omitArea (hempty : c.items = []) (x : StationNo) (l : List Area) (hl : l.Nodup) (p : Part)
    (hroom : p.cnp.events.length + (l.filter (omittedBy x c p)).length ≤ 64) :
    (l.foldl (omitArea x c) p).cnp.events = p.cnp.events ++ (l.filter (omittedBy x c p)).map (omittedEvent p.stc.seconds x) := by
  induction l generalizing p with
  | nil => simp
  | cons b l ih =>
    obtain ⟨hb, hl⟩ := List.nodup_cons.1 hl
    have hrest : l.filter (omittedBy x c (omitArea x c p b)) = l.filter (omittedBy x c p) :=
      List.filter_congr fun a ha => omittedBy_other (ne_of_mem_of_not_mem ha hb) x c p
    have hlater := ih hl (omitArea x c p b)
    rw [hrest, (omitArea_frame p x c b).1] at hlater
    rw [List.foldl_cons]
    cases hby : omittedBy x c p b with
    | true =>
      rw [List.filter_cons_of_pos hby] at hroom ⊢
      rw [List.length_cons] at hroom
      have hone := events_omitArea hempty (p := p) (by omega) hby
      rw [hlater (by rw [hone, List.length_append, List.length_singleton]; omega), hone, List.append_assoc]
      rfl
    | false =>
      have hsame := events_omitArea_silent hby
      rw [List.filter_cons_of_neg (by simp [hby])] at hroom ⊢
      rw [hlater (by rw [hsame]; exact hroom), hsame]

theorem omitted_events (hempty : c.items = []) (x : StationNo) (p : Part)
    (hroom : p.cnp.events.length + ((List.finRange 16).filter (omittedBy x c p)).length ≤ 64) :
    p.cnp.events ++ ((List.finRange 16).filter (omittedBy x c p)).map (omittedEvent p.stc.seconds x) <+:
      (beaconEnd (beaconTripped x c p)).cnp.events := by
  have htaken : beaconTaken x c p = beaconHeard x c p := by rw [beaconTaken, hempty]; rfl
  have hevents : (beaconOmitted x c p).cnp.events =
      p.cnp.events ++ (allAreas.filter (omittedBy x c p)).map (omittedEvent p.stc.seconds x) := by
    unfold beaconOmitted
    rw [htaken]
    exact foldl_omitArea hempty x allAreas nodup_allAreas (beaconHeard x c p) hroom
  have hlog := (((passes_beaconCompared x c p).any.trans (passes_beaconTripped x c p).any).trans
    (passes_beaconEnd (beaconTripped x c p))).log
  rw [LogGrows, hevents] at hlog
  exact hlog

/-! ## The count of conflicts (R100) -/

theorem holds_takeItem_other {j : BeaconItem} (h : j.area ≠ i.area) (x : StationNo) (per : PeriodCode) (p : Part) :
    holds (takeItem x per p i) j.area = holds p j.area := ((moves_takeItem x per i p).1.apart j.area h).served.held

theorem foldl_takeItem_yielded (x : StationNo) (per : PeriodCode) (l : List BeaconItem)
    (hl : l.Pairwise fun i j => i.area ≠ j.area) (p : Part) :
    (l.foldl (takeItem x per) p).cnp.stats.conflictsYielded = p.cnp.stats.conflictsYielded +
      BitVec.ofNat 16 (l.countP fun i => holds p i.area && decide (x.toNat < p.stc.number.toNat)) := by
  induction l generalizing p with
  | nil => exact (BitVec.add_zero _).symm
  | cons i l ih =>
    obtain ⟨hi, hl⟩ := List.pairwise_cons.1 hl
    have hrest : (l.countP fun j => holds (takeItem x per p i) j.area && decide (x.toNat < p.stc.number.toNat)) =
        l.countP fun j => holds p j.area && decide (x.toNat < p.stc.number.toNat) :=
      List.countP_congr fun j hj => by rw [holds_takeItem_other (hi j hj).symm]
    have hlater := ih hl (takeItem x per p i)
    rw [(takeItem_frame p x per i).1, hrest, (moves_takeItem x per i p).2] at hlater
    rw [List.foldl_cons, hlater, List.countP_cons, Nat.add_comm, BitVec.ofNat_add, BitVec.add_assoc]
    congr 2
    by_cases h : holds p i.area = true ∧ x.toNat < p.stc.number.toNat
    · simp [h]
    · rw [if_neg h, if_neg (by simpa using h)]
      rfl

theorem yielded_beaconEnd (hl : c.items.Pairwise fun i j => i.area ≠ j.area) (x : StationNo) (p : Part) :
    (beaconEnd (beaconTripped x c p)).cnp.stats.conflictsYielded = p.cnp.stats.conflictsYielded +
      BitVec.ofNat 16 (c.items.countP fun i => holds p i.area && decide (x.toNat < p.stc.number.toNat)) :=
  (passes_afterTaken x c p).yielded.trans (foldl_takeItem_yielded x c.period c.items hl (beaconHeard x c p))

/-! ## A beacon of one item -/

theorem queues_issued (a : Area) (p : Part) : emergency (issueSync a p) a = emergency p a ∧
    (view (issueSync a p) a).role = (view p a).role ∧ (issueSync a p).cnp.events = p.cnp.events := by
  have hqueues := queues_pushTelegram (.syncRequest a) p
  obtain ⟨m, hm⟩ := hqueues.views a
  refine ⟨?_, ?_, hqueues.events⟩
  · rw [issueSync, emergency, view_modView_self, hm]; rfl
  · rw [issueSync, view_modView_self, hm]

/-- A comparison leaves emergency state and role, and reports nothing. -/
theorem compareItem_standing (x : StationNo) (i : BeaconItem) (p : Part) :
    emergency (compareItem x p i) i.area = emergency p i.area ∧
      (view (compareItem x p i) i.area).role = (view p i.area).role ∧ (compareItem x p i).cnp.events = p.cnp.events := by
  have hmod : ∀ n : View → Nat, emergency (modView i.area (fun v => { v with mismatch := n v }) p) i.area = emergency p i.area ∧
      (view (modView i.area (fun v => { v with mismatch := n v }) p) i.area).role = (view p i.area).role := fun n => by
    rw [emergency, view_modView_self]
    exact ⟨rfl, rfl⟩
  unfold compareItem
  simp only
  (repeat' split)
  · exact ⟨(hmod fun _ => 0).1, (hmod fun _ => 0).2, rfl⟩
  · obtain ⟨he, hr, hl⟩ := queues_issued i.area (modView i.area (fun v => { v with mismatch := min 2 (v.mismatch + 1) }) p)
    exact ⟨he.trans (hmod _).1, hr.trans (hmod _).2, hl⟩
  · exact ⟨(hmod _).1, (hmod _).2, rfl⟩
  · exact ⟨rfl, rfl, rfl⟩

section
variable (hone : c.items = [i])
include hone

theorem beaconTaken_one (x : StationNo) (p : Part) : beaconTaken x c p = takeItem x c.period (beaconHeard x c p) i := by
  rw [beaconTaken, hone]; rfl

/-- What a beacon of one item has stored by the end of step 1 stands. -/
theorem log_one (x : StationNo) (p : Part) :
    LogGrows (takeItem x c.period (beaconHeard x c p) i) (beaconEnd (beaconTripped x c p)) := by
  rw [← beaconTaken_one hone]
  exact (passes_afterTaken x c p).log

/-- AREA-TRIPPED stands first when the beacon's one area is not yielded and no other loses its holder (R109). -/
theorem tripped_one (hkept : holds p i.area = false ∨ p.stc.number.toNat < x.toNat) (hi : i.emergency = true)
    (hem : emergency p i.area = false) (hnone : ∀ a, a ≠ i.area → covered c a = true → (view p a).holder ≠ x)
    (hroom : p.cnp.events.length < 64) :
    p.cnp.events ++ [{ kind := .areaTripped, time := p.stc.seconds, area := some i.area, station := some x,
                       reason := some .beacon }] <+: (beaconEnd (beaconTripped x c p)).cnp.events := by
  obtain ⟨-, hemergency, hevents⟩ := takeItem_standing (p := beaconHeard x c p) (x := x) (per := c.period) (i := i) hkept
  have homitted : beaconOmitted x c p = beaconTaken x c p := by
    unfold beaconOmitted
    refine foldl_keeps (P := fun q => q = beaconTaken x c p) (fun q b hq => ?_) rfl allAreas
    rw [hq]
    refine if_neg fun ⟨hcov, hx, hlisted⟩ => ?_
    have hb : b ≠ i.area := fun hb => by rw [hone, hb] at hlisted; simp at hlisted
    refine hnone b hb hcov ?_
    rw [← hx, beaconTaken_one hone]
    exact ((moves_takeItem x c.period i (beaconHeard x c p)).1.apart b hb).served.holder.symm
  have hcompared : beaconCompared x c p = compareItem x (takeItem x c.period (beaconHeard x c p) i) i := by
    rw [beaconCompared, homitted, hone, beaconTaken_one hone]; rfl
  have hnormal : emergency (beaconCompared x c p) i.area = false := by
    rw [hcompared, (compareItem_standing x i _).1, hemergency]
    exact hem
  have hlist : (beaconCompared x c p).cnp.events = p.cnp.events := by
    rw [hcompared, (compareItem_standing x i _).2.2, hevents]
    rfl
  have hstc : (beaconCompared x c p).stc = p.stc := by
    rw [hcompared, (compareItem_frame _ x i).1, (takeItem_frame _ x c.period i).1]
    rfl
  have htripped : beaconTripped x c p = enterEmergency i.area x .beacon (beaconCompared x c p) := by
    rw [beaconTripped, hone]
    exact if_pos hi
  have hstored := tripped_events i.area x .beacon (p := beaconCompared x c p) (by rw [hlist]; exact hroom)
  rw [hlist, hstc] at hstored
  have hlog := (passes_fromTripped (T := noArea) x .beacon hnormal).log
  rw [← htripped] at hlog
  exact (hstored.trans hlog).trans (passes_beaconEnd (beaconTripped x c p)).log

end

end Sys2Proof.Machine
end


section
/-! PROOFS. The comparison of counts and signatures, and the SYNC-REQUEST it brings about (R104, R105). -/

namespace Sys2Proof.Machine

variable {p q r : Part} {a b : Area} {x : StationNo} {c : BeaconContent} {i : BeaconItem} {per : PeriodCode} {m n : Nat} {su : Bool}
  {k : SyncMark}

/-! ## What a view keeps of its SYNC-REQUEST -/

/-- The view of an area of station `x` keeps mismatch count `m`, resync pending `n`, start-up request `su` and the mark `k`: an
owed one may have been served, and no other waits. -/
structure Marks (a : Area) (x : StationNo) (m n : Nat) (su : Bool) (k : SyncMark) (q : Part) : Prop where
  holder : (view q a).holder = x
  mismatch : (view q a).mismatch = m
  resync : (view q a).resync = n
  startup : (view q a).startup = su
  clear : k ≠ .owed → (view q a).syncMark = k ∧ .syncRequest a ∉ q.lif.waiting
  owed : k = .owed → (view q a).syncMark ≠ .none
  held : holds q a = false

/-- A SYNC-REQUEST has been issued for the area: in the queue, or owed. -/
structure Issued (a : Area) (m : Nat) (su : Bool) (q : Part) : Prop where
  mismatch : (view q a).mismatch = m
  resync : (view q a).resync = 30
  startup : (view q a).startup = su
  mark : (view q a).syncMark = .queued ∨ (view q a).syncMark = .owed
  barred : sendingOpen q = false → (view q a).syncMark = .owed

theorem sendingOpen_congr (h : q.stc = p.stc) : sendingOpen q = sendingOpen p := by unfold sendingOpen starting running; rw [h]

/-- Serving an area changes nothing of its SYNC-REQUEST but the mark of one that waits. -/
theorem Served.kept (h : Served a p q) : (view q a).mismatch = (view p a).mismatch ∧ (view q a).resync = (view p a).resync ∧
    (view q a).startup = (view p a).startup ∧ ((view q a).syncMark = (view p a).syncMark ∨
      (.syncRequest a ∈ p.lif.waiting ∧ sendingOpen p = true ∧ (view q a).syncMark = .queued)) := by
  rcases h.bare with hb | ⟨hwait, hopen, hb⟩
  · have hm := congrArg View.mismatch hb
    have hr := congrArg View.resync hb
    have hs := congrArg View.startup hb
    have hk := congrArg View.syncMark hb
    exact ⟨hm, hr, hs, .inl hk⟩
  · have hm := congrArg View.mismatch hb
    have hr := congrArg View.resync hb
    have hs := congrArg View.startup hb
    have hk := congrArg View.syncMark hb
    exact ⟨hm, hr, hs, .inr ⟨hwait, hopen, hk⟩⟩

theorem Marks.served (h : Marks a x m n su k p) (hs : Served a p q) : Marks a x m n su k q := by
  obtain ⟨hm, hr, hst, hk⟩ := hs.kept
  refine ⟨hs.holder.trans h.holder, hm.trans h.mismatch, hr.trans h.resync, hst.trans h.startup, fun hne => ?_, fun howed => ?_,
    hs.held.trans h.held⟩
  · obtain ⟨hmark, hout⟩ := h.clear hne
    refine ⟨?_, fun hin => hout (hs.waiting hin)⟩
    rcases hk with hk | ⟨hwait, -⟩
    · exact hk.trans hmark
    · exact absurd hwait hout
  · rcases hk with hk | ⟨-, -, hk⟩
    · rw [hk]; exact h.owed howed
    · rw [hk]; exact nofun

theorem Issued.served (h : Issued a m su p) (hs : Served a p q) : Issued a m su q := by
  obtain ⟨hm, hr, hst, hk⟩ := hs.kept
  refine ⟨hm.trans h.mismatch, hr.trans h.resync, hst.trans h.startup, ?_, fun hshut => ?_⟩
  · rcases hk with hk | ⟨-, -, hk⟩
    · rw [hk]; exact h.mark
    · exact .inl hk
  · rw [sendingOpen_congr hs.stc] at hshut
    rcases hk with hk | ⟨-, hopen, -⟩
    · rw [hk]; exact h.barred hshut
    · rw [hshut] at hopen; cases hopen

theorem Marks.orphaned (h : Marks a x m n su k p) (hx : x ≠ 0) : orphaned p a = false := by
  rw [Machine.orphaned, h.holder, decide_eq_false hx]; rfl

/-- The mark is clear only when it is expected to be. -/
theorem Marks.none_iff (h : Marks a x m n su k p) : (view p a).syncMark = .none ↔ k = .none := by
  by_cases hk : k = .owed
  · exact ⟨fun hnone => absurd hnone (h.owed hk), fun hnone => by rw [hk] at hnone; cases hnone⟩
  · rw [(h.clear hk).1]

/-! ## A SYNC-REQUEST issued (R105) -/

theorem ownerTelegram_syncRequest (h : (view p a).holder = x) (hx : x ≠ 0) :
    ownerTelegram p (.syncRequest a) = some (ownTelegram p x (.syncRequest a)) := by
  simp only [ownerTelegram, h, if_neg hx]

theorem view_pushSync (hh : (view p a).holder ≠ 0) : ∃ k', view (pushTelegram (.syncRequest a) p) a = { view p a with syncMark := k' } ∧
    (k' = .queued ∨ k' = .owed) ∧ (sendingOpen p = false → k' = .owed) := by
  have ht := ownerTelegram_syncRequest rfl hh
  have hmay : ownerMayQueue p (.syncRequest a) = sendingOpen p := rfl
  rw [pushTelegram, ht]
  simp only [hmay]
  cases hopen : sendingOpen p with
  | false =>
    refine ⟨.owed, ?_, .inr rfl, fun _ => rfl⟩
    rw [if_neg Bool.false_ne_true, markOwed, view_modView_self]
  | true =>
    rw [if_pos rfl]
    split
    · refine ⟨.queued, ?_, .inl rfl, nofun⟩
      rw [markEntered, view_modView_self, view_placeTelegram]
      rfl
    · refine ⟨.owed, ?_, .inr rfl, nofun⟩
      rw [markOwed, view_modView_self]
      rfl

theorem issued_issueSync (hx : x ≠ 0) (h : Marks a x m n su k p) : Issued a m su (issueSync a p) := by
  have hne : (view p a).holder ≠ 0 := by rw [h.holder]; exact hx
  obtain ⟨k', hview, hmark, hbarred⟩ := view_pushSync hne
  have hissued : view (issueSync a p) a = { view p a with syncMark := k', resync := 30 } := by
    rw [issueSync, view_modView_self, hview]; rfl
  have hopen : sendingOpen (issueSync a p) = sendingOpen p := sendingOpen_congr (issueSync_frame p a).1
  refine ⟨?_, ?_, ?_, ?_, fun hshut => ?_⟩ <;> rw [hissued]
  · exact h.mismatch
  · exact h.startup
  · exact hmark
  · exact hbarred (hopen ▸ hshut)

/-- With a slot free in STARTING or RUNNING the request is put in the queue. -/
theorem issueSync_queued (hx : x ≠ 0) (hh : (view p a).holder = x) (hopen : sendingOpen p = true) (ho : occupied p < 12) :
    (view (issueSync a p) a).syncMark = .queued ∧ ∃ j y, (issueSync a p).lif.slots.get j = some y ∧ y.owner = .syncRequest a ∧
      y.state = .waiting ∧ y.telegram = { source := p.stc.number, destination := x, payload := .syncRequest a } := by
  obtain ⟨j, -, hpush⟩ := pushTelegram_entered (ownerTelegram_syncRequest hh hx)
    (show ownerMayQueue p (.syncRequest a) = true from hopen) ho
  have hslots : (issueSync a p).lif.slots =
      (placedIn j (.syncRequest a) (ownTelegram p x (.syncRequest a)) (leaveWaiting (.syncRequest a) p).lif).slots := by
    rw [issueSync, modView_lif, hpush, (markEntered_frame _ _).2.1]
  refine ⟨?_, j, _, by rw [hslots]; exact setAt_get_self .., rfl, rfl, rfl⟩
  rw [issueSync, view_modView_self, hpush, markEntered, view_modView_self]

/-! ## Step 1 for the marks (R99; log 17) -/

/-- The mark after step 1: an owed request of another holder is dropped. -/
def markTaken (x : StationNo) (v : View) : SyncMark := if v.holder = x then v.syncMark else v.syncMark.unowed

theorem marks_taken {p₁ : Part} (hstart : Apart i.area p p₁) (hh : holds p i.area = false)
    (hr : (view p i.area).holder = 0 ∨ (view p i.area).holder = x ∨ x.toNat < (view p i.area).holder.toNat)
    (howed : (view p i.area).syncMark = .owed → (view p i.area).holder = x ∨ view p₁ i.area = view p i.area)
    (hout : (view p i.area).syncMark ≠ .owed → .syncRequest i.area ∉ p.lif.waiting) :
    Marks i.area x (if (view p i.area).holder = x then (view p i.area).mismatch else 0)
      (if (view p i.area).holder = x then (view p i.area).resync else 0) (view p i.area).startup
      (markTaken x (view p i.area)) (takeItem x per p₁ i) := by
  have hholder := hstart.served.holder
  have hheld : holds p₁ i.area = false := hstart.served.held.trans hh
  obtain ⟨hm, hrs, hst, hk⟩ := hstart.served.kept
  obtain ⟨q, hview, -, -, -, hwait, -, hpass⟩ := takeItem_free (per := per) hheld (by rw [hholder]; exact hr)
  rw [hholder] at hwait
  refine Marks.served ?_ (hpass.apart i.area id).served
  have hmark : (view q i.area).syncMark =
      if (view p i.area).holder = x then (view p₁ i.area).syncMark else (view p₁ i.area).syncMark.unowed := by
    rw [hview, takenView, hholder]
    split <;> rfl
  refine ⟨by rw [hview]; rfl, ?_, ?_, ?_, fun hne => ?_, fun he => ?_, ?_⟩
  · rw [hview, takenView, hholder]
    split
    · exact hm
    · rfl
  · rw [hview, takenView, hholder]
    split
    · exact hrs
    · rfl
  · rw [hview, takenView]
    split <;> exact hst
  · by_cases hsame : (view p i.area).holder = x
    · rw [markTaken, if_pos hsame] at hne ⊢
      have hnot := hout hne
      refine ⟨?_, fun hin => hnot (hstart.served.waiting (hwait hin).1)⟩
      rw [hmark, if_pos hsame]
      exact hk.resolve_right fun h => hnot h.1
    · refine ⟨?_, fun hin => hsame (hwait hin).2⟩
      rw [markTaken, if_neg hsame, hmark, if_neg hsame]
      by_cases hold : (view p i.area).syncMark = .owed
      · rw [(howed hold).resolve_left hsame]
      · rw [hk.resolve_right fun h => hout hold h.1]
  · rw [markTaken] at he
    split at he
    · next hsame =>
      rw [hmark, if_pos hsame]
      rcases hk with hk | ⟨-, -, hk⟩
      · rw [hk, he]; exact nofun
      · rw [hk]; exact nofun
    · cases hs : (view p i.area).syncMark <;> rw [hs] at he <;> cases he
  · have hrole : (view q i.area).role = (view p₁ i.area).role := by
      rw [hview, takenView]
      split <;> rfl
    exact (holds_of_role hrole).trans hheld

/-! ## The comparison (R104) -/

/-- The count and the signature of the item are those of the table. -/
def agreesWith (i : BeaconItem) (p : Part) : Bool :=
  decide (i.count.toNat = areaCount p i.area) && decide (i.signature = areaSignature p i.area)

/-- The mismatch count that a comparison leaves. -/
def mismatchAfter (i : BeaconItem) (p : Part) (m : Nat) : Nat := if agreesWith i p = true then 0 else min 2 (m + 1)

/-- A comparison asks for the area's state. -/
def asksFor (i : BeaconItem) (p : Part) (m n : Nat) (k : SyncMark) : Prop :=
  agreesWith i p = false ∧ mismatchAfter i p m = 2 ∧ n = 0 ∧ k = .none

theorem agreesWith_congr (h : q.atu = p.atu) (i : BeaconItem) : agreesWith i q = agreesWith i p := by
  unfold agreesWith areaCount areaSignature areaEntries; rw [h]

theorem Marks.withMismatch (h : Marks a x m n su k p) (f : View → Nat) {l : Nat} (hf : f (view p a) = l) :
    Marks a x l n su k (modView a (fun v => { v with mismatch := f v }) p) := by
  have hview : view (modView a (fun v => { v with mismatch := f v }) p) a = { view p a with mismatch := f (view p a) } :=
    view_modView_self ..
  refine ⟨?_, ?_, ?_, ?_, fun hne => ⟨?_, (h.clear hne).2⟩, fun he => ?_, (holds_of_role (by rw [hview])).trans h.held⟩ <;>
    rw [hview]
  · exact h.holder
  · exact hf
  · exact h.resync
  · exact h.startup
  · exact (h.clear hne).1
  · exact h.owed he

/-- The part with the mismatch count raised. -/
def recounted (a : Area) (p : Part) : Part := modView a (fun v => { v with mismatch := min 2 (v.mismatch + 1) }) p

theorem compareItem_eq (hx : (view p i.area).holder = x) (hf : followed p i.area = true) (hh : holds p i.area = false) :
    compareItem x p i = if agreesWith i p = true then modView i.area (fun v => { v with mismatch := 0 }) p
      else if (view (recounted i.area p) i.area).mismatch = 2 ∧ (view (recounted i.area p) i.area).resync = 0 ∧
          (view (recounted i.area p) i.area).syncMark = .none then issueSync i.area (recounted i.area p)
        else recounted i.area p := by
  have hagree : (i.count.toNat = areaCount p i.area ∧ i.signature = areaSignature p i.area) ↔ agreesWith i p = true := by
    simp [agreesWith]
  rw [compareItem, if_pos ⟨hx, hf, hh⟩]
  simp only [hagree]
  rfl

/-- A comparison that does not ask leaves the new mismatch count. -/
theorem Marks.compared (h : Marks i.area x m n su k p) (hf : followed p i.area = true) (hnot : ¬asksFor i p m n k) :
    Marks i.area x (mismatchAfter i p m) n su k (compareItem x p i) := by
  rw [compareItem_eq h.holder hf h.held]
  cases ha : agreesWith i p with
  | true =>
    rw [if_pos rfl, mismatchAfter, if_pos ha]
    exact h.withMismatch (fun _ => 0) rfl
  | false =>
    have hcount : mismatchAfter i p m = min 2 (m + 1) := by rw [mismatchAfter, ha]; rfl
    have hmarks : Marks i.area x (min 2 (m + 1)) n su k (recounted i.area p) :=
      h.withMismatch (fun v => min 2 (v.mismatch + 1)) (by rw [h.mismatch])
    rw [if_neg Bool.false_ne_true, hcount, if_neg]
    · exact hmarks
    · rw [hmarks.mismatch, hmarks.resync, hmarks.none_iff]
      exact fun hask => hnot ⟨ha, hcount.trans hask.1, hask.2⟩

/-- One that asks issues the request. -/
theorem Marks.asked (h : Marks i.area x m n su k p) (hf : followed p i.area = true) (hask : asksFor i p m n k) :
    Marks i.area x (mismatchAfter i p m) n su k (recounted i.area p) ∧ compareItem x p i = issueSync i.area (recounted i.area p) := by
  obtain ⟨ha, htwo, hn, hk⟩ := hask
  have hcount : mismatchAfter i p m = min 2 (m + 1) := by rw [mismatchAfter, ha]; rfl
  have hmarks : Marks i.area x (mismatchAfter i p m) n su k (recounted i.area p) := by
    rw [hcount]
    exact h.withMismatch (fun v => min 2 (v.mismatch + 1)) (by rw [h.mismatch])
  refine ⟨hmarks, ?_⟩
  rw [compareItem_eq h.holder hf h.held, ha, if_neg Bool.false_ne_true, if_pos]
  exact ⟨hmarks.mismatch.trans htwo, hmarks.resync.trans hn, hmarks.none_iff.2 hk⟩

/-! ## The start-up requests (R105) -/

/-- The area's start-up request is served. -/
def startsUp (p : Part) (n : Nat) (su : Bool) (k : SyncMark) : Prop := starting p = true ∧ su = true ∧ n = 0 ∧ k = .none

/-- A request issued leaves nothing for start-up. -/
theorem Issued.startup_served (h : Issued a m su p) : Served a p (judgeStartup p) := by
  cases hs : starting p with
  | false => rw [judgeStartup_idle hs]; exact .refl a p
  | true =>
    obtain ⟨q, hbefore, hafter⟩ := judgeStartup_turn hs a
    have hidle : judgeStartupArea q a = q := by
      unfold judgeStartupArea
      refine if_neg fun hc => ?_
      rcases (h.served hbefore.served).mark with hm | hm
      · rw [hm] at hc; cases hc.2.2.2
      · rw [hm] at hc; cases hc.2.2.2
    rw [hidle] at hafter
    exact hbefore.served.trans hafter.served

theorem judgeStartupArea_idle (h : Marks a x m n su k p) (hnot : ¬(su = true ∧ n = 0 ∧ k = .none)) : judgeStartupArea p a = p := by
  unfold judgeStartupArea
  refine if_neg fun ⟨hs, _, hr, hk⟩ => hnot ?_
  rw [h.startup] at hs
  rw [h.resync] at hr
  exact ⟨hs, hr, h.none_iff.1 hk⟩

theorem Marks.startup_idle (h : Marks a x m n su k p) (hnot : ¬startsUp p n su k) : Marks a x m n su k (judgeStartup p) := by
  cases hs : starting p with
  | false => rw [judgeStartup_idle hs]; exact h
  | true =>
    obtain ⟨q, hbefore, hafter⟩ := judgeStartup_turn hs a
    have hq := h.served hbefore.served
    rw [judgeStartupArea_idle hq fun hc => hnot ⟨hs, hc⟩] at hafter
    exact hq.served hafter.served

theorem Marks.startup_served (hx : x ≠ 0) (h : Marks a x m n su k p) (hup : startsUp p n su k) :
    Issued a m false (judgeStartup p) := by
  obtain ⟨hs, hsu, hn, hk⟩ := hup
  obtain ⟨q, hbefore, hafter⟩ := judgeStartup_turn hs a
  have hq := h.served hbefore.served
  have hissued := issued_issueSync hx hq
  have hjudged : judgeStartupArea q a = modView a (fun v => { v with startup := false }) (issueSync a q) := by
    unfold judgeStartupArea
    exact if_pos ⟨hq.startup.trans hsu, by rw [hq.holder]; exact hx, hq.resync.trans hn, hq.none_iff.2 hk⟩
  have hview : view (judgeStartupArea q a) a = { view (issueSync a q) a with startup := false } := by
    rw [hjudged, view_modView_self]
  have hopen : sendingOpen (judgeStartupArea q a) = sendingOpen (issueSync a q) := by rw [hjudged]; rfl
  refine Issued.served ⟨?_, ?_, ?_, ?_, fun hshut => ?_⟩ hafter.served <;> rw [hview]
  · exact hissued.mismatch
  · exact hissued.resync
  · exact hissued.mark
  · exact hissued.barred (hopen ▸ hshut)

end Sys2Proof.Machine
end


section
/-! PROOFS. The slots that a beacon of one item leaves free (R135, R153, R154). -/

namespace Sys2Proof.Machine

variable {p q r : Part} {a b : Area} {x : StationNo} {c : BeaconContent} {i : BeaconItem} {per : PeriodCode}

/-- A count goes down where the predicate is lost. -/
theorem countP_lt {α : Type} {f g : α → Bool} {l : List α} {k : α} (hk : k ∈ l) (hfg : ∀ x, f x = true → g x = true)
    (hf : f k = false) (hg : g k = true) : l.countP f < l.countP g := by
  obtain ⟨l₁, l₂, rfl⟩ := List.append_of_mem hk
  have hmono : ∀ l : List α, l.countP f ≤ l.countP g := fun l => List.countP_mono_left fun x _ => hfg x
  have hfirst := hmono l₁
  have hsecond := hmono l₂
  rw [List.countP_append, List.countP_append, List.countP_cons_of_neg (by simp [hf]), List.countP_cons_of_pos hg]
  omega

theorem occupied_setSlot_none {k : Fin 12} {y : Slot} (h : p.lif.slots.get k = some y) :
    occupied (setSlot k none p) < occupied p := by
  refine countP_lt (k := k) (List.mem_finRange k) (fun j hj => ?_) ?_ (by rw [h]; rfl)
  · change ((setAt p.lif.slots k none).get j).isSome = true at hj
    rw [setAt_get] at hj
    split at hj
    · cases hj
    · exact hj
  · change ((setAt p.lif.slots k none).get k).isSome = false
    rw [setAt_get_self]
    rfl

theorem occupied_setSlot_some {k : Fin 12} {y z : Slot} (h : p.lif.slots.get k = some y) :
    occupied (setSlot k (some z) p) = occupied p := by
  refine List.countP_congr fun j _ => ?_
  change ((setAt p.lif.slots k (some z)).get j).isSome = true ↔ _
  rw [setAt_get]
  split
  · next hj => rw [hj, h]; rfl
  · rfl

theorem places_placeTelegram (o : Owner) (t : Telegram) (p : Part) : Places 1 p (placeTelegram o t p) := by
  cases hf : freeSlotOf p with
  | none =>
    rw [placeTelegram, hf]
    exact .refl p
  | some k =>
    have hfree : p.lif.slots.get k = none :=
      Option.isNone_iff_eq_none.1 (List.find?_some (p := fun k => (p.lif.slots.get k).isNone) hf)
    exact places_placedIn hfree o t (by rw [placeTelegram_eq hf])

theorem occupied_serveWaiting (p : Part) : occupied (serveWaiting p) ≤ occupied p + 1 := by
  unfold serveWaiting
  (repeat' split)
  · exact Nat.le_succ _
  · exact Nat.le_succ _
  · next o _ _ _ t _ =>
    have hplaced := (places_placeTelegram o t (leaveWaiting o p)).few
    have hleave : occupied (leaveWaiting o p) = occupied p := occupied_congr rfl
    rw [occupied_congr (q := markEntered o _) (congrArg Lif.slots (markEntered_frame _ o).2.1)]
    rwa [hleave] at hplaced

theorem room_placeOwedLogin (h : occupied p < 12) : occupied (placeOwedLogin p) < 12 := by
  unfold placeOwedLogin
  split
  · exact h
  · next y _ =>
    split
    · next hc =>
      have hfew : occupied p < 8 := by
        have hadmits := (Bool.and_eq_true_iff.1 hc.2).2
        exact of_decide_eq_true hadmits
      have hplaced := (places_placeTelegram (.session y.number) (ownTelegram p 0 (.login y.credential)) p).few
      have hsame : occupied (modSession (fun y => { y with mark := .queued }) (placeLogin y p)) = occupied (placeLogin y p) :=
        occupied_congr rfl
      rw [hsame, placeLogin]
      omega
    · exact h

/-- A telegram withdrawn leaves a free slot free. -/
theorem room_withdrawTelegram (h : occupied p < 12) (o : Owner) : occupied (withdrawTelegram o p) < 12 := by
  have hleave : occupied (leaveWaiting o p) < 12 := by rwa [occupied_congr (q := leaveWaiting o p) (p := p) rfl]
  unfold withdrawTelegram
  simp only
  split
  · exact hleave
  · next k _ =>
    split
    · exact hleave
    · next y hy =>
      split
      · have hless := occupied_setSlot_none hy
        have hserved := occupied_serveWaiting (setSlot k none (leaveWaiting o p))
        exact room_placeOwedLogin (by omega)
      · rw [occupied_setSlot_some hy]
        exact hleave

theorem room_dropForeignSync (h : occupied p < 12) (a : Area) (x : StationNo) : occupied (dropForeignSync a x p) < 12 := by
  have hdrop : ∀ j, occupied (dropReception j p) < 12 := fun j => by
    unfold dropReception
    split
    · exact h
    · next y _ => exact room_withdrawTelegram h (.reply j y.serial)
  unfold dropForeignSync
  (repeat' split)
  · exact h
  · exact h
  · exact hdrop _
  · exact h

theorem slots_omitArea (x : StationNo) (c : BeaconContent) (a : Area) (p : Part) :
    (omitArea x c p a).lif.slots = p.lif.slots := by
  have hclear : (startClaimDelay a (clearHolder a p)).lif.slots = p.lif.slots := by
    rw [(startClaimDelay_frame _ a).2.1]; rfl
  unfold omitArea
  simp only
  (repeat' split)
  · exact hclear
  · exact hclear
  · rfl

theorem slots_beaconOmitted (x : StationNo) (c : BeaconContent) (p : Part) :
    (beaconOmitted x c p).lif.slots = (beaconTaken x c p).lif.slots := by
  unfold beaconOmitted
  exact foldl_keeps (P := fun q => q.lif.slots = (beaconTaken x c p).lif.slots) (fun q b h => (slots_omitArea x c b q).trans h)
    rfl allAreas

/-- With one slot free before a beacon of one item there is one as the item is compared. -/
theorem room_one (hone : c.items = [i]) (hh : holds p i.area = false)
    (hr : (view p i.area).holder = 0 ∨ (view p i.area).holder = x ∨ x.toNat < (view p i.area).holder.toNat)
    (h : occupied p < 12) : occupied (beaconOmitted x c p) < 12 := by
  obtain ⟨q, -, -, hslots, -, -, heq, -⟩ := takeItem_free (p := beaconHeard x c p) (per := c.period) hh hr
  have hq : occupied q < 12 := by rw [occupied_congr hslots]; exact h
  rw [occupied_congr (slots_beaconOmitted x c p), beaconTaken_one hone, heq]
  exact room_dropForeignSync hq ..

/-! ## The marks through the whole step -/

section
variable {p₁ p₃ p₅ : Part} {m n : Nat} {su : Bool} {k : SyncMark}

theorem Course.stc (h : Course x c i p p₁ p₃ p₅) : p₃.stc = p.stc :=
  h.taken.served.stc.trans (((takeItem_frame p₁ x c.period i).1).trans h.start.served.stc)

theorem Course.followed (h : Course x c i p p₁ p₃ p₅)
    (hset : inHome p i.area = true ∨ inStandby p i.area = true ∨ inWatch p i.area = true) : followed p₃ i.area = true := by
  unfold Machine.followed inHome inStandby inWatch
  rw [h.stc]
  unfold inHome inStandby inWatch at hset
  rcases hset with hset | hset | hset <;> simp [hset]

/-- From the comparison to the start-up requests an area of station `x` is only served. -/
theorem Course.toStartup (h : Course x c i p p₁ p₃ p₅) (ho : orphaned (compareItem x p₃ i) i.area = false) :
    Served i.area (compareItem x p₃ i) (judgeClaims (settleAreas (beaconTripped x c p))) := by
  have htripped := (h.compared.served.trans (served_tripFromItem x i p₅)).trans h.tripped.served
  have hsettled := htripped.trans (served_settleAreas _ _)
  exact hsettled.trans (served_judgeClaims (hsettled.orphaned.trans ho))

theorem Course.toEnd (h : Course x c i p p₁ p₃ p₅) (hx : x ≠ 0) (hm : Marks i.area x m n su k p₃)
    (hf : Machine.followed p₃ i.area = true) (hnot : ¬asksFor i p₃ m n k) :
    Marks i.area x (mismatchAfter i p₃ m) n su k (judgeClaims (settleAreas (beaconTripped x c p))) := by
  have hcompared := hm.compared hf hnot
  exact hcompared.served (h.toStartup (hcompared.orphaned hx))

/-- An item whose comparison asks issues the request, and nothing after that changes it. -/
theorem Course.issued (h : Course x c i p p₁ p₃ p₅) (hx : x ≠ 0) (hm : Marks i.area x m n su k p₃)
    (hf : Machine.followed p₃ i.area = true) (hask : asksFor i p₃ m n k) :
    Issued i.area (mismatchAfter i p₃ m) su (beaconEnd (beaconTripped x c p)) ∧
      (sendingOpen p = true → occupied p₃ < 12 → (view (beaconEnd (beaconTripped x c p)) i.area).syncMark = .queued ∧
        ∃ j y, (beaconEnd (beaconTripped x c p)).lif.slots.get j = some y ∧ y.owner = .syncRequest i.area ∧
          y.state = .waiting ∧ y.telegram = { source := p.stc.number, destination := x, payload := .syncRequest i.area }) := by
  obtain ⟨hmarks, hcompare⟩ := hm.asked hf hask
  have hissued := issued_issueSync hx hmarks
  have ho : orphaned (compareItem x p₃ i) i.area = false := by
    rw [(recorded_compareItem x i p₃).orphaned]; exact hm.orphaned hx
  have hserved := h.toStartup ho
  rw [← hcompare] at hissued
  have hclaims := hissued.served hserved
  have hstart : Served i.area (judgeClaims (settleAreas (beaconTripped x c p))) (beaconEnd (beaconTripped x c p)) :=
    hclaims.startup_served
  refine ⟨hclaims.served hstart, fun hopen hroom => ?_⟩
  have hopen' : sendingOpen (recounted i.area p₃) = true := (sendingOpen_congr h.stc).trans hopen
  obtain ⟨hqueued, j, y, hj, hy⟩ := issueSync_queued hx hmarks.holder hopen' hroom
  rw [← hcompare] at hqueued hj
  obtain ⟨howner, hwaiting, htelegram⟩ := hy
  have hall := hserved.trans hstart
  obtain ⟨-, -, -, hmark⟩ := hall.kept
  refine ⟨?_, j, y, hall.slot j y hj howner hwaiting, howner, hwaiting, ?_⟩
  · rcases hmark with hmark | ⟨-, -, hmark⟩
    · exact hmark.trans hqueued
    · exact hmark
  · rw [htelegram]
    exact congrArg (fun v : Stc => ({ source := v.number, destination := x, payload := .syncRequest i.area } : Telegram)) h.stc

end

end Sys2Proof.Machine
end


section
/-! PROOFS. A BEACON taken (R93, R96, R99 to R101, R104, R105, R109): what each listed area comes to. -/

namespace Sys2Proof.Machine

variable {p q : Part} {x : StationNo} {c : BeaconContent} {i : BeaconItem}

/-- What station `x`'s beacon of content `c` makes of the part. -/
def beaconApplied (x : StationNo) (c : BeaconContent) (p : Part) : Part := beaconEnd (beaconTripped x c p)

section
variable (hl : c.items.Pairwise fun i j => i.area ≠ j.area) (hi : i ∈ c.items)
include hl hi

theorem listed_emergency (x : StationNo) (p : Part) (he : i.emergency = true) :
    (view (beaconApplied x c p) i.area).emergency = true := by
  obtain ⟨p₁, p₃, p₅, h⟩ := exists_course hl hi x p
  exact h.emergency he

/-- The holder of a listed area not held here is the beacon's station, unless a lower-numbered one stands. -/
theorem listed_taken (hx : x ≠ 0) (hh : holds p i.area = false)
    (hr : (view p i.area).holder = 0 ∨ (view p i.area).holder = x ∨ x.toNat < (view p i.area).holder.toNat) :
    (view (beaconApplied x c p) i.area).record = (holderFrom x c.period i (view p i.area)).record ∧
      holds (beaconApplied x c p) i.area = false := by
  obtain ⟨p₁, p₃, p₅, h⟩ := exists_course hl hi x p
  have hstart := h.start.served.recorded
  obtain ⟨y, hview, -, -, -, -, -, hpass⟩ := takeItem_free (per := c.period) (hstart.2.trans hh) (by rw [hstart.holder]; exact hr)
  have hserved := (hpass.apart i.area id).served
  have hrecord : (view y i.area).record = (holderFrom x c.period i (view p i.area)).record := by
    have hone : (view y i.area).record = (holderFrom x c.period i (view p₁ i.area).record).record := by
      rw [hview, takenView]
      split <;> rfl
    rw [hone, hstart.1]
    rfl
  have hheld : holds y i.area = false := by
    have hrole : (view y i.area).role = (view p₁ i.area).role := by
      rw [hview, takenView]
      split <;> rfl
    exact (holds_of_role hrole).trans (hstart.2.trans hh)
  have hholder : (view (takeItem x c.period p₁ i) i.area).holder = x := by
    rw [hserved.holder, hview]; rfl
  have hrest := h.recorded (by rw [orphaned, hholder, decide_eq_false hx]; rfl)
  exact ⟨hrest.1.trans (hserved.record.trans hrecord), hrest.2.trans (hserved.held.trans hheld)⟩

theorem listed_lower (hh : holds p i.area = false) (h0 : (view p i.area).holder ≠ 0)
    (hlow : (view p i.area).holder.toNat < x.toNat) :
    (view (beaconApplied x c p) i.area).record = (view p i.area).record := by
  obtain ⟨p₁, p₃, p₅, h⟩ := exists_course hl hi x p
  have hstart := h.start.served.recorded
  have hsame : takeItem x c.period p₁ i = p₁ :=
    takeItem_lower (hstart.2.trans hh) (by rw [hstart.holder]; exact h0) (by rw [hstart.holder]; exact hlow)
  have hrest := h.recorded (by rw [hsame, hstart.orphaned, orphaned, decide_eq_false h0]; rfl)
  rw [hsame] at hrest
  exact hrest.1.trans hstart.1

/-- A held area is yielded to a lower-numbered station. -/
theorem listed_yielded (hx : x ≠ 0) (hh : holds p i.area = true) (hlow : x.toNat < p.stc.number.toNat) :
    (view (beaconApplied x c p) i.area).record = (holderFrom x c.period i (view p i.area)).record ∧
      holds (beaconApplied x c p) i.area = false := by
  obtain ⟨p₁, p₃, p₅, h⟩ := exists_course hl hi x p
  have hstart := h.start.served.recorded
  have htake := takeItem_held (x := x) (per := c.period) (hstart.2.trans hh)
  obtain ⟨hrecord, hnot⟩ := conflict_record (per := c.period) (p := p₁) (i := i) hx (by rw [h.start.served.stc]; exact hlow)
  rw [← htake] at hrecord hnot
  have hholder : (view (takeItem x c.period p₁ i) i.area).holder = x := by
    have := congrArg View.holder hrecord
    exact this
  have hrest := h.recorded (by rw [orphaned, hholder, decide_eq_false hx]; rfl)
  refine ⟨hrest.1.trans (hrecord.trans ?_), hrest.2.trans hnot⟩
  have hone : ∀ v w : View, v.record = w.record → (holderFrom x c.period i v).record = (holderFrom x c.period i w).record :=
    fun v w hv => by
      have := congrArg (fun u => (holderFrom x c.period i u).record) hv
      exact this
  exact hone _ _ hstart.1

/-- It is kept from a higher-numbered one. -/
theorem listed_kept (hh : holds p i.area = true) (hhigh : p.stc.number.toNat < x.toNat) :
    holds (beaconApplied x c p) i.area = true := by
  obtain ⟨p₁, p₃, p₅, h⟩ := exists_course hl hi x p
  have hheld : holds p₁ i.area = true := h.start.served.held.trans hh
  have htake : takeItem x c.period p₁ i = callBeacon p₁ := takeItem_kept hheld (by rw [h.start.served.stc]; exact hhigh)
  have hcalled : holds (takeItem x c.period p₁ i) i.area = true := by
    rw [htake]; exact (apart_callBeacon _ p₁).served.held.trans hheld
  have hrest := h.recorded (by rw [orphaned, hcalled]; simp)
  exact hrest.2.trans hcalled

/-- An annunciated area that enters EMERGENCY sets T (R46, R109). -/
theorem listed_trip (hkept : holds p i.area = false ∨ p.stc.number.toNat < x.toNat) (he : i.emergency = true)
    (hem : emergency p i.area = false) (hann : annunciated p i.area = true) : (beaconApplied x c p).anu.trip = true := by
  obtain ⟨p₁, p₃, p₅, h⟩ := exists_course hl hi x p
  have hkept' : holds p₁ i.area = false ∨ p₁.stc.number.toNat < x.toNat := by
    rw [h.start.served.held, h.start.served.stc]; exact hkept
  obtain ⟨hrole, hemergency, -⟩ := takeItem_standing (x := x) (per := c.period) hkept'
  obtain ⟨hcemergency, hcrole, -⟩ := compareItem_standing x i p₃
  have hrole₅ : (view p₅ i.area).role = (view p i.area).role :=
    h.compared.role.trans (hcrole.trans (h.taken.role.trans (hrole.trans h.start.role)))
  have hem₅ : emergency p₅ i.area = false :=
    (h.compared.emergency.trans (hcemergency.trans (h.taken.emergency.trans (hemergency.trans h.start.emergency)))).trans hem
  have hann₅ : annunciated p₅ i.area = true := by rw [← hann, annunciated, hrole₅]; rfl
  have hrung : (tripFromItem x p₅ i).anu.trip = true := by
    rw [tripFromItem, if_pos he]
    exact enterEmergency_trip x .beacon hem₅ hann₅
  have hend := (passes_beaconEnd (beaconTripped x c p)).trip (h.rings hrung)
  rw [beaconApplied, hend]

/-- The comparison of a listed area of the configured sets, and its start-up request (R104, R105). -/
theorem listed_compared (hx : x ≠ 0) (hh : holds p i.area = false)
    (hset : inHome p i.area = true ∨ inStandby p i.area = true ∨ inWatch p i.area = true)
    (hr : (view p i.area).holder = 0 ∨ (view p i.area).holder = x ∨ x.toNat < (view p i.area).holder.toNat)
    (howed : (view p i.area).syncMark = .owed → (view p i.area).holder = x ∨ c.items = [i])
    (hout : (view p i.area).syncMark ≠ .owed → .syncRequest i.area ∉ p.lif.waiting) {m n : Nat} {su : Bool} {k : SyncMark}
    (hm : m = if (view p i.area).holder = x then (view p i.area).mismatch else 0)
    (hn : n = if (view p i.area).holder = x then (view p i.area).resync else 0)
    (hsu : su = (view p i.area).startup) (hk : k = markTaken x (view p i.area)) :
    (asksFor i p m n k → Issued i.area (mismatchAfter i p m) su (beaconApplied x c p)) ∧
      (asksFor i p m n k → sendingOpen p = true → c.items = [i] → occupied p < 12 →
        (view (beaconApplied x c p) i.area).syncMark = .queued ∧
          ∃ j y, (beaconApplied x c p).lif.slots.get j = some y ∧ y.owner = .syncRequest i.area ∧ y.state = .waiting ∧
            y.telegram = { source := p.stc.number, destination := x, payload := .syncRequest i.area }) ∧
      (¬asksFor i p m n k → startsUp p n su k → Issued i.area (mismatchAfter i p m) false (beaconApplied x c p)) ∧
      (¬asksFor i p m n k → ¬startsUp p n su k →
        Marks i.area x (mismatchAfter i p m) n su k (beaconApplied x c p)) := by
  obtain ⟨p₁, p₃, p₅, h⟩ := exists_course hl hi x p
  have hmarks : Marks i.area x m n su k p₃ := by
    have htaken := marks_taken (per := c.period) h.start hh hr (fun ho => (howed ho).imp_right fun hone => by
      rw [(h.single hone).1]; rfl) hout
    rw [← hm, ← hn, ← hsu, ← hk] at htaken
    exact htaken.served h.taken.served
  have hagree : agreesWith i p₃ = agreesWith i p := agreesWith_congr h.table i
  have hcount : mismatchAfter i p₃ m = mismatchAfter i p m := by rw [mismatchAfter, mismatchAfter, hagree]
  have hask : asksFor i p₃ m n k ↔ asksFor i p m n k := by rw [asksFor, asksFor, hagree, hcount]
  have hf := h.followed hset
  have hstarting : starting (judgeClaims (settleAreas (beaconTripped x c p))) = starting p := by
    have hstc := ((passes_settleAreas (beaconTripped x c p)).trans (passes_judgeClaims _)).stc
    rw [starting, hstc, (h.tripped.served.stc.trans ((tripFromItem_frame p₅ x i).trans
      (h.compared.served.stc.trans ((compareItem_frame p₃ x i).1.trans h.stc))))]
    rfl
  have hserve : startsUp p n su k → startsUp (judgeClaims (settleAreas (beaconTripped x c p))) n su k := fun hup => by
    rw [startsUp, hstarting]; exact hup
  have hidle : ¬startsUp p n su k → ¬startsUp (judgeClaims (settleAreas (beaconTripped x c p))) n su k := fun hup => by
    rw [startsUp, hstarting]; exact hup
  have hend := h.toEnd hx hmarks hf
  have hissued := h.issued hx hmarks hf
  have happlied : beaconApplied x c p = judgeStartup (judgeClaims (settleAreas (beaconTripped x c p))) := by
    unfold beaconApplied beaconEnd; rfl
  rw [← hask, ← hcount]
  refine ⟨fun ha => ?_, fun ha hopen hone hroom => ?_, fun hnot hup => ?_, fun hnot hup => ?_⟩
  · unfold beaconApplied
    exact (hissued ha).1
  · unfold beaconApplied
    refine (hissued ha).2 hopen ?_
    rw [(h.single hone).2]
    exact room_one hone hh hr hroom
  · rw [happlied]
    exact Marks.startup_served hx (hend hnot) (hserve hup)
  · rw [happlied]
    exact Marks.startup_idle (hend hnot) (hidle hup)

end

/-! ## A held area yielded, the beacon's one item (R96, R133) -/

theorem failed_omitArea (x : StationNo) (c : BeaconContent) (a : Area) (p : Part) :
    (omitArea x c p a).cnp.stats = p.cnp.stats := by
  obtain ⟨hcnp, -⟩ := startClaimDelay_cleared a p
  unfold omitArea
  simp only
  (repeat' split)
  · rw [produce_cnp, storing_stats, hcnp]
  · rw [hcnp]
  · rfl

theorem failed_issueSync (a : Area) (p : Part) :
    (issueSync a p).cnp.stats.handoversFailed = p.cnp.stats.handoversFailed := (handles_pushTelegram (.syncRequest a) p).failed

theorem failed_compareItem (x : StationNo) (i : BeaconItem) (p : Part) :
    (compareItem x p i).cnp.stats.handoversFailed = p.cnp.stats.handoversFailed := by
  unfold compareItem
  simp only
  (repeat' split)
  · rfl
  · exact failed_issueSync ..
  · rfl
  · rfl

theorem failed_beaconEnd (p : Part) : (beaconEnd p).cnp.stats.handoversFailed = p.cnp.stats.handoversFailed := by
  have hclaims : (judgeClaims (settleAreas p)).cnp.stats = p.cnp.stats := by
    rw [(claims_judgeClaims (settleAreas p)).stats, (settleAreas_frame p).2.2.2.2]
  rw [beaconEnd, judgeStartup]
  split
  · refine foldl_keeps (P := fun q => q.cnp.stats.handoversFailed = p.cnp.stats.handoversFailed) (fun q b hq => ?_)
      (by rw [hclaims]) allAreas
    unfold judgeStartupArea
    simp only
    split
    · exact (failed_issueSync b q).trans hq
    · exact hq
  · rw [hclaims]

theorem failed_one (hone : c.items = [i]) (he : i.emergency = false) (x : StationNo) (p : Part) :
    (beaconApplied x c p).cnp.stats.handoversFailed =
      (takeItem x c.period (beaconHeard x c p) i).cnp.stats.handoversFailed := by
  have homitted : (beaconOmitted x c p).cnp.stats = (takeItem x c.period (beaconHeard x c p) i).cnp.stats := by
    rw [← beaconTaken_one hone]
    unfold beaconOmitted
    exact foldl_keeps (P := fun q => q.cnp.stats = (beaconTaken x c p).cnp.stats) (fun q b h => (failed_omitArea x c b q).trans h)
      rfl allAreas
  have hcompared : beaconCompared x c p = compareItem x (beaconOmitted x c p) i := by rw [beaconCompared, hone]; rfl
  have htripped : beaconTripped x c p = beaconCompared x c p := by
    rw [beaconTripped, hone]
    exact if_neg (by simp [he])
  rw [beaconApplied, failed_beaconEnd, htripped, hcompared, failed_compareItem, homitted]

theorem one_yielded (hone : c.items = [i]) (hx : x ≠ 0) (hh : holds p i.area = true) (hlow : x.toNat < p.stc.number.toNat) :
    (p.cnp.events.length < 64 → p.cnp.events ++ [{ conflictEvent i.area x with time := p.stc.seconds }] <+:
      (beaconApplied x c p).cnp.events) ∧
    ∀ r o, offerFor p i.area = some r → p.hou.offers.get r = some o → (beaconApplied x c p).hou.offers.get r = none ∧
      (o.kind = .handover →
        (p.cnp.events.length + 2 ≤ 64 → p.cnp.events ++ [{ conflictEvent i.area x with time := p.stc.seconds },
          offerClosedEvent p.stc.seconds .conflict o] <+: (beaconApplied x c p).cnp.events) ∧
        (p.hou.answers.length < 4 → withdrawOf o ∈ (beaconApplied x c p).hou.answers.map AnswerItem.subject) ∧
        (i.emergency = false → (beaconApplied x c p).cnp.stats.handoversFailed = p.cnp.stats.handoversFailed + 1)) := by
  have htake : takeItem x c.period (beaconHeard x c p) i = conflict x c.period i (beaconHeard x c p) := takeItem_held hh
  have hlog : LogGrows (conflict x c.period i (beaconHeard x c p)) (beaconApplied x c p) := htake ▸ log_one hone x p
  have hrest : Passes anyArea (conflict x c.period i (beaconHeard x c p)) (beaconApplied x c p) := by
    rw [← htake, ← beaconTaken_one hone]
    exact passes_afterTaken x c p
  refine ⟨fun hroom => (conflict_events (p := beaconHeard x c p) hx hlow hroom).trans hlog, fun r o hf ho => ?_⟩
  obtain ⟨hgone, hhandover⟩ := conflict_offer (p := beaconHeard x c p) (per := c.period) hx hlow hf ho
  refine ⟨hrest.gone r hgone, fun hk => ?_⟩
  obtain ⟨hevents, hsubject, hfailed⟩ := hhandover hk
  refine ⟨fun hroom => (hevents hroom).trans hlog, fun hfew => hrest.subjects _ (hsubject hfew), fun he => ?_⟩
  rw [failed_one hone he, htake, hfailed]
  rfl

end Sys2Proof.Machine
end


section
/-! PROOFS. TAKE_BEACON (R93, R96, R99 to R101, R104, R105, R107, R109, R133): the command. -/

namespace Sys2Proof.Machine

variable {p q : Part} {x : StationNo} {c : BeaconContent} {i : BeaconItem} {t : Telegram} {s : State}

theorem exec_takeBeacon (h : nextTelegram s.part t) (hp : t.payload = .beacon c) :
    Machine.exec .takeBeacon s = .next (s.withPart (popRing (applyBeacon t.source c s.part))) := by
  rw [← takeTelegram_eq (f := takenBeacon) h (by rw [takenBeacon, hp])]
  rfl

/-- A beacon of a station that is not RUNNING, or of a source outside 1..62, is dropped (R99). -/
theorem applyBeacon_dropped (h : c.state ≠ .running ∨ x = 0 ∨ x = 63) (p : Part) : applyBeacon x c p = p := by
  unfold applyBeacon
  refine if_neg fun ⟨hs, hlow, hhigh⟩ => ?_
  rcases h with h | rfl | rfl
  · exact h hs
  · exact absurd hlow (by decide)
  · exact absurd hhigh (by decide)

theorem applyBeacon_heard (hs : c.state = .running) (hlow : 1 ≤ x.toNat) (hhigh : x.toNat ≤ 62) (p : Part) :
    applyBeacon x c p = beaconApplied x c p := by
  rw [applyBeacon_eq hs hlow hhigh, beaconApplied]

theorem beaconApplied_stc (x : StationNo) (c : BeaconContent) (p : Part) : (beaconApplied x c p).stc = p.stc := by
  have hall := (passes_afterTaken x c p).stc.trans (moves_beaconTaken x c p).stc
  unfold beaconApplied
  exact hall

/-! ## The ring gives up its telegram -/

@[simp] theorem popRing_stc (q : Part) : (popRing q).stc = q.stc := rfl
@[simp] theorem popRing_anu (q : Part) : (popRing q).anu = q.anu := rfl
@[simp] theorem popRing_hou (q : Part) : (popRing q).hou = q.hou := rfl
@[simp] theorem popRing_cnp (q : Part) : (popRing q).cnp = q.cnp := rfl
@[simp] theorem view_popRing (q : Part) (a : Area) : view (popRing q) a = view q a := rfl
@[simp] theorem holds_popRing (q : Part) (a : Area) : holds (popRing q) a = holds q a := rfl
@[simp] theorem heardRecord_popRing (q : Part) (y : StationNo) : heardRecord (popRing q) y = heardRecord q y := rfl

@[simp] theorem popRing_slots (q : Part) : (popRing q).lif.slots = q.lif.slots := by
  change (match q.lif.ring with
    | [] => q.lif
    | x :: rest => { q.lif with ring := rest, readPos := (q.lif.readPos + itemSize x) % Config.ringBytes }).slots = _
  split <;> rfl

/-! ## The fields of a recorded holder -/

/-- What a record taken from an item says (R93). -/
theorem fields_of_record {v w : View} {per : PeriodCode} (h : v.record = (holderFrom x per i w).record) :
    v.holder = x ∧ v.attended = i.attended ∧ v.holderCount = i.count ∧ v.holderSignature = i.signature ∧
      v.holderLoad = i.load ∧ v.holderPeriod = per ∧ v.age = 0 ∧ v.relinquished = false := by
  have hholder := congrArg View.holder h
  have hattended := congrArg View.attended h
  have hcount := congrArg View.holderCount h
  have hsignature := congrArg View.holderSignature h
  have hload := congrArg View.holderLoad h
  have hperiod := congrArg View.holderPeriod h
  have hage := congrArg View.age h
  have hrelinquished := congrArg View.relinquished h
  exact ⟨hholder, hattended, hcount, hsignature, hload, hperiod, hage, hrelinquished⟩

theorem standing_of_record {v w : View} (h : v.record = w.record) :
    v.holder = w.holder ∧ v.attended = w.attended ∧ v.age = w.age := by
  have hholder := congrArg View.holder h
  have hattended := congrArg View.attended h
  have hage := congrArg View.age h
  exact ⟨hholder, hattended, hage⟩

/-! ## The comparison's figures as the statement writes them -/

/-- The mark that the recording leaves: a changed holder drops an OWED request (log 17). -/
theorem markTaken_eq (x : StationNo) (v : View) :
    markTaken x v = if decide (v.holder = x) = false ∧ v.syncMark = .owed then .none else v.syncMark := by
  unfold markTaken SyncMark.unowed
  by_cases hx : v.holder = x
  · simp [hx]
  · simp [hx]

/-- The comparison's count: a changed holder starts it anew. -/
theorem mismatchAfter_taken (i : BeaconItem) (p : Part) (x : StationNo) (v : View) :
    mismatchAfter i p (if v.holder = x then v.mismatch else 0) =
      if agreesWith i p = true then 0 else if decide (v.holder = x) = true then min 2 (v.mismatch + 1) else 1 := by
  unfold mismatchAfter
  by_cases hx : v.holder = x <;> simp [hx]

/-- The mark of a request issued: OWED where the link takes none, and one of the two where it does (R104). -/
theorem Issued.marked {a : Area} {m : Nat} {su : Bool} (h : Issued a m su q) (hstc : q.stc = p.stc) :
    (isolated p = true → (view q a).syncMark = .owed) ∧
      (sendingOpen p = true → (view q a).syncMark = .queued ∨ (view q a).syncMark = .owed) := by
  refine ⟨fun hiso => h.barred ?_, fun _ => h.mark⟩
  rw [sendingOpen_congr hstc, sendingOpen, starting, running, of_decide_eq_true hiso]
  rfl

/-- What the three outcomes of a comparison come to: the request asked for by `D`, the one of start-up by `U`, or none. -/
theorem comparison_clauses {a : Area} {m n : Nat} {su : Bool} {k : SyncMark} {D U : Prop} (hstc : q.stc = p.stc)
    (hask : D → Issued a m su q) (hserve : ¬D → U → Issued a m false q) (hidle : ¬D → ¬U → Marks a x m n su k q) :
    (view q a).mismatch = m ∧
      (D ∨ U → (view q a).resync = 30 ∧ (isolated p = true → (view q a).syncMark = .owed) ∧
        (sendingOpen p = true → (view q a).syncMark = .queued ∨ (view q a).syncMark = .owed)) ∧
      (D → (view q a).startup = su) ∧ (¬D → U → (view q a).startup = false) ∧
      (¬D → ¬U → (view q a).resync = n ∧ (view q a).startup = su ∧ (k ≠ .owed → (view q a).syncMark = k)) := by
  by_cases hd : D
  · have h := hask hd
    exact ⟨h.mismatch, fun _ => ⟨h.resync, h.marked hstc⟩, fun _ => h.startup, fun hn => absurd hd hn, fun hn => absurd hd hn⟩
  · by_cases hu : U
    · have h := hserve hd hu
      exact ⟨h.mismatch, fun _ => ⟨h.resync, h.marked hstc⟩, fun h => absurd h hd, fun _ _ => h.startup,
        fun _ hn => absurd hu hn⟩
    · have h := hidle hd hu
      exact ⟨h.mismatch, fun hor => absurd hor (not_or.2 ⟨hd, hu⟩), fun h => absurd h hd, fun _ h => absurd h hu,
        fun _ _ => ⟨h.resync, h.startup, fun hk => (h.clear hk).1⟩⟩

end Sys2Proof.Machine

open Sys2Proof.Machine in
/-- Settles O43: `beaconApplied` says what the beacon makes of the part; a listed area is followed through its own item (the
`listed_` lemmas), an omitted one by `omitted_cleared`, and the clauses on a beacon of one item or of none by the events that
one item, or the omissions, store. The telegram then leaves the ring, which no clause reads. -/
theorem beaconUpdatesViews : Obligations.BeaconUpdatesViews := by
  intro s t c hnext hp
  refine ⟨fun hdrop => ?_, fun hs hlow hhigh hl => ?_⟩
  · rw [exec_takeBeacon hnext hp, applyBeacon_dropped hdrop, popRing_of_nextTelegram hnext rfl]
  have hx : t.source ≠ 0 := fun h0 => absurd hlow (by rw [h0]; decide)
  have hexec := exec_takeBeacon hnext hp
  rw [applyBeacon_heard hs hlow hhigh] at hexec
  have hstc := beaconApplied_stc t.source c s.part
  refine ⟨_, hexec, withPart_pending .., ?_⟩
  simp only [withPart_part, popRing_stc, popRing_anu, popRing_hou, popRing_cnp, view_popRing, holds_popRing,
    heardRecord_popRing, popRing_slots]
  refine ⟨hstc, ?heard, ?others, fun i hi => ?listed, fun i hi hh hset hr howed hout => ?compared, fun a hc hn ha => ?omitted,
    ?yielded, fun i hone hh hyield => ?conflict, fun hempty hroom => ?lost, fun i hone hkept he hem hnone hroom => ?tripped⟩
  case heard => exact (heardRecord_beaconEnd t.source c s.part).1
  case others => exact (heardRecord_beaconEnd t.source c s.part).2
  case listed =>
    refine ⟨listed_emergency hl hi t.source s.part, fun hh hr => ?_, fun hh h0 hlower => ?_, fun hh hyield => ?_,
      fun hh hhigher => listed_kept hl hi hh hhigher, fun hkept he hem hann => listed_trip hl hi hkept he hem hann⟩
    · obtain ⟨hrecord, hnot⟩ := listed_taken hl hi hx hh hr
      obtain ⟨h1, h2, h3, h4, h5, h6, h7, h8⟩ := fields_of_record hrecord
      exact ⟨h1, h2, h3, h4, h5, h6, h7, h8, hnot⟩
    · exact standing_of_record (listed_lower hl hi hh h0 hlower)
    · obtain ⟨hrecord, hnot⟩ := listed_yielded hl hi hx hh hyield
      obtain ⟨hholder, hattended, -⟩ := fields_of_record hrecord
      exact ⟨hnot, hholder, hattended⟩
  case compared =>
    obtain ⟨hask, hqueued, hserve, hidle⟩ := listed_compared hl hi hx hh hset hr howed hout rfl
      (n := if decide ((view s.part i.area).holder = t.source) = true then (view s.part i.area).resync else 0) (by simp)
      rfl (markTaken_eq ..).symm
    simp only [asksFor, mismatchAfter_taken] at hask hqueued hserve hidle
    generalize beaconApplied t.source c s.part = u at hstc hask hqueued hserve hidle ⊢
    obtain ⟨hmismatch, hissued, hstartup, hserved, hnone⟩ := comparison_clauses hstc hask hserve hidle
    exact ⟨hmismatch, hissued, hqueued, hstartup, hserved, hnone⟩
  case omitted =>
    unfold beaconApplied
    exact omitted_cleared hc hn ha
  case yielded =>
    unfold beaconApplied
    exact yielded_beaconEnd hl t.source s.part
  case conflict => exact one_yielded hone hx hh hyield
  case lost =>
    unfold beaconApplied
    exact omitted_events hempty t.source s.part hroom
  case tripped =>
    unfold beaconApplied
    exact tripped_one hone hkept he hem hnone hroom
end
